-- ==== Sys2Proof/Word.lean ====
section
/-! DEFINITION. The words, numbers and names of the part (00 sections 4.1 to 4.4). -/

namespace Sys2Proof

/-- One byte of a frame. -/
abbrev Byte := BitVec 8

/-- A register word (00 section 4.1: a word is 32 bits). -/
abbrev Word := BitVec 32

/-- A timebase value in microseconds, wrapping (R109). -/
abbrev Time := BitVec 32

/-- A word address at a station (00 section 4.1: 20-bit word addresses). -/
abbrev Addr := BitVec 20

/-- The two masters (00 section 4.3). -/
inductive Master where
  | m0
  | m1
deriving DecidableEq, Repr

/-- "The other master" (00 section 4.3). -/
def Master.other : Master → Master
  | .m0 => .m1
  | .m1 => .m0

/-- A lane L0 to L11. -/
abbrev LaneId := Fin 12

/-- A window slot W0 to W3 of a lane (R93). -/
abbrev SlotId := Fin 4

/-- A context C0 to C31 (R57). -/
abbrev CtxId := Fin 32

/-- A claim record K0 to K7 (R122); its number is the claim ID. -/
abbrev ClaimId := Fin 8

/-- A station of a lane, 0 to 3. -/
abbrev Station := Fin 4

/-- A deadline class 0 to 3 (R111). -/
abbrev ClassId := Fin 4

/-- A programmable group 0 to 14 (R21). -/
abbrev Group := Fin 15

/-- A target that has a directory entry: target ID 1 to 63, held as the ID less 1 (there is no entry
for target ID 0, 01 section 1.1). -/
abbrev Target := Fin 63

/-- The target ID, 1 to 63. -/
def targetId (t : Target) : Nat := t.val + 1

/-- The target of an ID, where the ID is 1 to 63. -/
def targetOf (id : Nat) : Option Target :=
  if h : 1 ≤ id ∧ id ≤ 63 then some ⟨id - 1, by omega⟩ else none

/-- Every target, in ascending target ID. -/
def allTargets : List Target := List.finRange 63

/-- The number `n` where it is below `k`. -/
def finOf (k n : Nat) : Option (Fin k) :=
  if h : n < k then some ⟨n, h⟩ else none

end Sys2Proof
end

