-- ==== Sys2Proof/Config.lean ====
section
/-! DEFINITION. What the part fixes (00 section 1.1 and the durations of the chapters) and the two values the spec
leaves open. -/

namespace Sys2Proof.Config

/-- Identity of the part (R181). -/
def vendorCode : Nat := 0x4C3
def partCode : Nat := 0xA12
def revision : Nat := 2

/-- Response slots of each master (R170). -/
def responseSlots : Nat := 24

/-- Request credit granted at training, and size of the receive buffer (R164, R161). -/
def requestCredit : Nat := 4

/-- Greatest response credit of a port (R161, R169). -/
def maxResponseCredit : Nat := 16

/-- Legs a lane queue holds (R91). -/
def laneQueueDepth : Nat := 16

/-- Fault records the queue holds (R149). -/
def recordQueueDepth : Nat := 16

/-- Words of data a LIST response may need at most (R30). -/
def listLimit : Nat := 240

/-- Contexts of the pool, the greatest sum of the quotas (R55). -/
def contextPool : Nat := 32

/-- HELLO interval of training, in microseconds (R85, R163). -/
def helloInterval : Nat := 200

/-- HELLOs sent before training fails (R87, R163). -/
def maxHellos : Nat := 50

/-- Wait in DOWN before training again (R87, R163). -/
def retryWait : Nat := 100000

/-- Silence of the A12 after which it sends an IDLE (R88, R165). -/
def keepalive : Nat := 100

/-- Silence of the partner after which the link or lane is lost (R88, R165). -/
def lossTime : Nat := 1000

/-- REFCLK periods of the start-up hold (R184). -/
def holdPeriods : Nat := 50000

/-- REFCLK periods of one microsecond (R109). -/
def periodsPerMicrosecond : Nat := 25

/-- Bytes of a collection at which a receiver abandons the frame (R186). -/
def maxCollection : Nat := 1024

/-- Words that a successful LEG-BACK of the unassigned operation code 3 returns. R187 gives the length of a
LEG-BACK for READ, WRITE and MODIFY only. A free value (log 8): nothing can be proved of it. -/
opaque reservedOpWords : Byte → Nat

/-- Whether the Lane Engines take their parts of this fabric reset, counted from the first, in events of their own after
the other blocks' parts (R80, R182 allow both). A free value (log 33): nothing can be proved of it. -/
opaque laneResetsApart : Nat → Bool

end Sys2Proof.Config
end

