-- ==== Sys2Proof/Syntax.lean ====
section
/-! DEFINITION. The commands of the part: one constructor for each row of spec/opcode_table.json, and the types
of their operands (frames as they arrive, R185 to R187 and section 11.3). -/

namespace Sys2Proof

/-- What one 10-bit code received stands for (R185): a control symbol, a data byte, or no symbol. -/
inductive Symbol where
  | sof
  | eof
  | fill
  | data (b : Byte)
  | noSymbol
deriving DecidableEq, Repr

/-- The condition of a receiver (R186): hunting, or in frame with the bytes collected so far. -/
inductive Receiver where
  | hunting
  | inFrame (bytes : List Byte)
deriving DecidableEq, Repr

/-- How a collection ends (R186): bad CRC, or a frame handed on without its CRC. -/
inductive FrameEnd where
  | badCrc
  | handedOn (frame : List Byte)
deriving DecidableEq, Repr

/-- A REQUEST with a complete header (section 11.3): the tag, the request kind byte, the destination byte and
the bytes from byte 4 on. -/
structure RawRequest where
  tag  : Byte
  kind : Byte
  dest : Byte
  rest : List Byte
deriving DecidableEq, Repr

/-- A LEG-BACK (section 11.3): sequence number, station and operation (byte 2, reserved bits ignored), result
(byte 3: error when 1), the count or target code (byte 4) and the bytes from byte 5 on. -/
structure LegBackFrame where
  seq     : Byte
  station : BitVec 2
  op      : BitVec 2
  error   : Bool
  arg     : Byte
  rest    : List Byte
deriving DecidableEq, Repr

/-- What a frame handed on at a master port is (R187). -/
inductive UpFrameRead where
  | hello (value : Byte)
  | idle
  | credit (count : Byte)
  | request (r : RawRequest)
  | malformed
deriving DecidableEq, Repr

/-- What a frame handed on at a lane is (R187, R90). -/
inductive LaneFrameRead where
  | hello (stations : Byte)
  | idle
  | legBack (f : LegBackFrame)
  | malformed
deriving DecidableEq, Repr

/-- The parameters of DIR-WRITE as its 18 bytes give them (section 11.3). -/
structure DirParams where
  target      : Byte
  presence    : Byte
  lane        : Byte
  station     : Byte
  base        : BitVec 24
  length      : BitVec 24
  accessM0    : Byte
  accessM1    : Byte
  memberCount : Byte
  member1     : Byte
  member2     : Byte
  member3     : Byte
  deadline    : Byte
  threshold   : Byte
deriving DecidableEq, Repr

/-- A management operation with its parameters, as a HUB request carries it (section 11.3, operation codes). -/
inductive HubOp where
  | ident
  | dirRead (target copy : Byte)
  | dirWrite (p : DirParams)
  | discard
  | commit
  | statusRead (target : Byte)
  | revive (target : Byte)
  | groupRead (group copy : Byte)
  | groupWrite (group enabled rightsM0 rightsM1 : Byte)
  | quotaRead
  | quotaWrite (quotaM0 quotaM1 : Byte)
  | laneRead (lane : Byte)
  | laneControl (lane action : Byte)
  | deadlineRead
  | deadlineWrite (cls mantissa scale : Byte)
  | claim (kind number : Byte) (lease drain : BitVec 16)
  | renew (claimId : Byte)
  | release (claimId : Byte)
  | actionRead
  | actionWrite (source action : Byte)
  | faultRead
  | faultPop
  | faultClear (sources : BitVec 24)
  | levelRead
  | levelWrite (master internal fabric link target floor : Byte)
  | alertAck
  | rightsWrite (rights : Byte)
  | resume
  | fabricReset
deriving DecidableEq, Repr

/-- The commands: one constructor for each row of spec/opcode_table.json. A management operation names the
master, the tag and the parameters of the HUB request whose intake event it is (log 6). -/
inductive Instr where
  -- reset pin and start-up (R184)
  | resetNLow
  | startUpHoldEnd
  | resetNRise
  -- frames from a master (R164 to R169)
  | request (m : Master) (r : RawRequest)
  | credit (m : Master) (count : Byte)
  | masterHello (m : Master) (value : Byte)
  | upIdle (m : Master)
  | upBadCrcFrame (m : Master) (symbols : List Symbol)
  | upMalformedFrame (m : Master) (frame : List Byte)
  -- timers of an upstream link (R163, R165) and its transmitter (R171)
  | linkHelloInterval (m : Master)
  | linkTrainingFailure (m : Master)
  | linkRetry (m : Master)
  | linkKeepalive (m : Master)
  | linkLoss (m : Master)
  | transmitArbiter (m : Master)
  -- the Intake Unit (R39)
  | intakeTake
  -- management operations (R176)
  | ident (m : Master) (tag : Byte)
  | dirRead (m : Master) (tag target copy : Byte)
  | dirWrite (m : Master) (tag : Byte) (p : DirParams)
  | discard (m : Master) (tag : Byte)
  | commit (m : Master) (tag : Byte)
  | statusRead (m : Master) (tag target : Byte)
  | revive (m : Master) (tag target : Byte)
  | groupRead (m : Master) (tag group copy : Byte)
  | groupWrite (m : Master) (tag group enabled rightsM0 rightsM1 : Byte)
  | quotaRead (m : Master) (tag : Byte)
  | quotaWrite (m : Master) (tag quotaM0 quotaM1 : Byte)
  | laneRead (m : Master) (tag lane : Byte)
  | retrain (m : Master) (tag lane : Byte)
  | fence (m : Master) (tag lane : Byte)
  | unfence (m : Master) (tag lane : Byte)
  | enable (m : Master) (tag lane : Byte)
  | disable (m : Master) (tag lane : Byte)
  | autoOn (m : Master) (tag lane : Byte)
  | autoOff (m : Master) (tag lane : Byte)
  | deadlineRead (m : Master) (tag : Byte)
  | deadlineWrite (m : Master) (tag cls mantissa scale : Byte)
  | claim (m : Master) (tag kind number : Byte) (lease drain : BitVec 16)
  | renew (m : Master) (tag claimId : Byte)
  | release (m : Master) (tag claimId : Byte)
  | actionRead (m : Master) (tag : Byte)
  | actionWrite (m : Master) (tag source action : Byte)
  | faultRead (m : Master) (tag : Byte)
  | faultPop (m : Master) (tag : Byte)
  | faultClear (m : Master) (tag : Byte) (sources : BitVec 24)
  | levelRead (m : Master) (tag : Byte)
  | levelWrite (m : Master) (tag master internal fabric link target floor : Byte)
  | alertAck (m : Master) (tag : Byte)
  | rightsWrite (m : Master) (tag rights : Byte)
  | resume (m : Master) (tag : Byte)
  | fabricReset (m : Master) (tag : Byte)
  -- frames from a device (R86, R89, R90, R95 to R97)
  | legBack (l : LaneId) (f : LegBackFrame)
  | deviceHello (l : LaneId) (stations : Byte)
  | laneIdle (l : LaneId)
  | laneBadCrcFrame (l : LaneId) (symbols : List Symbol)
  | laneMalformedFrame (l : LaneId) (frame : List Byte)
  -- timers of a lane (R85, R87, R88, R98)
  | laneHelloInterval (l : LaneId)
  | laneTrainingFailure (l : LaneId)
  | laneRetry (l : LaneId)
  | laneKeepalive (l : LaneId)
  | laneLoss (l : LaneId)
  | legExpiry (l : LaneId) (w : SlotId)
  -- the Lane Engine's issue and transmitter (R94)
  | issue (l : LaneId)
  | laneTransmitterFree (l : LaneId)
  -- timers of a claim (R129, R132)
  | drainDeadline (k : ClaimId)
  | leaseExpiry (k : ClaimId)
deriving DecidableEq, Repr

end Sys2Proof
end

