-- ==== Sys2Proof/Decode.lean ====
section
/-! DEFINITION. Reading the lines: the CRC, the receiver, what a frame is (R185 to R187), and the table's words
(none: no row of spec/opcode_table.json gives bits). -/

namespace Sys2Proof

/-- One bit of the CRC register (R185: polynomial x^16+x^12+x^5+1, no reflection). -/
def crcBit (c : BitVec 16) : BitVec 16 :=
  if c.msb then (c <<< 1) ^^^ 0x1021#16 else c <<< 1

/-- One byte taken into the CRC register, most significant bit first. -/
def crcByte (c : BitVec 16) (b : Byte) : BitVec 16 :=
  crcBit (crcBit (crcBit (crcBit (crcBit (crcBit (crcBit (crcBit (c ^^^ (b ++ 0#8)))))))))

/-- The CRC over the kind byte and the body (R185: initial value 0xFFFF, no final XOR). -/
def crc16 (bytes : List Byte) : BitVec 16 :=
  bytes.foldl crcByte 0xFFFF#16

/-- The two CRC bytes, most significant first (R185). -/
def crcBytes (bytes : List Byte) : List Byte :=
  [(crc16 bytes).extractLsb' 8 8, (crc16 bytes).extractLsb' 0 8]

/-- The check of a frame that has ended (R186). -/
def checkFrame (collected : List Byte) : FrameEnd :=
  let frame := collected.take (collected.length - 2)
  if collected.length < 3 then .badCrc
  else if collected.drop (collected.length - 2) = crcBytes frame then .handedOn frame
  else .badCrc

/-- A frame of so many bytes and its CRC can be handed on: at least 3 bytes, collected before there are 1,024 (R186). -/
def frameFits (bytes : Nat) : Bool :=
  decide (1 ≤ bytes ∧ bytes + 2 < Config.maxCollection)

/-- One symbol at a receiver (the table of R186). -/
def receiveSymbol : Receiver → Symbol → Receiver × Option FrameEnd
  | .hunting, .sof => (.inFrame [], none)
  | .hunting, _ => (.hunting, none)
  | .inFrame bytes, .fill => (.inFrame bytes, none)
  | .inFrame bytes, .data b =>
    if bytes.length + 1 < Config.maxCollection then (.inFrame (bytes ++ [b]), none)
    else (.hunting, some .badCrc)
  | .inFrame _, .sof => (.inFrame [], some .badCrc)
  | .inFrame bytes, .eof => (.hunting, some (checkFrame bytes))
  | .inFrame _, .noSymbol => (.hunting, some .badCrc)

/-- A run of symbols at a receiver: the condition it is left in and every end of a frame on the way. -/
def receiveSymbols : Receiver → List Symbol → Receiver × List FrameEnd
  | r, [] => (r, [])
  | r, x :: xs =>
    let (r', e) := receiveSymbol r x
    let (r'', es) := receiveSymbols r' xs
    (r'', e.toList ++ es)

/-- The symbols of a frame on the line (section 11.1). -/
def lineSymbols (frame : List Byte) : List Symbol :=
  .sof :: ((frame ++ crcBytes frame).map .data ++ [.eof])

/-- What a frame handed on at a master port is: its kind byte and body against section 11.2 (R187, R167). -/
def readUpFrame : List Byte → UpFrameRead
  | [] => .malformed
  | kind :: body =>
    match kind.toNat, body with
    | 0x01, [value] => .hello value
    | 0x02, [] => .idle
    | 0x03, [count] => .credit count
    | 0x10, tag :: rkind :: dest :: rest =>
      if rest.length ≤ 36 then .request ⟨tag, rkind, dest, rest⟩ else .malformed
    | _, _ => .malformed

/-- Bytes that follow byte 4 of a LEG-BACK (R187: 4 bytes for each word its operation returns; none for an
error; log 8 for operation code 3). -/
def legBackBytes (op : BitVec 2) (error : Bool) (arg : Byte) : Nat :=
  if error then 0
  else match op.toNat with
    | 0 => 4 * arg.toNat
    | 1 => 0
    | 2 => 4
    | _ => 4 * Config.reservedOpWords arg

/-- The length of a LEG-BACK agrees with its own count and result (R90, R187). -/
def legBackLengthOk (f : LegBackFrame) : Bool :=
  f.rest.length == legBackBytes f.op f.error f.arg

/-- The bytes of a REQUEST: kind byte, tag, request kind, destination and what follows (section 11.3). -/
def RawRequest.bytes (r : RawRequest) : Nat := 4 + r.rest.length

/-- The bytes of a LEG-BACK: kind byte, bytes 1 to 4 and what follows (section 11.3). -/
def LegBackFrame.bytes (f : LegBackFrame) : Nat := 5 + f.rest.length

/-- What a frame handed on at a lane is (R187, R90; a LEG-BACK whose result byte is neither 0 nor 1 cannot be
parsed). -/
def readLaneFrame : List Byte → LaneFrameRead
  | [] => .malformed
  | kind :: body =>
    match kind.toNat, body with
    | 0x01, [stations] => .hello stations
    | 0x02, [] => .idle
    | 0x21, seq :: place :: result :: arg :: rest =>
      let f : LegBackFrame := ⟨seq, place.extractLsb' 0 2, place.extractLsb' 4 2, result == 1#8, arg, rest⟩
      if result.toNat ≤ 1 && legBackLengthOk f then .legBack f else .malformed
    | _, _ => .malformed

/-- The command that a frame handed on at master Mx's port is. -/
def upCommand (m : Master) (frame : List Byte) : Instr :=
  match readUpFrame frame with
  | .hello value => .masterHello m value
  | .idle => .upIdle m
  | .credit count => .credit m count
  | .request r => .request m r
  | .malformed => .upMalformedFrame m frame

/-- The command that a frame handed on at a lane is. -/
def laneCommand (l : LaneId) (frame : List Byte) : Instr :=
  match readLaneFrame frame with
  | .hello stations => .deviceHello l stations
  | .idle => .laneIdle l
  | .legBack f => .legBack l f
  | .malformed => .laneMalformedFrame l frame

/-- The command that a word of the table spells. No row of the table gives bits, so there is none (log 17). -/
def decodeTableWord (_nbits _w : Nat) : Option Instr :=
  none

end Sys2Proof
end

