-- ==== Sys2Proof/Machine/State.lean ====
section
/-! DEFINITION. The state of the part: every record, table, queue, timer and counter the chapters give it, the
value of each after full reset, and the reasons a step could stop. -/

namespace Sys2Proof.Machine

/-- Why the part stops. The spec stops the part nowhere: what it calls a fault is an occurrence that the Fault
Collector takes (R139 to R146) and the part goes on. So no command raises a stop, and there is no
constructor. Safe: no statement can be made true by a stop. -/
inductive Fault where
deriving DecidableEq, Repr

/-- Why a command is refused. -/
inductive Refusal where
  /-- Raised by an arm of exec for a command that has no meaning yet (none is left). Safe. -/
  | notModelled (mnemonic : String)
deriving DecidableEq, Repr

/-! ## Tables (chapters 1 and 2) -/

/-- Access of a master to a target or a group (01 section 1.1, 02 section 2.1). -/
inductive Access where
  | none
  | read
  | readWrite
deriving DecidableEq, Repr

/-- A directory entry (01 section 1.1). -/
structure DirEntry where
  present     : Bool
  lane        : LaneId
  station     : Station
  base        : Addr
  length      : Nat
  accessM0    : Access
  accessM1    : Access
  memberships : List Group
  deadline    : ClassId
  threshold   : Nat
deriving DecidableEq, Repr

/-- The full-reset values of an entry, which an ABSENT entry always holds (01 section 1.1). -/
def DirEntry.absent : DirEntry where
  present := false
  lane := 0
  station := 0
  base := 0
  length := 1
  accessM0 := .none
  accessM1 := .none
  memberships := []
  deadline := 0
  threshold := 0

/-- An active entry with its integrity check: `corrupt` when the stored fields no longer agree with the check
(01 section 1.5; log 7). -/
structure ActiveEntry where
  entry   : DirEntry
  corrupt : Bool
deriving DecidableEq, Repr

/-- A Group Table entry (02 section 2.1). -/
structure GroupEntry where
  enabled  : Bool
  rightsM0 : Access
  rightsM1 : Access
deriving DecidableEq, Repr

/-- The full-reset values of a Group Table entry. -/
def GroupEntry.initial : GroupEntry where
  enabled := false
  rightsM0 := .none
  rightsM1 := .none

/-- Health of a target (01 section 1.4). -/
inductive Health where
  | healthy
  | quarantined
deriving DecidableEq, Repr

/-- A Target Status record (01 section 1.4). -/
structure TargetRecord where
  health      : Health
  consecutive : Nat
  inFlightM0  : Nat
  inFlightM1  : Nat
  errors      : Nat
deriving DecidableEq, Repr

/-- The full-reset values of a Target Status record. -/
def TargetRecord.initial : TargetRecord where
  health := .healthy
  consecutive := 0
  inFlightM0 := 0
  inFlightM1 := 0
  errors := 0

/-! ## Contexts and legs (chapter 4) -/

/-- Combine of a GREAD (02 section 2.5). -/
inductive Combine where
  | or
  | and
  | matching
  | list
deriving DecidableEq, Repr

/-- Kind of an admitted request; the combine exists in a GREAD only (R26). -/
inductive Kind where
  | read
  | write
  | modify
  | gread (combine : Combine)
  | gwrite
  | gmodify
deriving DecidableEq, Repr

/-- Data of a request: count words, or the set and clear masks (R42). -/
inductive Payload where
  | none
  | words (ws : List Word)
  | masks (setMask clearMask : Word)
deriving DecidableEq, Repr

/-- Outcome of a leg (04 section 4.2); TARGET_ERROR carries the target code. -/
inductive LegOutcome where
  | ok
  | denied
  | range
  | held
  | quarantined
  | laneDown
  | fenced
  | noStation
  | targetError (code : Byte)
  | timeout
  | badResponse
  | cancelled
deriving DecidableEq, Repr

/-- State of a leg; a DONE leg has its outcome (R59). -/
inductive LegState where
  | pending
  | queued
  | issued
  | done (outcome : LegOutcome)
deriving DecidableEq, Repr

/-- A leg record (04 section 4.2). -/
structure Leg where
  target   : Target
  lane     : LaneId
  station  : Station
  addr     : Addr
  deadline : ClassId
  state    : LegState
  data     : Option (List Word)
deriving DecidableEq, Repr

/-- ACTIVE contexts have a tag, ORPHAN contexts have none (04 section 4.1). -/
inductive CtxState where
  | active (tag : Byte)
  | orphan
deriving DecidableEq, Repr

/-- A context that is not FREE (04 section 4.1). -/
structure Ctx where
  state        : CtxState
  master       : Master
  kind         : Kind
  count        : Nat
  payload      : Payload
  admission    : BitVec 32
  generation   : BitVec 16
  legs         : List Leg
  unfinished   : Nat
  legsOk       : Nat
  firstFailure : Option (Target × LegOutcome)
  accumulator  : Option (List Word)
  mismatch     : Option Target
deriving DecidableEq, Repr

/-- A reference to one leg of one context. A context holds at most one leg to a given target (01 section 1.4),
so the target names the leg (log 31). -/
structure LegRef where
  ctx    : CtxId
  target : Target
deriving DecidableEq, Repr

/-! ## Lanes (chapter 5) -/

/-- Lane states (R84). -/
inductive LaneState where
  | disabled
  | training
  | up
  | fenced
  | down
deriving DecidableEq, Repr

/-- A window slot (05 section 5.1). The leg of an ISSUED slot is the context's leg to the target. -/
inductive Slot where
  | free
  | issued (seq : Byte) (ctx : CtxId) (master : Master) (target : Target) (deadline : Time)
  | expired (seq : Byte) (master : Master) (target : Target)
deriving DecidableEq, Repr

/-- Operation of a LEG-OUT and its data (the second table of R94). -/
inductive LegOp where
  | read
  | write (ws : List Word)
  | modify (setMask clearMask : Word)
deriving DecidableEq, Repr

/-- A LEG-OUT frame (R94 step 5). -/
structure LegOut where
  seq     : Byte
  station : Station
  op      : LegOp
  addr    : Addr
  count   : Nat
deriving DecidableEq, Repr

/-- The frames the A12 sends on a lane (section 11.2). -/
inductive LaneFrame where
  | hello
  | idle
  | legOut (f : LegOut)
deriving DecidableEq, Repr

/-- A lane record (05 section 5.1), with the time of the most recent HELLO that the HELLO timers of R110 run
from (log 10), the transmitter of R94 (log 13) and the receiver of R186 (log 14). -/
structure Lane where
  state        : LaneState
  enabled      : Bool
  autoRetrain  : Bool
  contact      : Bool
  stations     : Nat
  nextSeq      : Byte
  hellosSent   : Nat
  helloTime    : Option Time
  retryTime    : Option Time
  lastReceived : Option Time
  lastSent     : Option Time
  queue        : List LegRef
  window       : Vector Slot 4
  line         : Option LaneFrame
  waiting      : List LaneFrame
  receiver     : Receiver
deriving DecidableEq, Repr

/-- The full-reset column of the lane record. -/
def Lane.initial : Lane where
  state := .training
  enabled := true
  autoRetrain := true
  contact := false
  stations := 0
  nextSeq := 0
  hellosSent := 0
  helloTime := none
  retryTime := none
  lastReceived := none
  lastSent := none
  queue := []
  window := Vector.replicate 4 .free
  line := none
  waiting := []
  receiver := .hunting

/-! ## Deadline classes (chapter 6) -/

/-- A deadline class: its duration is the mantissa times 2 to the scale (06 section 6.2). -/
structure DeadlineClass where
  mantissa : Nat
  scale    : Nat
deriving DecidableEq, Repr

/-! ## Claims (chapter 7) -/

/-- A claim is DRAINING, with the tag of its CLAIM and the drain deadline, or HELD, with a lease deadline when
its lease is not 0 (07 section 7.1). -/
inductive ClaimState where
  | draining (tag : Byte) (deadline : Time)
  | held (leaseDeadline : Option Time)
deriving DecidableEq, Repr

/-- A claim record in use (07 section 7.1), with the generation current when the set was resolved, which its
answer carries (R128; log 11). -/
structure Claim where
  owner      : Master
  members    : List Target
  lease      : BitVec 16
  state      : ClaimState
  generation : BitVec 16
deriving DecidableEq, Repr

/-! ## Faults and alerts (chapter 8) -/

/-- Fault classes, in the fixed order of R155. -/
inductive FaultClass where
  | internal
  | fabric
  | link
  | target
deriving DecidableEq, Repr

/-- The 22 fault sources (08 section 8.1), in the order of their numbers. -/
inductive Source where
  | upCrc
  | upCredit
  | upLost
  | laneCrc
  | laneLost
  | laneTrainFail
  | laneStalled
  | frameMalformed
  | legTimeout
  | targetError
  | lateResponse
  | strayResponse
  | badResponse
  | targetQuarantined
  | dupTag
  | contextExhausted
  | claimDrainTimeout
  | claimExpired
  | rightsViolation
  | commitRejected
  | tableParity
  | recordsLost
deriving DecidableEq, Repr

/-- Actions of a source (R140). -/
inductive Action where
  | ignore
  | record
  | alert
  | isolate
  | halt
deriving DecidableEq, Repr

/-- Latch, count and action of one source (R139). -/
structure SourceRecord where
  latch  : Bool
  count  : Nat
  action : Action
deriving DecidableEq, Repr

/-- The fields a block reports with an occurrence (the "Record fields present" column of 08 section 8.1). -/
structure FaultFields where
  lane   : Option LaneId
  target : Option Target
  master : Option Master
  tag    : Option Byte
  detail : Option Byte
deriving DecidableEq, Repr

/-- A fault record (08 section 8.3). Its class is the class of its source. -/
structure FaultRecord where
  sequence : BitVec 16
  time     : Time
  source   : Source
  fields   : FaultFields
deriving DecidableEq, Repr

/-- What a pending class holds (R143). -/
structure Pended where
  source   : Source
  sequence : Option (BitVec 16)
deriving DecidableEq, Repr

/-- One value for each fault class. -/
structure PerClass (α : Type) where
  internal : α
  fabric   : α
  link     : α
  target   : α
deriving DecidableEq, Repr

/-- Alert state of one master (08 section 8.4). -/
structure AlertState where
  levels  : PerClass (Fin 4)
  floor   : Fin 4
  pending : PerClass (Option Pended)
  busy    : Bool
deriving DecidableEq, Repr

/-- An ALERT frame (R155). -/
structure Alert where
  cls      : FaultClass
  source   : Source
  sequence : Option (BitVec 16)
  time     : Time
deriving DecidableEq, Repr

/-! ## Master ports (chapter 9) and responses (chapter 11) -/

/-- Link states (R162). -/
inductive LinkState where
  | down
  | training
  | up
deriving DecidableEq, Repr

/-- The status codes of section 11.4. -/
inductive Status where
  | ok
  | partialOk
  | failed
  | mismatch
  | empty
  | malformed
  | notReady
  | halted
  | noTarget
  | noGroup
  | denied
  | range
  | busy
  | tooLarge
  | held
  | quarantined
  | laneDown
  | fenced
  | noStation
  | targetError
  | timeout
  | badResponse
  | invalid
  | conflict
  | overlap
  | noRecord
  | cancelled
deriving DecidableEq, Repr

/-- The summary of a group response (R36). -/
structure Summary where
  total        : Nat
  ok           : Nat
  firstFailure : Option (Target × LegOutcome)
  mismatch     : Option Target
deriving DecidableEq, Repr

/-- One record of a LIST response (R34). -/
structure ListRecord where
  target  : Target
  outcome : LegOutcome
  data    : Option (List Word)
deriving DecidableEq, Repr

/-- The data of a response: words, LIST records, or the bytes of a target code or of management answer fields
(section 11.3). -/
inductive ResponseData where
  | none
  | words (ws : List Word)
  | records (rs : List ListRecord)
  | fields (bytes : List Byte)
deriving DecidableEq, Repr

/-- A RESPONSE (section 11.3): its optional parts are the ones its flags name. -/
structure Response where
  tag        : Byte
  status     : Status
  opcode     : Option Byte
  generation : Option (BitVec 16)
  summary    : Option Summary
  data       : ResponseData
deriving DecidableEq, Repr

/-- A NOTICE FABRIC_RESET (R173). -/
structure Notice where
  generation : BitVec 16
  time       : Time
deriving DecidableEq, Repr

/-- The frames the A12 sends upstream (section 11.2). -/
inductive UpFrame where
  | hello (grant : Nat)
  | idle
  | credit
  | response (r : Response)
  | alert (a : Alert)
  | notice (n : Notice)
deriving DecidableEq, Repr

/-- A port record (09 section 9.1), with the time of the most recent HELLO (log 10), whether the grant HELLO is
still to be sent (R171 line 1), the transmitter (log 12) and the receiver of R186 (log 14). -/
structure Port where
  link           : LinkState
  hellosSent     : Nat
  helloTime      : Option Time
  retryTime      : Option Time
  lastReceived   : Option Time
  lastSent       : Option Time
  requestCredit  : Nat
  creditsOwed    : Nat
  buffer         : List RawRequest
  responseCredit : Nat
  reserved       : Nat
  filled         : List Response
  alertReady     : Option Alert
  notice         : Option Notice
  grantWaiting   : Bool
  line           : Option UpFrame
  hellosWaiting  : Nat
  receiver       : Receiver
deriving DecidableEq, Repr

/-- The full-reset column of the port record. -/
def Port.initial : Port where
  link := .training
  hellosSent := 0
  helloTime := none
  retryTime := none
  lastReceived := none
  lastSent := none
  requestCredit := 0
  creditsOwed := 0
  buffer := []
  responseCredit := 0
  reserved := 0
  filled := []
  alertReady := none
  notice := none
  grantWaiting := false
  line := none
  hellosWaiting := 0
  receiver := .hunting

/-! ## The hub (chapter 10) -/

/-- Hub states (R177). -/
inductive HubState where
  | setup
  | run
  | halted
deriving DecidableEq, Repr

/-- Management rights (10 section 10.3). -/
inductive Rights where
  | none
  | read
  | full
deriving DecidableEq, Repr

/-- RESET_N is low, or the start-up hold runs with so many REFCLK periods left, or the part runs (R184), or the part
runs and the Lane Engines' parts of a fabric reset are still due (R80). The last keeps the contexts as they stood at the
Tracker's part: what the LEG-OUT frames carried, with which a Lane Engine compares a LEG-BACK (R95; log 26). -/
inductive Phase where
  | resetLow
  | holding (periods : Nat)
  | running
  | resetting (before : Vector (Option Ctx) 32)
deriving DecidableEq, Repr

/-- The state of the part, the queue of the commands that wait, and `fabricResets`: how many fabric resets there have been,
the place of the next one's free value `Config.laneResetsApart` (R80; log 33). -/
structure State where
  phase          : Phase
  timebase       : Time
  hub            : HubState
  rightsM1       : Rights
  quotaM0        : Nat
  quotaM1        : Nat
  roundRobin     : Master
  admission      : BitVec 32
  staged         : Vector DirEntry 63
  active         : Vector ActiveEntry 63
  generation     : BitVec 16
  stagedGroups   : Vector GroupEntry 15
  activeGroups   : Vector GroupEntry 15
  status         : Vector TargetRecord 63
  contexts       : Vector (Option Ctx) 32
  lanes          : Vector Lane 12
  classes        : Vector DeadlineClass 4
  claims         : Vector (Option Claim) 8
  sources        : Vector SourceRecord 22
  records        : List FaultRecord
  lostCount      : Nat
  nextRecord     : BitVec 16
  alertM0        : AlertState
  alertM1        : AlertState
  portM0         : Port
  portM1         : Port
  fabricResets   : Nat
  pending        : List Instr
deriving DecidableEq, Repr

/-- A source after full reset, with its default action (R139). -/
def SourceRecord.initial (a : Action) : SourceRecord where
  latch := false
  count := 0
  action := a

/-- The sources after full reset, in source number order, with the default actions of the source table (08
section 8.1). -/
def initialSources : Vector SourceRecord 22 :=
  #v[.initial .record, .initial .record, .initial .alert, .initial .record, .initial .alert, .initial .alert,
     .initial .isolate, .initial .record, .initial .record, .initial .ignore, .initial .record,
     .initial .record, .initial .alert, .initial .alert, .initial .record, .initial .ignore,
     .initial .record, .initial .alert, .initial .alert, .initial .record, .initial .halt, .initial .alert]

/-- The alert state of a master after full reset, with its default levels (08 section 8.4). -/
def AlertState.initial (levels : PerClass (Fin 4)) : AlertState where
  levels := levels
  floor := 0
  pending := ⟨none, none, none, none⟩
  busy := false

/-- The machine after full reset, RESET_N low (R184; log 15): every item at the value its chapter gives. -/
def State.reset : State where
  phase := .resetLow
  timebase := 0
  hub := .setup
  rightsM1 := .read
  quotaM0 := 16
  quotaM1 := 16
  roundRobin := .m0
  admission := 0
  staged := Vector.replicate 63 DirEntry.absent
  active := Vector.replicate 63 ⟨DirEntry.absent, false⟩
  generation := 0
  stagedGroups := Vector.replicate 15 GroupEntry.initial
  activeGroups := Vector.replicate 15 GroupEntry.initial
  status := Vector.replicate 63 TargetRecord.initial
  contexts := Vector.replicate 32 none
  lanes := Vector.replicate 12 Lane.initial
  classes := #v[⟨100, 0⟩, ⟨125, 3⟩, ⟨125, 7⟩, ⟨250, 12⟩]
  claims := Vector.replicate 8 none
  sources := initialSources
  records := []
  lostCount := 0
  nextRecord := 0
  alertM0 := AlertState.initial ⟨3, 2, 2, 1⟩
  alertM1 := AlertState.initial ⟨0, 0, 0, 0⟩
  portM0 := Port.initial
  portM1 := Port.initial
  fabricResets := 0
  pending := []

end Sys2Proof.Machine
end

