-- ==== Sys2Proof/Machine/Operands.lean ====
section
/-! DEFINITION. Reading the operands of a request (admission check 1, R42; the layouts and enumerations of section
11.3) and writing out the frames the A12 sends (R188, section 11.3, section 11.4). -/

namespace Sys2Proof.Machine

/-! ## Words of several bytes, most significant first (R185) -/

def wordOf (a b c d : Byte) : Word := a ++ b ++ c ++ d
def triple (a b c : Byte) : BitVec 24 := a ++ b ++ c
def pair (a b : Byte) : BitVec 16 := a ++ b

/-- Reads a run of whole words. -/
def readWords : List Byte → List Word
  | a :: b :: c :: d :: rest => wordOf a b c d :: readWords rest
  | _ => []

def bytes2 (x : BitVec 16) : List Byte := [x.extractLsb' 8 8, x.extractLsb' 0 8]
def bytes3 (x : BitVec 24) : List Byte := [x.extractLsb' 16 8, x.extractLsb' 8 8, x.extractLsb' 0 8]
def bytes4 (x : BitVec 32) : List Byte :=
  [x.extractLsb' 24 8, x.extractLsb' 16 8, x.extractLsb' 8 8, x.extractLsb' 0 8]
def byteOf (n : Nat) : Byte := BitVec.ofNat 8 n

/-! ## Operation codes and HUB parameters -/

/-- The operation code of a management operation (section 11.3). -/
def opcode : HubOp → Byte
  | .ident => 0x01
  | .dirRead _ _ => 0x02
  | .dirWrite _ => 0x03
  | .discard => 0x04
  | .commit => 0x05
  | .statusRead _ => 0x06
  | .revive _ => 0x07
  | .groupRead _ _ => 0x08
  | .groupWrite _ _ _ _ => 0x09
  | .quotaRead => 0x0A
  | .quotaWrite _ _ => 0x0B
  | .laneRead _ => 0x0C
  | .laneControl _ _ => 0x0D
  | .deadlineRead => 0x0E
  | .deadlineWrite _ _ _ => 0x0F
  | .claim _ _ _ _ => 0x10
  | .renew _ => 0x11
  | .release _ => 0x12
  | .actionRead => 0x13
  | .actionWrite _ _ => 0x14
  | .faultRead => 0x15
  | .faultPop => 0x16
  | .faultClear _ => 0x17
  | .levelRead => 0x18
  | .levelWrite _ _ _ _ _ _ => 0x19
  | .alertAck => 0x1A
  | .rightsWrite _ => 0x1B
  | .resume => 0x1C
  | .fabricReset => 0x1D

/-- Reads the operation code and the parameters of a HUB request; none where the code is not known or the
number of parameter bytes is not the operation's (R42). -/
def readHubOp (code : Byte) (ps : List Byte) : Option HubOp :=
  match code.toNat, ps with
  | 0x01, [] => some .ident
  | 0x02, [t, c] => some (.dirRead t c)
  | 0x03, [t, p, l, st, b2, b1, b0, n2, n1, n0, a0, a1, k, g1, g2, g3, d, th] =>
    some (.dirWrite ⟨t, p, l, st, triple b2 b1 b0, triple n2 n1 n0, a0, a1, k, g1, g2, g3, d, th⟩)
  | 0x04, [] => some .discard
  | 0x05, [] => some .commit
  | 0x06, [t] => some (.statusRead t)
  | 0x07, [t] => some (.revive t)
  | 0x08, [g, c] => some (.groupRead g c)
  | 0x09, [g, e, r0, r1] => some (.groupWrite g e r0 r1)
  | 0x0A, [] => some .quotaRead
  | 0x0B, [q0, q1] => some (.quotaWrite q0 q1)
  | 0x0C, [l] => some (.laneRead l)
  | 0x0D, [l, a] => some (.laneControl l a)
  | 0x0E, [] => some .deadlineRead
  | 0x0F, [c, m, k] => some (.deadlineWrite c m k)
  | 0x10, [k, n, e1, e0, d1, d0] => some (.claim k n (pair e1 e0) (pair d1 d0))
  | 0x11, [k] => some (.renew k)
  | 0x12, [k] => some (.release k)
  | 0x13, [] => some .actionRead
  | 0x14, [n, a] => some (.actionWrite n a)
  | 0x15, [] => some .faultRead
  | 0x16, [] => some .faultPop
  | 0x17, [b2, b1, b0] => some (.faultClear (triple b2 b1 b0))
  | 0x18, [] => some .levelRead
  | 0x19, [m, i, f, l, t, fl] => some (.levelWrite m i f l t fl)
  | 0x1A, [] => some .alertAck
  | 0x1B, [r] => some (.rightsWrite r)
  | 0x1C, [] => some .resume
  | 0x1D, [] => some .fabricReset
  | _, _ => none

/-- The parameter bytes of a management operation as a master sends them (section 11.3). -/
def hubParams : HubOp → List Byte
  | .dirRead t c => [t, c]
  | .dirWrite p =>
    [p.target, p.presence, p.lane, p.station] ++ bytes3 p.base ++ bytes3 p.length ++
      [p.accessM0, p.accessM1, p.memberCount, p.member1, p.member2, p.member3, p.deadline, p.threshold]
  | .statusRead t => [t]
  | .revive t => [t]
  | .groupRead g c => [g, c]
  | .groupWrite g e r0 r1 => [g, e, r0, r1]
  | .quotaWrite q0 q1 => [q0, q1]
  | .laneRead l => [l]
  | .laneControl l a => [l, a]
  | .deadlineWrite c m k => [c, m, k]
  | .claim k n lease drain => [k, n] ++ bytes2 lease ++ bytes2 drain
  | .renew k => [k]
  | .release k => [k]
  | .actionWrite n a => [n, a]
  | .faultClear b => bytes3 b
  | .levelWrite m i f l t fl => [m, i, f, l, t, fl]
  | .rightsWrite r => [r]
  | .ident => []
  | .discard => []
  | .commit => []
  | .quotaRead => []
  | .deadlineRead => []
  | .actionRead => []
  | .faultRead => []
  | .faultPop => []
  | .levelRead => []
  | .alertAck => []
  | .resume => []
  | .fabricReset => []

/-! ## Requests (R42) -/

/-- A unicast or group request that check 1 found well-formed. -/
structure TargetRequest where
  kind    : Kind
  dest    : Nat
  addr    : Addr
  count   : Nat
  payload : Payload
deriving DecidableEq, Repr

/-- What a well-formed request asks for. -/
inductive Asked where
  | unicast (q : TargetRequest)
  | group (q : TargetRequest)
  | hub (op : HubOp)
deriving DecidableEq, Repr

/-- Count bits of byte 4 (bits 3 to 0). -/
def countBits (b : Byte) : Nat := (b.extractLsb' 0 4).toNat

/-- Combine bits of byte 4 (bits 6 to 4); 4 to 7 name no combine. -/
def combineBits (b : Byte) : Option Combine :=
  match (b.extractLsb' 4 3).toNat with
  | 0 => some .or
  | 1 => some .and
  | 2 => some .matching
  | 3 => some .list
  | _ => none

/-- The address in bytes 5 to 7 (bits 19 to 0; bits 23 to 20 reserved). -/
def addressBits (a b c : Byte) : Addr := (triple a b c).extractLsb' 0 20

/-- Admission check 1 (R42): the kind, the destination and count in the kind's ranges, and exactly the data of the
kind. None is MALFORMED. -/
def readRequest (r : RawRequest) : Option Asked :=
  if r.kind = 6#8 then
    match r.rest with
    | code :: ps => if r.dest = 0#8 then (readHubOp code ps).map .hub else none
    | [] => none
  else
    match r.rest with
    | b4 :: a2 :: a1 :: a0 :: body =>
      let count := countBits b4
      let addr := addressBits a2 a1 a0
      let unicast := 1 ≤ r.dest.toNat ∧ r.dest.toNat ≤ 63
      let group := r.dest.toNat ≤ 15
      let counted := 1 ≤ count ∧ count ≤ 8
      match r.kind.toNat with
      | 0 =>
        if unicast ∧ counted ∧ body = [] then
          some (.unicast ⟨.read, r.dest.toNat, addr, count, .none⟩)
        else none
      | 1 =>
        if unicast ∧ counted ∧ body.length = 4 * count then
          some (.unicast ⟨.write, r.dest.toNat, addr, count, .words (readWords body)⟩)
        else none
      | 2 =>
        match readWords body with
        | [setMask, clearMask] =>
          if unicast ∧ count = 1 ∧ body.length = 8 then
            some (.unicast ⟨.modify, r.dest.toNat, addr, 1, .masks setMask clearMask⟩)
          else none
        | _ => none
      | 3 =>
        match combineBits b4 with
        | some combine =>
          if group ∧ counted ∧ body = [] then
            some (.group ⟨.gread combine, r.dest.toNat, addr, count, .none⟩)
          else none
        | none => none
      | 4 =>
        if group ∧ counted ∧ body.length = 4 * count then
          some (.group ⟨.gwrite, r.dest.toNat, addr, count, .words (readWords body)⟩)
        else none
      | 5 =>
        match readWords body with
        | [setMask, clearMask] =>
          if group ∧ count = 1 ∧ body.length = 8 then
            some (.group ⟨.gmodify, r.dest.toNat, addr, 1, .masks setMask clearMask⟩)
          else none
        | _ => none
      | _ => none
    | _ => none

/-- The REQUEST that carries a management operation (section 11.3). -/
def hubRequest (tag : Byte) (op : HubOp) : RawRequest :=
  ⟨tag, 6, 0, opcode op :: hubParams op⟩

/-! ## Enumerations of parameters (section 11.3: from 0 in the order the owning rule lists them) -/

def accessOf (b : Byte) : Option Access :=
  match b.toNat with
  | 0 => some .none
  | 1 => some .read
  | 2 => some .readWrite
  | _ => none

def boolOf (b : Byte) : Option Bool :=
  match b.toNat with
  | 0 => some false
  | 1 => some true
  | _ => none

/-- Copy selector; true is ACTIVE. -/
def copyOf (b : Byte) : Option Bool := boolOf b

def masterOf (b : Byte) : Option Master :=
  match b.toNat with
  | 0 => some .m0
  | 1 => some .m1
  | _ => none

def rightsOf (b : Byte) : Option Rights :=
  match b.toNat with
  | 0 => some .none
  | 1 => some .read
  | 2 => some .full
  | _ => none

def actionOf (b : Byte) : Option Action :=
  match b.toNat with
  | 0 => some .ignore
  | 1 => some .record
  | 2 => some .alert
  | 3 => some .isolate
  | 4 => some .halt
  | _ => none

/-! ## Codes of the answers -/

def accessCode : Access → Byte
  | .none => 0
  | .read => 1
  | .readWrite => 2

/-- Yes is 1 and no is 0; the later of two listed names is 1. -/
def boolCode (b : Bool) : Byte := if b then 1 else 0

def masterCode : Master → Byte
  | .m0 => 0
  | .m1 => 1

def rightsCode : Rights → Byte
  | .none => 0
  | .read => 1
  | .full => 2

def actionCode : Action → Byte
  | .ignore => 0
  | .record => 1
  | .alert => 2
  | .isolate => 3
  | .halt => 4

def healthCode : Health → Byte
  | .healthy => 0
  | .quarantined => 1

def hubStateCode : HubState → Byte
  | .setup => 0
  | .run => 1
  | .halted => 2

def linkStateCode : LinkState → Byte
  | .down => 0
  | .training => 1
  | .up => 2

def laneStateCode : LaneState → Byte
  | .disabled => 0
  | .training => 1
  | .up => 2
  | .fenced => 3
  | .down => 4

def classCode : FaultClass → Byte
  | .internal => 0
  | .fabric => 1
  | .link => 2
  | .target => 3

/-- The number of a fault source less 1: its place among the 22 (08 section 8.1). -/
def Source.index : Source → Fin 22
  | .upCrc => 0
  | .upCredit => 1
  | .upLost => 2
  | .laneCrc => 3
  | .laneLost => 4
  | .laneTrainFail => 5
  | .laneStalled => 6
  | .frameMalformed => 7
  | .legTimeout => 8
  | .targetError => 9
  | .lateResponse => 10
  | .strayResponse => 11
  | .badResponse => 12
  | .targetQuarantined => 13
  | .dupTag => 14
  | .contextExhausted => 15
  | .claimDrainTimeout => 16
  | .claimExpired => 17
  | .rightsViolation => 18
  | .commitRejected => 19
  | .tableParity => 20
  | .recordsLost => 21

/-- The source number, 1 to 22. -/
def sourceCode (x : Source) : Byte := byteOf (x.index.val + 1)

/-- The class of a source (08 section 8.1). -/
def Source.cls : Source → FaultClass
  | .upCrc | .upCredit | .upLost | .laneCrc | .laneLost | .laneTrainFail | .laneStalled
  | .frameMalformed => .link
  | .legTimeout | .targetError | .lateResponse | .strayResponse | .badResponse
  | .targetQuarantined => .target
  | .dupTag | .contextExhausted | .claimDrainTimeout | .claimExpired | .rightsViolation
  | .commitRejected => .fabric
  | .tableParity | .recordsLost => .internal

/-- The status codes of section 11.4. -/
def statusCode : Status → Byte
  | .ok => 0x00
  | .partialOk => 0x01
  | .failed => 0x02
  | .mismatch => 0x03
  | .empty => 0x04
  | .malformed => 0x10
  | .notReady => 0x11
  | .halted => 0x12
  | .noTarget => 0x13
  | .noGroup => 0x14
  | .denied => 0x15
  | .range => 0x16
  | .busy => 0x17
  | .tooLarge => 0x18
  | .held => 0x20
  | .quarantined => 0x21
  | .laneDown => 0x22
  | .fenced => 0x23
  | .noStation => 0x24
  | .targetError => 0x30
  | .timeout => 0x31
  | .badResponse => 0x32
  | .invalid => 0x40
  | .conflict => 0x41
  | .overlap => 0x42
  | .noRecord => 0x43
  | .cancelled => 0x44

/-- The status of a leg outcome: one list serves both (section 11.4). -/
def LegOutcome.status : LegOutcome → Status
  | .ok => .ok
  | .denied => .denied
  | .range => .range
  | .held => .held
  | .quarantined => .quarantined
  | .laneDown => .laneDown
  | .fenced => .fenced
  | .noStation => .noStation
  | .targetError _ => .targetError
  | .timeout => .timeout
  | .badResponse => .badResponse
  | .cancelled => .cancelled

/-- The target code of an outcome, 0 when it has none (section 11.3, LIST record byte 2). -/
def LegOutcome.code : LegOutcome → Byte
  | .targetError c => c
  | _ => 0

/-! ## Answer fields (R188) -/

def idByte (t : Target) : Byte := byteOf (targetId t)

/-- An optional field: a presence byte, then the field when present. -/
def optField (x : Option (List Byte)) : List Byte :=
  match x with
  | some bytes => 1 :: bytes
  | none => [0]

/-- A list: a one-byte length, then the entries. The length counts entries, also where an entry has several bytes: R188 does
not say, the model's choice (log 19). -/
def listField (xs : List (List Byte)) : List Byte :=
  byteOf xs.length :: xs.flatten

/-! ## Frames the A12 sends (sections 11.2 and 11.3) -/

def summaryBytes (x : Summary) : List Byte :=
  [byteOf x.total, byteOf x.ok] ++
    (match x.firstFailure with
      | some (t, o) => [idByte t, statusCode o.status]
      | none => [0, 0]) ++
    (match x.mismatch with
      | some t => [idByte t]
      | none => [0])

/-- A LIST record: the record word, then its data words (R34, section 11.3). -/
def listRecordBytes (x : ListRecord) : List Byte :=
  let ws := x.data.getD []
  [idByte x.target, statusCode x.outcome.status, x.outcome.code, byteOf ws.length] ++ ws.flatMap bytes4

def responseDataBytes : ResponseData → List Byte
  | .none => []
  | .words ws => ws.flatMap bytes4
  | .records rs => rs.flatMap listRecordBytes
  | .fields bytes => bytes

/-- Bits 0, 1 and 2 of the flags: operation code, generation, summary present. -/
def responseFlags (r : Response) : Byte :=
  byteOf ((if r.opcode.isSome then 1 else 0) + (if r.generation.isSome then 2 else 0) +
    (if r.summary.isSome then 4 else 0))

/-- A RESPONSE's kind byte and body. -/
def responseBytes (r : Response) : List Byte :=
  [0x11, r.tag, statusCode r.status, responseFlags r] ++ r.opcode.toList ++
    (match r.generation with
      | some g => bytes2 g
      | none => []) ++
    (match r.summary with
      | some x => summaryBytes x
      | none => []) ++
    responseDataBytes r.data

/-- An ALERT's kind byte and body. -/
def alertBytes (a : Alert) : List Byte :=
  [0x12, classCode a.cls, sourceCode a.source, boolCode a.sequence.isSome] ++
    bytes2 (a.sequence.getD 0) ++ bytes4 a.time

/-- A NOTICE's kind byte and body (reason 1 FABRIC_RESET). -/
def noticeBytes (n : Notice) : List Byte :=
  [0x13, 1] ++ bytes2 n.generation ++ bytes4 n.time

/-- The kind byte and body of a frame sent upstream. -/
def upFrameBytes : UpFrame → List Byte
  | .hello grant => [0x01, byteOf grant]
  | .idle => [0x02]
  | .credit => [0x03, 1]
  | .response r => responseBytes r
  | .alert a => alertBytes a
  | .notice n => noticeBytes n

/-- The operation code of a LEG-OUT or LEG-BACK. -/
def legOpCode : LegOp → BitVec 2
  | .read => 0
  | .write _ => 1
  | .modify _ _ => 2

/-- A LEG-OUT's kind byte and body. -/
def legOutBytes (f : LegOut) : List Byte :=
  [0x20, f.seq, 0#2 ++ legOpCode f.op ++ 0#2 ++ BitVec.ofNat 2 f.station.val, byteOf f.count] ++
    bytes3 (0#4 ++ f.addr) ++
    (match f.op with
      | .read => []
      | .write ws => ws.flatMap bytes4
      | .modify setMask clearMask => bytes4 setMask ++ bytes4 clearMask)

/-- The kind byte and body of a frame sent on a lane. -/
def laneFrameBytes : LaneFrame → List Byte
  | .hello => [0x01, 0]
  | .idle => [0x02]
  | .legOut f => legOutBytes f

/-- What the pins of an upstream link carry for the frame on its line (R185). -/
def upLineSymbols (f : UpFrame) : List Symbol := lineSymbols (upFrameBytes f)

/-- What the pins of a lane carry for the frame on its line (R185). -/
def laneLineSymbols (f : LaneFrame) : List Symbol := lineSymbols (laneFrameBytes f)

end Sys2Proof.Machine
end

