-- ==== Sys2Proof/Machine/Ops.lean ====
section
/-! DEFINITION. The shared operations over State: reading and replacing one record, the timebase's timers, the
response slots, the transmitters, the sets of PENDING legs. -/

namespace Sys2Proof.Machine

/-! ## One record of the state -/

/-- Master Mx's port. -/
def State.port (s : State) : Master → Port
  | .m0 => s.portM0
  | .m1 => s.portM1

def State.setPort (s : State) (m : Master) (p : Port) : State :=
  match m with
  | .m0 => { s with portM0 := p }
  | .m1 => { s with portM1 := p }

def State.modifyPort (s : State) (m : Master) (f : Port → Port) : State :=
  s.setPort m (f (s.port m))

/-- Master Mx's alert state. -/
def State.alert (s : State) : Master → AlertState
  | .m0 => s.alertM0
  | .m1 => s.alertM1

def State.setAlert (s : State) (m : Master) (a : AlertState) : State :=
  match m with
  | .m0 => { s with alertM0 := a }
  | .m1 => { s with alertM1 := a }

def State.lane (s : State) (l : LaneId) : Lane := s.lanes[l]

def State.setLane (s : State) (l : LaneId) (x : Lane) : State :=
  { s with lanes := s.lanes.set l x }

def State.modifyLane (s : State) (l : LaneId) (f : Lane → Lane) : State :=
  s.setLane l (f (s.lane l))

/-- The context, none when it is FREE. -/
def State.ctx (s : State) (c : CtxId) : Option Ctx := s.contexts[c]

def State.setCtx (s : State) (c : CtxId) (x : Option Ctx) : State :=
  { s with contexts := s.contexts.set c x }

def State.record (s : State) (t : Target) : TargetRecord := s.status[t]

def State.setRecord (s : State) (t : Target) (r : TargetRecord) : State :=
  { s with status := s.status.set t r }

def State.claim (s : State) (k : ClaimId) : Option Claim := s.claims[k]

def State.setClaim (s : State) (k : ClaimId) (c : Option Claim) : State :=
  { s with claims := s.claims.set k c }

def State.activeEntry (s : State) (t : Target) : ActiveEntry := s.active[t]

def State.setActive (s : State) (t : Target) (e : ActiveEntry) : State :=
  { s with active := s.active.set t e }

def State.stagedEntry (s : State) (t : Target) : DirEntry := s.staged[t]

def State.setStaged (s : State) (t : Target) (e : DirEntry) : State :=
  { s with staged := s.staged.set t e }

/-- The quota of a master (R54). -/
def State.quota (s : State) : Master → Nat
  | .m0 => s.quotaM0
  | .m1 => s.quotaM1

/-- The slots of a lane's window. -/
def Lane.slot (x : Lane) (w : SlotId) : Slot := x.window[w]

def Lane.setSlot (x : Lane) (w : SlotId) (v : Slot) : Lane :=
  { x with window := x.window.set w v }

def allSlots : List SlotId := List.finRange 4

/-- A window with every slot FREE. -/
def emptyWindow : Vector Slot 4 := Vector.replicate 4 .free

/-- The access of a master in a directory entry. -/
def DirEntry.access (e : DirEntry) : Master → Access
  | .m0 => e.accessM0
  | .m1 => e.accessM1

/-- The group rights of a master in a Group Table entry. -/
def GroupEntry.rights (e : GroupEntry) : Master → Access
  | .m0 => e.rightsM0
  | .m1 => e.rightsM1

/-- The in-flight count of a master in a Target Status record (R14). -/
def TargetRecord.inFlight (r : TargetRecord) : Master → Nat
  | .m0 => r.inFlightM0
  | .m1 => r.inFlightM1

def TargetRecord.setInFlight (r : TargetRecord) (m : Master) (n : Nat) : TargetRecord :=
  match m with
  | .m0 => { r with inFlightM0 := n }
  | .m1 => { r with inFlightM1 := n }

/-- The in-flight count of a master for a target. -/
def State.inFlight (s : State) (m : Master) (t : Target) : Nat :=
  (s.record t).inFlight m

def PerClass.get {α : Type} (p : PerClass α) : FaultClass → α
  | .internal => p.internal
  | .fabric => p.fabric
  | .link => p.link
  | .target => p.target

def PerClass.set {α : Type} (p : PerClass α) (c : FaultClass) (a : α) : PerClass α :=
  match c with
  | .internal => { p with internal := a }
  | .fabric => { p with fabric := a }
  | .link => { p with link := a }
  | .target => { p with target := a }

/-! ## The timers (R109, R110) -/

/-- The arrival time of a timer started now (R110). -/
def State.after (s : State) (microseconds : Nat) : Time :=
  s.timebase + BitVec.ofNat 32 microseconds

/-- A timer started at `start` with this duration arrives at the present timebase (R110, log 4). -/
def State.arrives (s : State) (start : Option Time) (microseconds : Nat) : Bool :=
  match start with
  | some t => t + BitVec.ofNat 32 microseconds == s.timebase
  | none => false

/-- At least so many microseconds have passed since `start` (R88, R165, R171 line 6). -/
def passed (now : Time) (start : Option Time) (microseconds : Nat) : Bool :=
  match start with
  | some t => decide (microseconds ≤ (now - t).toNat)
  | none => false

/-- The timer whose arrival time is held has arrived (R110, log 4). -/
def State.due (s : State) (arrival : Option Time) : Bool :=
  arrival == some s.timebase

/-- Duration of a deadline class in microseconds (06 section 6.2). -/
def DeadlineClass.duration (d : DeadlineClass) : Nat := d.mantissa * 2 ^ d.scale

/-- Duration of the class a leg names, as it stands now (R114). -/
def State.classDuration (s : State) (c : ClassId) : Nat := (s.classes[c]).duration

/-! ## Response slots (R170) -/

/-- Reserved plus filled slots of a port. -/
def Port.slotsUsed (p : Port) : Nat := p.reserved + p.filled.length

/-- A response is written into its reserved slot: it joins the tail of the filled slots. A slot that has gone
with the queue is not written (R174). -/
def Port.fill (r : Response) (p : Port) : Port :=
  if p.reserved = 0 then p
  else { p with reserved := p.reserved - 1, filled := p.filled ++ [r] }

def State.fillSlot (s : State) (m : Master) (r : Response) : State :=
  s.modifyPort m (Port.fill r)

/-! ## A lane's transmitter (last paragraph of R94; log 13) -/

/-- Where a frame waits for the line: behind every waiting frame, except that a LEG-OUT goes before an IDLE
(R94). -/
def enqueueFrame (f : LaneFrame) : List LaneFrame → List LaneFrame
  | [] => [f]
  | g :: gs =>
    match g, f with
    | .idle, .legOut _ => f :: g :: gs
    | _, _ => g :: enqueueFrame f gs

/-- The Lane Engine sends a frame: on a free line at once, else it waits for the line. A frame put on the line
sets last sent while contact is YES (R88). -/
def Lane.send (now : Time) (f : LaneFrame) (x : Lane) : Lane :=
  match x.line with
  | none => { x with line := some f, lastSent := if x.contact then some now else x.lastSent }
  | some _ => { x with waiting := enqueueFrame f x.waiting }

/-- Contact becomes NO: last received and last sent are absent (05 section 5.1), and the LEG-OUT and IDLE frames
that wait for the line are given up, since no state with contact NO sends them (R84; log 9). -/
def Lane.dropContact (x : Lane) : Lane :=
  { x with contact := false, lastReceived := none, lastSent := none,
           waiting := x.waiting.filter (· = .hello) }

/-- Entering TRAINING (R85): HELLOs sent 0, retry time cleared, contact NO, then a HELLO is sent. -/
def Lane.enterTraining (now : Time) (x : Lane) : Lane :=
  Lane.send now .hello
    { x.dropContact with state := .training, hellosSent := 1, helloTime := some now, retryTime := none }

/-- Contact NO in a state that sends nothing (R84): the HELLO timer ends and no frame waits (log 9). -/
def Lane.goSilent (x : Lane) : Lane :=
  { x.dropContact with hellosSent := 0, helloTime := none, waiting := [] }

/-- Every entry into DISABLED clears retry time and sets contact NO (R102); nothing is sent and the receiver is
off (R84, R186; log 14). -/
def Lane.enterDisabled (x : Lane) : Lane :=
  { x.goSilent with state := .disabled, retryTime := none, receiver := .hunting }

/-- Entering DOWN with this retry time (R87, R88, R89). -/
def Lane.enterDown (retry : Option Time) (x : Lane) : Lane :=
  { x.goSilent with state := .down, retryTime := retry }

/-- The Lane Engine's part of a fabric reset (R107). -/
def Lane.fabricReset (now : Time) (x : Lane) : Lane :=
  let y := { x with queue := [], window := emptyWindow }
  if x.state = .disabled then y else y.enterTraining now

/-! ## Running (R184), and the parts of a fabric reset at the lanes (R80) -/

/-- The Lane Engines' parts of a fabric reset are still due (R80). -/
def State.resetDue (s : State) : Bool :=
  match s.phase with
  | .resetting _ => true
  | _ => false

/-- Every Lane Engine takes its part of a fabric reset (R107). -/
def State.resetLanes (s : State) : State :=
  { s with lanes := s.lanes.map (Lane.fabricReset s.timebase) }

/-- The Lane Engines take the parts that are due, which ends the fabric reset (R80, R183). That the twelve take them
together, so that no event falls between one lane's part and another's, is the model's choice: R80 and R107 give each
Lane Engine an event of its own (log 33). -/
def State.settle (s : State) : State :=
  if s.resetDue then { s.resetLanes with phase := .running } else s

/-- While RESET_N is low and through the start-up hold the part does nothing and its receivers ignore what
arrives (R184). Parts of a fabric reset that are due come first (R183). -/
def whenRunning (f : State → State) (s : State) : State :=
  if s.settle.phase = .running then f s.settle else s

/-- The event comes about on the part as it runs. -/
def happens (f : State → State) (s : State) : Host.Outcome State Fault Refusal :=
  .next (whenRunning f s)

/-- An event of a Lane Engine that can end a leg or free a slot: between the parts of a fabric reset it comes before the
Lane Engine's own part (R80). -/
def happensAtLane (f : State → State) (s : State) : Host.Outcome State Fault Refusal :=
  .next (if s.resetDue then f s else whenRunning f s)

/-- The context of a leg that was sent, as its LEG-OUT knew it: between the parts of a fabric reset the one that the
Tracker's part has freed (R80, R95). -/
def State.sentCtx (s : State) (c : CtxId) : Option Ctx :=
  match s.phase with
  | .resetting before => before[c]
  | _ => s.ctx c

/-! ## Age and the sets of PENDING legs (R37, R59) -/

/-- How many allocations have taken place since the context was admitted (R37; log 23). -/
def State.age (s : State) (x : Ctx) : Nat := (s.admission - x.admission).toNat

/-- Places a context in a list that runs from the oldest to the youngest. -/
def insertByAge (s : State) (c : CtxId × Ctx) : List (CtxId × Ctx) → List (CtxId × Ctx)
  | [] => [c]
  | d :: ds => if s.age d.2 < s.age c.2 then c :: d :: ds else d :: insertByAge s c ds

/-- The contexts that are not FREE, by number. -/
def State.usedContexts (s : State) : List (CtxId × Ctx) :=
  (List.finRange 32).filterMap (fun c => (s.ctx c).map (fun x => (c, x)))

/-- The contexts that are not FREE, oldest first. -/
def State.byAge (s : State) : List (CtxId × Ctx) :=
  s.usedContexts.foldl (fun acc c => insertByAge s c acc) []

/-- The set of PENDING legs that wait for a lane, in order of admission number and then of leg order (R59). -/
def State.pendingFor (s : State) (l : LaneId) : List LegRef :=
  s.byAge.flatMap (fun c =>
    (c.2.legs.filter (fun g => g.state = .pending ∧ g.lane = l)).map (fun g => ⟨c.1, g.target⟩))

/-- The leg a reference names. -/
def Ctx.leg (x : Ctx) (t : Target) : Option Leg := x.legs.find? (fun g => g.target = t)

/-- Sets the state of a context's leg to a target. -/
def Ctx.setLegState (x : Ctx) (t : Target) (v : LegState) : Ctx :=
  { x with legs := x.legs.map (fun g => if g.target = t then { g with state := v } else g) }

def State.setLegState (s : State) (r : LegRef) (v : LegState) : State :=
  match s.ctx r.ctx with
  | some x => s.setCtx r.ctx (some (x.setLegState r.target v))
  | none => s

/-- The tag of an ACTIVE context. -/
def Ctx.tag (x : Ctx) : Option Byte :=
  match x.state with
  | .active tag => some tag
  | .orphan => none

/-- The number of ACTIVE contexts a master holds (R54). -/
def State.holding (s : State) (m : Master) : Nat :=
  s.usedContexts.countP (fun c => c.2.master = m ∧ c.2.tag.isSome)

/-- The number of ORPHAN contexts (R56). -/
def State.orphans (s : State) : Nat :=
  s.usedContexts.countP (fun c => c.2.tag.isNone)

/-- Refill (R92): a freed queue position goes to the oldest PENDING leg for the lane, which becomes QUEUED. -/
def State.refill (s : State) (l : LaneId) : State :=
  match s.pendingFor l with
  | [] => s
  | r :: _ => (s.setLegState r .queued).modifyLane l (fun x => { x with queue := x.queue ++ [r] })

end Sys2Proof.Machine
end

