-- ==== Sys2Proof/Machine/Tracker.lean ====
section
/-! DEFINITION. What the Transaction Tracker, the Target Status Table and the Claim Unit do when a leg ends: the
completion (R61), the response (R68 to R70, R32 to R36), the fall of an in-flight count (R14) and the grant of a
claim (R127, R128). -/

namespace Sys2Proof.Machine

/-! ## Claim answers and the grant -/

/-- The operation code a CLAIM's answers carry, whichever block writes them (R188). -/
def claimOpcode : Byte := 0x10

/-- An answer of a CLAIM (R188). -/
def claimAnswer (tag : Byte) (status : Status) (generation : Option (BitVec 16)) (bytes : List Byte) : Response where
  tag := tag
  status := status
  opcode := some claimOpcode
  generation := generation
  summary := none
  data := if bytes = [] then .none else .fields bytes

/-- The fields of a granted CLAIM's answer: the claim ID and the member set (R128). -/
def grantFields (k : ClaimId) (c : Claim) : List Byte :=
  byteOf k.val :: listField (c.members.map (fun t => [idByte t]))

/-- The lease deadline set by a grant or a RENEW now: none for a lease of 0 (R128, R131, R133). -/
def State.leaseDeadline (s : State) (lease : BitVec 16) : Option Time :=
  if lease = 0 then none else some (s.after (lease.toNat * 1000))

/-- The grant of a DRAINING record, as one event (R128); any other record is left as it is. -/
def State.grantClaim (s : State) (k : ClaimId) : State :=
  match s.claim k with
  | some c =>
    match c.state with
    | .draining tag _ =>
      (s.setClaim k (some { c with state := .held (s.leaseDeadline c.lease) })).fillSlot c.owner
        (claimAnswer tag .ok (some c.generation) (grantFields k c))
    | .held _ => s
  | none => s

/-- The drain condition (R127): the other master's in-flight count is 0 for every member. -/
def State.drained (s : State) (c : Claim) : Bool :=
  c.members.all (fun t => s.inFlight c.owner.other t == 0)

/-- The record is DRAINING over the target against this master (R127). -/
def Claim.drainsOn (c : Claim) (m : Master) (t : Target) : Bool :=
  match c.state with
  | .draining _ _ => c.owner == m.other && c.members.contains t
  | .held _ => false

/-- The DRAINING record that a fall of this count concerns, if any (R127). -/
def State.drainingOn (s : State) (m : Master) (t : Target) : Option ClaimId :=
  (List.finRange 8).find? (fun k =>
    match s.claim k with
    | some c => c.drainsOn m t
    | none => false)

/-- The Claim Unit examines the DRAINING record that holds the target, and grants it when it is drained (R127). -/
def State.reexamine (s : State) (m : Master) (t : Target) : State :=
  match s.drainingOn m t with
  | some k =>
    match s.claim k with
    | some c => if s.drained c then s.grantClaim k else s
    | none => s
  | none => s

/-! ## Target Status updates -/

/-- The in-flight count of a master for a target falls by 1 and is passed to the Claim Unit (R14). -/
def State.fall (s : State) (m : Master) (t : Target) : State :=
  (s.setRecord t ((s.record t).setInFlight m (s.inFlight m t - 1))).reexamine m t

/-- An EXPIRED slot of this master and target has been freed: the count falls (R14), but between the parts of a fabric
reset no fall is taken (R80). -/
def State.slotFreed (s : State) (m : Master) (t : Target) : State :=
  if s.resetDue then s else s.fall m t

/-- The in-flight count of a master for a target rises by 1 (R52). -/
def State.rise (s : State) (m : Master) (t : Target) : State :=
  s.setRecord t ((s.record t).setInFlight m (s.inFlight m t + 1))

/-- The consecutive-timeout count after an outcome (R115). -/
def nextConsecutive (o : LegOutcome) (n : Nat) : Nat :=
  match o with
  | .timeout => min (n + 1) 15
  | .ok => 0
  | _ => n

/-- The error total after an outcome (R15). -/
def nextErrors (o : LegOutcome) (n : Nat) : Nat :=
  match o with
  | .targetError _ => min (n + 1) 65535
  | .timeout => min (n + 1) 65535
  | .badResponse => min (n + 1) 65535
  | _ => n

/-- The Target Status record takes the outcome of a leg that ended downstream (R61): both counts of the outcome,
and the fall of the in-flight count unless the outcome is TIMEOUT (R14). -/
def State.takeOutcome (s : State) (m : Master) (t : Target) (o : LegOutcome) : State :=
  let r := s.record t
  let s1 := s.setRecord t
    { r with consecutive := nextConsecutive o r.consecutive, errors := nextErrors o r.errors }
  if o = .timeout then s1 else s1.fall m t

/-! ## Completion at the context -/

/-- First failure after a leg ended with this outcome (R64). -/
def nextFirstFailure (ff : Option (Target × LegOutcome)) (t : Target) (o : LegOutcome) :
    Option (Target × LegOutcome) :=
  if o = .ok then ff
  else match ff with
    | some (u, p) => if t < u then some (t, o) else some (u, p)
    | none => some (t, o)

/-- The data of an OK leg is kept in the leg (the table of R65). -/
def Kind.keepsData : Kind → Bool
  | .read => true
  | .modify => true
  | .gread .matching => true
  | .gread .list => true
  | _ => false

/-- An OK leg of a lower target ID has already ended (R67). -/
def Ctx.lowerOk (x : Ctx) (t : Target) : Bool :=
  x.legs.any (fun g => g.target < t && g.state == .done .ok)

/-- The accumulator after an OK leg of an ACTIVE context (R66, R67). -/
def Ctx.nextAccumulator (x : Ctx) (t : Target) (ws : List Word) : Option (List Word) :=
  match x.kind, x.accumulator with
  | .gread .or, some acc => some (List.zipWith (· ||| ·) acc ws)
  | .gread .and, some acc => some (List.zipWith (· &&& ·) acc ws)
  | .gread .or, none => some ws
  | .gread .and, none => some ws
  | .gread .matching, acc => if x.lowerOk t then acc else some ws
  | _, acc => acc

/-- What a completion does at the context, up to its end (R61 steps 1 to 4; R72 for an ORPHAN context). -/
def Ctx.endLeg (x : Ctx) (t : Target) (o : LegOutcome) (ws : List Word) : Ctx :=
  let keep := o = .ok ∧ x.tag.isSome ∧ x.kind.keepsData
  { x with
    legs := x.legs.map (fun g =>
      if g.target = t then { g with state := .done o, data := if keep then some ws else none } else g)
    unfinished := x.unfinished - 1
    legsOk := if o = .ok then x.legsOk + 1 else x.legsOk
    firstFailure := nextFirstFailure x.firstFailure t o
    accumulator := if o = .ok ∧ x.tag.isSome then x.nextAccumulator t ws else x.accumulator }

/-- The mismatch target (R33, R67): the lowest OK leg whose kept data differ from the reference. -/
def Ctx.mismatchTarget (x : Ctx) : Option Target :=
  match x.kind, x.accumulator with
  | .gread .matching, some ref =>
    (x.legs.find? (fun g => g.state == .done .ok && g.data != some ref)).map Leg.target
  | _, _ => none

/-! ## The response of a context (R68 to R70) -/

/-- The outcome of a leg, where it is DONE. -/
def Leg.outcome (g : Leg) : Option LegOutcome :=
  match g.state with
  | .done o => some o
  | _ => none

/-- The LIST records of a leg list, in its order (R34). -/
def listRecords (legs : List Leg) : List ListRecord :=
  legs.filterMap (fun g => g.outcome.map (fun o => ⟨g.target, o, g.data⟩))

/-- The status of a group response (R35). -/
def groupStatus (total ok : Nat) (mismatch : Option Target) : Status :=
  if mismatch.isSome then .mismatch
  else if ok = 0 then .failed
  else if ok < total then .partialOk
  else .ok

/-- The data of a group response (R70). -/
def Ctx.groupData (x : Ctx) : ResponseData :=
  match x.kind with
  | .gread .list => .records (listRecords x.legs)
  | .gread _ =>
    match x.accumulator with
    | some ws => .words ws
    | none => .none
  | _ => .none

/-- The response to a group request from a leg list whose legs are all DONE (R70, R31). -/
def Ctx.groupResponse (x : Ctx) (tag : Byte) : Response where
  tag := tag
  status := groupStatus x.legs.length x.legsOk x.mismatch
  opcode := none
  generation := some x.generation
  summary := some ⟨x.legs.length, x.legsOk, x.firstFailure, x.mismatch⟩
  data := x.groupData

/-- The data of a unicast response (R69): the kept words of an OK READ or MODIFY, the target code of a
TARGET_ERROR. -/
def unicastData (g : Leg) : ResponseData :=
  match g.state with
  | .done (.targetError code) => .fields [code]
  | .done .ok =>
    match g.data with
    | some ws => .words ws
    | none => .none
  | _ => .none

/-- The response to a unicast request (R69): its one leg decides it. -/
def Ctx.unicastResponse (x : Ctx) (tag : Byte) : Response :=
  match x.legs with
  | g :: _ => ⟨tag, (g.outcome.getD .cancelled).status, none, some x.generation, none, unicastData g⟩
  | [] => ⟨tag, .cancelled, none, some x.generation, none, .none⟩

/-- The response of a context whose last leg has ended (R68). -/
def Ctx.response (x : Ctx) (tag : Byte) : Response :=
  match x.kind with
  | .gread _ => x.groupResponse tag
  | .gwrite => x.groupResponse tag
  | .gmodify => x.groupResponse tag
  | _ => x.unicastResponse tag

/-- The end of a context whose unfinished count is 0: an ACTIVE context builds its response and becomes FREE
(R68), an ORPHAN context becomes FREE (R72). -/
def State.endContext (s : State) (c : CtxId) (x : Ctx) : State :=
  match x.state with
  | .active tag =>
    (s.setCtx c none).fillSlot x.master ({ x with mismatch := x.mismatchTarget }.response tag)
  | .orphan => s.setCtx c none

/-- The leg is unfinished: PENDING, QUEUED or ISSUED (R62). -/
def Leg.unfinished (g : Leg) : Bool := g.outcome.isNone

/-- A completion (R61), as one event at the context and the Target Status record. An event that finds no such
unfinished leg is discarded (R60), and so is every one between the parts of a fabric reset, where each context is FREE
(R80). -/
def State.complete (s : State) (r : LegRef) (o : LegOutcome) (ws : List Word) : State :=
  match s.ctx r.ctx with
  | some x =>
    match x.leg r.target with
    | some g =>
      if g.unfinished then
        let x' := x.endLeg r.target o ws
        let s' := (s.setCtx r.ctx (some x')).takeOutcome x.master r.target o
        if x'.unfinished = 0 then s'.endContext r.ctx x' else s'
      else s
    | none => s
  | none => s

/-- Completions of several legs with one outcome, one after another (R81). -/
def State.completeAll (s : State) (rs : List LegRef) (o : LegOutcome) : State :=
  rs.foldl (fun acc r => acc.complete r o []) s

end Sys2Proof.Machine
end

