-- ==== Sys2Proof/Machine/LaneWork.lean ====
section
/-! DEFINITION. The endings of a lane's work: the lane-wide ending (R100) and the fence (R101). -/

namespace Sys2Proof.Machine

/-- The legs of the ISSUED slots, in slot order. -/
def Lane.issuedLegs (x : Lane) : List LegRef :=
  allSlots.filterMap (fun w =>
    match x.slot w with
    | .issued _ c _ t _ => some ⟨c, t⟩
    | _ => none)

/-- The masters and targets that the EXPIRED slots record, in slot order. -/
def Lane.expiredPlaces (x : Lane) : List (Master × Target) :=
  allSlots.filterMap (fun w =>
    match x.slot w with
    | .expired _ m t => some (m, t)
    | _ => none)

/-- The falls of the counts that freed EXPIRED slots recorded (R14, R80). -/
def State.fallAll (s : State) (places : List (Master × Target)) : State :=
  places.foldl (fun acc p => acc.slotFreed p.1 p.2) s

/-- The lane-wide ending (R100), in the order of its list: ISSUED legs, EXPIRED slots, QUEUED legs, PENDING legs
(log 25). No position is refilled. The lane's state is left to the event that caused the ending. -/
def State.endLaneWork (s : State) (l : LaneId) : State :=
  let x := s.lane l
  let waiting := x.queue ++ s.pendingFor l
  let s1 := s.setLane l { x with queue := [], window := emptyWindow }
  ((s1.completeAll x.issuedLegs .laneDown).fallAll x.expiredPlaces).completeAll waiting .laneDown

/-- A FENCE, from LANE-CONTROL or from ISOLATE (the table of R101). -/
def State.fenceLane (s : State) (l : LaneId) : State :=
  let x := s.lane l
  match x.state with
  | .up =>
    let waiting := x.queue ++ s.pendingFor l
    (s.setLane l { x with state := .fenced, queue := [] }).completeAll waiting .fenced
  | .training => s.setLane l { x.goSilent with state := .fenced }
  | .down => s.setLane l { x.goSilent with state := .fenced, retryTime := none }
  | .fenced => s
  | .disabled => s

/-- Entering TRAINING now (R85). -/
def State.trainLane (s : State) (l : LaneId) : State :=
  s.modifyLane l (Lane.enterTraining s.timebase)

end Sys2Proof.Machine
end

