-- ==== Sys2Proof/Machine/Flags.lean ====
section
/-! DEFINITION. The Fault Collector and the Alert Unit: an occurrence (R140) with its record step (R141, R142), alert
step (R143), ISOLATE step (R144) and HALT step (R145), and making an ALERT ready (R155). -/

namespace Sys2Proof.Machine

/-- No field reported. -/
def FaultFields.none : FaultFields where
  lane := Option.none
  target := Option.none
  master := Option.none
  tag := Option.none
  detail := Option.none

def FaultFields.ofLane (l : LaneId) : FaultFields := { FaultFields.none with lane := some l }

def FaultFields.ofMaster (m : Master) : FaultFields := { FaultFields.none with master := some m }

def FaultFields.ofTarget (t : Target) : FaultFields := { FaultFields.none with target := some t }

def State.source (s : State) (x : Source) : SourceRecord := s.sources[x.index]

def State.setSource (s : State) (x : Source) (r : SourceRecord) : State :=
  { s with sources := s.sources.set x.index r }

/-! ## Alerts -/

/-- The classes in the fixed order of R155. -/
def classOrder : List FaultClass := [.internal, .fabric, .link, .target]

/-- The class of higher level of the two; a tie goes to the first (R155). -/
def higherClass (a : AlertState) (best : Option FaultClass) (c : FaultClass) : Option FaultClass :=
  if (a.pending.get c).isSome ∧ a.floor < a.levels.get c then
    match best with
    | some b => if a.levels.get b < a.levels.get c then some c else some b
    | none => some c
  else best

/-- The pending class to send: the highest level among those above the floor, a tie by the fixed order (R155). -/
def AlertState.choice (a : AlertState) : Option FaultClass :=
  classOrder.foldl (higherClass a) none

/-- The test of R155 for a master: with its window FREE, its link UP and a class above its floor, an ALERT is
made ready, the class leaves the pending set and the window becomes BUSY. -/
def State.testAlert (s : State) (m : Master) : State :=
  let a := s.alert m
  if a.busy = false ∧ (s.port m).link = .up then
    match a.choice with
    | some c =>
      match a.pending.get c with
      | some p =>
        (s.setAlert m { a with pending := a.pending.set c none, busy := true }).modifyPort m
          (fun q => { q with alertReady := some ⟨c, p.source, p.sequence, s.timebase⟩ })
      | none => s
    | none => s
  else s

/-- The alert step for one master (R143), and the test of R155 that follows a pend. -/
def State.pendFor (s : State) (m : Master) (c : FaultClass) (p : Pended) : State :=
  let a := s.alert m
  if 0 < a.levels.get c then
    (s.setAlert m { a with pending := a.pending.set c (some p) }).testAlert m
  else s

/-- The alert step (R143): the class is pended for each master whose level for it is above 0. -/
def State.alertStep (s : State) (x : Source) (sequence : Option (BitVec 16)) : State :=
  (s.pendFor .m0 x.cls ⟨x, sequence⟩).pendFor .m1 x.cls ⟨x, sequence⟩

/-! ## Actions -/

/-- The HALT step (R145): RUN becomes HALTED. -/
def State.haltStep (s : State) : State :=
  if s.hub = .run then { s with hub := .halted } else s

/-- Quarantine by ISOLATE (R117): the count is left as it is. -/
def State.quarantine (s : State) (t : Target) : State :=
  s.setRecord t { s.record t with health := .quarantined }

/-- The ISOLATE step (the table of R144). -/
def State.isolateStep (s : State) (x : Source) (f : FaultFields) : State :=
  match x.cls, f.lane, f.target with
  | .link, some l, _ => s.fenceLane l
  | .target, _, some t => s.quarantine t
  | _, _, _ => s

/-- The latch is SET and the count rises, staying at 255 (R140). -/
def State.latch (s : State) (x : Source) : State :=
  let r := s.source x
  s.setSource x { r with latch := true, count := min (r.count + 1) 255 }

/-- The action includes the alert step (R140). -/
def Action.alerts : Action → Bool
  | .alert => true
  | .isolate => true
  | .halt => true
  | .ignore => false
  | .record => false

/-- The alert, ISOLATE and HALT steps that an action includes, in the order of R140. -/
def State.act (s : State) (action : Action) (x : Source) (f : FaultFields)
    (sequence : Option (BitVec 16)) : State :=
  let s1 := if action.alerts then s.alertStep x sequence else s
  match action with
  | .isolate => s1.isolateStep x f
  | .halt => s1.haltStep
  | _ => s1

/-- RECORDS_LOST occurs (R142): no record step. -/
def State.recordsLost (s : State) : State :=
  (s.latch .recordsLost).act (s.source .recordsLost).action .recordsLost FaultFields.none none

/-- The record step (R141): the state after it, and the sequence the record took when it was stored. -/
def State.recordStep (s : State) (x : Source) (f : FaultFields) : State × Option (BitVec 16) :=
  if s.records.length < Config.recordQueueDepth then
    ({ s with records := s.records ++ [⟨s.nextRecord, s.timebase, x, f⟩],
              nextRecord := s.nextRecord + 1 }, some s.nextRecord)
  else
    (State.recordsLost { s with lostCount := min (s.lostCount + 1) 255 }, none)

/-- An occurrence of a source with its fields, as one event (R140). The action is read once. -/
def State.occur (s : State) (x : Source) (f : FaultFields) : State :=
  let action := (s.source x).action
  let s1 := s.latch x
  match action with
  | .ignore => s1
  | _ =>
    let (s2, sequence) := s1.recordStep x f
    s2.act action x f sequence

end Sys2Proof.Machine
end

