-- ==== Sys2Proof/Machine/Directory.lean ====
section
/-! DEFINITION. Chapters 1 and 2: the tables, their integrity, COMMIT and the management operations on the Target
Directory, the Group Table and the Target Status Table. -/

namespace Sys2Proof.Machine

/-! ## Answers of management operations -/

/-- The answer of a management operation is written into the slot reserved at the take (R176, R188). -/
def State.answer (s : State) (m : Master) (tag : Byte) (code : Byte) (status : Status)
    (generation : Option (BitVec 16)) (bytes : List Byte) : State :=
  s.fillSlot m ⟨tag, status, some code, generation, none, if bytes = [] then .none else .fields bytes⟩

/-- An INVALID answer carries its reason (R188). -/
def State.invalid (s : State) (m : Master) (tag : Byte) (code reason : Byte) : State :=
  s.answer m tag code .invalid none [reason]

/-- A parameter check that fails with this reason. -/
def require {α : Type} (reason : Byte) : Option α → Except Byte α
  | some a => .ok a
  | none => .error reason

/-- A parameter check on a condition. -/
def demand (reason : Byte) (b : Bool) : Except Byte Unit :=
  if b then .ok () else .error reason

/-! ## Table integrity (section 1.5) -/

/-- The record's health becomes HEALTHY and its count 0 (R10, R17, R19). -/
def State.heal (s : State) (t : Target) : State :=
  s.setRecord t { s.record t with health := .healthy, consecutive := 0 }

/-- The table-integrity event (R19). -/
def State.tableIntegrity (s : State) (t : Target) : State :=
  ((s.setActive t ⟨.absent, false⟩).heal t).occur .tableParity (.ofTarget t)

/-- A reader of R18 reads one active entry: a corrupt one undergoes the table-integrity event and reads as ABSENT
(R18, R20). -/
def State.readActive (s : State) (t : Target) : State × DirEntry :=
  if (s.activeEntry t).corrupt then (s.tableIntegrity t, .absent) else (s, (s.activeEntry t).entry)

/-- Reads these active entries in order, and gives the PRESENT ones (R27, R125). -/
def State.scanActive (s : State) : List Target → State × List (Target × DirEntry)
  | [] => (s, [])
  | t :: ts =>
    let (s1, e) := s.readActive t
    let (s2, es) := s1.scanActive ts
    (s2, if e.present then (t, e) :: es else es)

/-- The definition of a group's members among PRESENT entries (R25, R27): every one for group 15. -/
def memberOf (g : Nat) (e : DirEntry) : Bool :=
  g = 15 || e.memberships.any (fun h => h.val == g)

/-- The members of a group with their entries, from a scan of all 63 entries (R27). -/
def State.groupMembers (s : State) (g : Nat) : State × List (Target × DirEntry) :=
  let (s1, es) := s.scanActive allTargets
  (s1, es.filter (fun p => memberOf g p.2))

/-- The group rights of a master: the derived ones for group 15 (R25), else those of the active table. -/
def State.groupRights (s : State) (m : Master) (g : Nat) : Access :=
  match finOf 15 g with
  | some i => (s.activeGroups[i]).rights m
  | none =>
    match m, s.rightsM1 with
    | .m0, _ => .readWrite
    | .m1, .full => .readWrite
    | .m1, .read => .read
    | .m1, .none => .none

/-- Group 15 counts as enabled; the others by the active table (R25, R28). -/
def State.groupEnabled (s : State) (g : Nat) : Bool :=
  match finOf 15 g with
  | some i => (s.activeGroups[i]).enabled
  | none => true

/-! ## DIR-READ, DIR-WRITE, DISCARD -/

/-- The fields of an entry in an answer, in the order of the table of 01 section 1.1. -/
def entryFields (e : DirEntry) : List Byte :=
  [boolCode e.present, byteOf e.lane.val, byteOf e.station.val] ++ bytes3 (0#4 ++ e.base) ++
    bytes3 (BitVec.ofNat 24 e.length) ++ [accessCode e.accessM0, accessCode e.accessM1] ++
    listField (e.memberships.map (fun g => [byteOf g.val])) ++
    [byteOf e.deadline.val, byteOf e.threshold]

/-- DIR-READ (R5). -/
def opDirRead (m : Master) (tag target copy : Byte) (s : State) : State :=
  match targetOf target.toNat, copyOf copy with
  | none, _ => s.invalid m tag 0x02 1
  | some _, none => s.invalid m tag 0x02 2
  | some t, some false => s.answer m tag 0x02 .ok (some s.generation) (entryFields (s.stagedEntry t))
  | some t, some true =>
    let (s1, e) := s.readActive t
    s1.answer m tag 0x02 .ok (some s1.generation) (entryFields e)

/-- The membership set of a DIR-WRITE: at most 3 groups, none twice, each 0 to 14 (check 9 of R3), in ascending
order (R4). -/
def memberSet (count : Nat) (names : List Byte) : Option (List Group) :=
  if count ≤ 3 then
    match (names.take count).mapM (fun b => finOf 15 b.toNat) with
    | some gs => if gs.Nodup then some ((List.finRange 15).filter (fun g => gs.contains g)) else none
    | none => none
  else none

/-- The checks of DIR-WRITE in the order of R3, and the entry it writes (R4). -/
def checkDirWrite (p : DirParams) : Except Byte (Target × DirEntry) := do
  let t ← require 1 (targetOf p.target.toNat)
  let present ← require 2 (boolOf p.presence)
  if present then
    let lane ← require 3 (finOf 12 p.lane.toNat)
    let station ← require 4 (finOf 4 p.station.toNat)
    demand 5 (p.base.toNat ≤ 1048575)
    demand 6 (1 ≤ p.length.toNat && p.length.toNat ≤ 1048576)
    let accessM0 ← require 7 (accessOf p.accessM0)
    let accessM1 ← require 8 (accessOf p.accessM1)
    let memberships ← require 9 (memberSet p.memberCount.toNat [p.member1, p.member2, p.member3])
    let deadline ← require 10 (finOf 4 p.deadline.toNat)
    demand 11 (p.threshold.toNat ≤ 15)
    return (t, { present := true, lane, station, base := p.base.extractLsb' 0 20,
                 length := p.length.toNat, accessM0, accessM1, memberships, deadline,
                 threshold := p.threshold.toNat })
  else
    return (t, .absent)

/-- DIR-WRITE (R3, R4). -/
def opDirWrite (m : Master) (tag : Byte) (p : DirParams) (s : State) : State :=
  match checkDirWrite p with
  | .error reason => s.invalid m tag 0x03 reason
  | .ok (t, e) => (s.setStaged t e).answer m tag 0x03 .ok none []

/-- DISCARD at one target ID (R6). -/
def State.discardEntry (s : State) (t : Target) : State :=
  if (s.activeEntry t).corrupt then s.tableIntegrity t else s.setStaged t (s.activeEntry t).entry

/-- DISCARD over both tables (R6, R24). -/
def State.discardTables (s : State) : State :=
  let s1 := allTargets.foldl State.discardEntry s
  { s1 with stagedGroups := s1.activeGroups }

/-- DISCARD (R6, R24). -/
def opDiscard (m : Master) (tag : Byte) (s : State) : State :=
  s.discardTables.answer m tag 0x04 .ok none []

/-! ## COMMIT (section 1.3) -/

/-- Check 1 of R7 fails for a target: its window passes the address space. -/
def State.windowPasses (s : State) (t : Target) : Bool :=
  let e := s.stagedEntry t
  e.present && decide (1048576 < e.base.toNat + e.length)

/-- Check 2 of R7 fails for a target: it shares its lane and station. -/
def State.sharesPlace (s : State) (t : Target) : Bool :=
  let e := s.stagedEntry t
  e.present && allTargets.any (fun u =>
    let d := s.stagedEntry u
    u != t && d.present && d.lane == e.lane && d.station == e.station)

/-- Check 3 of R7 fails for a target: it names a group that is not enabled in the staged table. -/
def State.namesDisabled (s : State) (t : Target) : Bool :=
  let e := s.stagedEntry t
  e.present && e.memberships.any (fun g => !(s.stagedGroups[g]).enabled)

/-- The first check of R7 that fails, with the lowest offending target ID. -/
def State.commitFault (s : State) : Option (Byte × Target) :=
  match allTargets.find? s.windowPasses with
  | some t => some (1, t)
  | none =>
    match allTargets.find? s.sharesPlace with
    | some t => some (2, t)
    | none => (allTargets.find? s.namesDisabled).map (fun t => (3, t))

/-- The target counts as relocated between the two entries (R10). -/
def relocated (old new : DirEntry) : Bool :=
  old.present != new.present ||
    (old.present && new.present && (old.lane != new.lane || old.station != new.station))

/-- The relocated targets of an accepted COMMIT become HEALTHY with count 0 (R10). -/
def State.healRelocated (s : State) : State :=
  allTargets.foldl (fun acc t =>
    if relocated (s.activeEntry t).entry (s.stagedEntry t) then acc.heal t else acc) s

/-- An accepted COMMIT (R9, R10). -/
def State.acceptCommit (s : State) : State :=
  let s1 := s.healRelocated
  { s1 with
    active := s.staged.map (fun e => ⟨e, false⟩)
    activeGroups := s.stagedGroups
    generation := s.generation + 1
    hub := if s.hub = .setup then .run else s.hub }

/-- COMMIT (R7 to R10). -/
def opCommit (m : Master) (tag : Byte) (s : State) : State :=
  match s.commitFault with
  | some (check, t) =>
    (s.answer m tag 0x05 .invalid none [check, idByte t]).occur .commitRejected
      { FaultFields.none with master := some m, target := some t, detail := some check }
  | none =>
    let s1 := s.acceptCommit
    s1.answer m tag 0x05 .ok (some s1.generation) []

/-! ## STATUS-READ, REVIVE -/

/-- The five fields of a Target Status record (R16). -/
def recordFields (r : TargetRecord) : List Byte :=
  [healthCode r.health, byteOf r.consecutive, byteOf r.inFlightM0, byteOf r.inFlightM1] ++
    bytes2 (BitVec.ofNat 16 r.errors)

/-- STATUS-READ (R16). -/
def opStatusRead (m : Master) (tag target : Byte) (s : State) : State :=
  match targetOf target.toNat with
  | none => s.invalid m tag 0x06 1
  | some t => s.answer m tag 0x06 .ok none (recordFields (s.record t))

/-- REVIVE (R17). -/
def opRevive (m : Master) (tag target : Byte) (s : State) : State :=
  match targetOf target.toNat with
  | none => s.invalid m tag 0x07 1
  | some t => (s.heal t).answer m tag 0x07 .ok none []

/-! ## GROUP-READ, GROUP-WRITE -/

/-- The three fields of a Group Table entry. -/
def groupFields (e : GroupEntry) : List Byte :=
  [boolCode e.enabled, accessCode e.rightsM0, accessCode e.rightsM1]

/-- Group 15 as GROUP-READ returns it: enabled, with the derived rights (R23, R25). -/
def State.group15 (s : State) : GroupEntry :=
  ⟨true, s.groupRights .m0 15, s.groupRights .m1 15⟩

/-- GROUP-READ (R23; log 21 for group 15). -/
def opGroupRead (m : Master) (tag group copy : Byte) (s : State) : State :=
  if 15 < group.toNat then s.invalid m tag 0x08 1
  else
    match copyOf copy, finOf 15 group.toNat with
    | none, _ => s.invalid m tag 0x08 2
    | some _, none => s.answer m tag 0x08 .ok none (groupFields s.group15)
    | some false, some g => s.answer m tag 0x08 .ok (some s.generation) (groupFields s.stagedGroups[g])
    | some true, some g => s.answer m tag 0x08 .ok (some s.generation) (groupFields s.activeGroups[g])

/-- The checks of GROUP-WRITE in the order of R22, and the entry it writes. -/
def checkGroupWrite (group enabled rightsM0 rightsM1 : Byte) : Except Byte (Group × GroupEntry) := do
  let g ← require 1 (finOf 15 group.toNat)
  let enabled ← require 2 (boolOf enabled)
  let rightsM0 ← require 3 (accessOf rightsM0)
  let rightsM1 ← require 4 (accessOf rightsM1)
  return (g, { enabled, rightsM0, rightsM1 })

/-- GROUP-WRITE (R22). -/
def opGroupWrite (m : Master) (tag group enabled rightsM0 rightsM1 : Byte) (s : State) : State :=
  match checkGroupWrite group enabled rightsM0 rightsM1 with
  | .error reason => s.invalid m tag 0x09 reason
  | .ok (g, e) =>
    State.answer { s with stagedGroups := s.stagedGroups.set g e } m tag 0x09 .ok none []

end Sys2Proof.Machine
end

