-- ==== Sys2Proof/Machine/Claims.lean ====
section
/-! DEFINITION. Chapter 7: CLAIM, RENEW, RELEASE, the drain deadline and the lease expiry. -/

namespace Sys2Proof.Machine

/-- The record of this owner that holds the target, in either state (R124, R130). -/
def State.claimOver (s : State) (owner : Master) (t : Target) : Option ClaimId :=
  (List.finRange 8).find? (fun k =>
    match s.claim k with
    | some c => c.owner == owner && c.members.contains t
    | none => false)

/-- The lowest-numbered free record (R126). -/
def State.freeClaim (s : State) : Option ClaimId :=
  (List.finRange 8).find? (fun k => (s.claim k).isNone)

/-- A scope of a CLAIM (R123). -/
inductive Scope where
  | target (t : Target)
  | group (g : Nat)
deriving DecidableEq, Repr

/-- The parameter checks of a CLAIM in the order of R123. -/
def checkClaim (kind number : Byte) (drain : BitVec 16) : Except Byte Scope := do
  let isGroup ← require 1 (boolOf kind)
  let scope ← require 2 (
    if isGroup then (if number.toNat ≤ 15 then some (Scope.group number.toNat) else none)
    else (targetOf number.toNat).map Scope.target)
  demand 3 (1 ≤ drain.toNat && drain.toNat ≤ 1000)
  return scope

/-- The scope resolved against the active directory (R125): the members with their entries. -/
def State.resolveScope (s : State) : Scope → State × List (Target × DirEntry)
  | .target t => s.scanActive [t]
  | .group g => s.groupMembers g

/-- What the ordered checks 3 to 6 of R124 find. -/
inductive ClaimVerdict where
  | denied (t : Target)
  | conflict (t : Target) (k : ClaimId)
  | overlap (t : Target) (k : ClaimId)
  | busy
  | create (k : ClaimId)
deriving DecidableEq, Repr

/-- The lowest member that a record of this owner holds, with the record (checks 4 and 5 of R124). -/
def State.claimClash (s : State) (owner : Master) (members : List Target) : Option (Target × ClaimId) :=
  members.findSome? (fun t => (s.claimOver owner t).map (fun k => (t, k)))

/-- Checks 3 to 6 of R124, in order. -/
def State.judgeClaim (s : State) (m : Master) (members : List (Target × DirEntry)) : ClaimVerdict :=
  match members.find? (fun p => p.2.access m != .readWrite) with
  | some p => .denied p.1
  | none =>
    match s.claimClash m.other (members.map Prod.fst) with
    | some (t, k) => .conflict t k
    | none =>
      match s.claimClash m (members.map Prod.fst) with
      | some (t, k) => .overlap t k
      | none =>
        match s.freeClaim with
        | none => .busy
        | some k => .create k

/-- A CLAIM answered at once, with the generation current at the CLAIM (R124). -/
def State.answerClaim (s : State) (m : Master) (tag : Byte) (status : Status) (bytes : List Byte) : State :=
  s.fillSlot m (claimAnswer tag status (some s.generation) bytes)

/-- The record is created DRAINING, and granted at once when it is drained (R126). -/
def State.createClaim (s : State) (m : Master) (tag : Byte) (k : ClaimId) (members : List Target)
    (lease drain : BitVec 16) : State :=
  let c : Claim := ⟨m, members, lease, .draining tag (s.after (drain.toNat * 1000)), s.generation⟩
  let s1 := s.setClaim k (some c)
  if s1.drained c then s1.grantClaim k else s1

/-- Carries out what checks 3 to 6 of R124 found. -/
def State.concludeClaim (s : State) (m : Master) (tag : Byte) (members : List Target)
    (lease drain : BitVec 16) : ClaimVerdict → State
  | .denied t => s.answerClaim m tag .denied [idByte t]
  | .conflict t k => s.answerClaim m tag .conflict [idByte t, byteOf k.val]
  | .overlap t k => s.answerClaim m tag .overlap [idByte t, byteOf k.val]
  | .busy => s.answerClaim m tag .busy []
  | .create k => s.createClaim m tag k members lease drain

/-- CLAIM (R123 to R126). -/
def opClaim (m : Master) (tag kind number : Byte) (lease drain : BitVec 16) (s : State) : State :=
  match checkClaim kind number drain with
  | .error reason => s.fillSlot m (claimAnswer tag .invalid none [reason])
  | .ok scope =>
    if s.hub = .setup then s.answerClaim m tag .notReady []
    else
      let (s1, members) := s.resolveScope scope
      if members = [] then s1.answerClaim m tag .empty []
      else s1.concludeClaim m tag (members.map Prod.fst) lease drain (s1.judgeClaim m members)

/-- The record of this number, where the master owns it (R133, R134). -/
def State.ownClaim (s : State) (m : Master) (k : ClaimId) : Option Claim :=
  match s.claim k with
  | some c => if c.owner = m then some c else none
  | none => none

/-- The fields of a RENEW answer: the claim ID and, when present, the new lease deadline (R133). -/
def renewFields (claimId : Byte) (deadline : Option Time) : List Byte :=
  claimId :: optField (deadline.map bytes4)

/-- RENEW (the table of R133). -/
def opRenew (m : Master) (tag claimId : Byte) (s : State) : State :=
  match finOf 8 claimId.toNat with
  | none => s.invalid m tag 0x11 1
  | some k =>
    match s.ownClaim m k with
    | none => s.answer m tag 0x11 .noRecord none (renewFields claimId none)
    | some c =>
      match c.state with
      | .draining _ _ => s.answer m tag 0x11 .ok none (renewFields claimId none)
      | .held _ =>
        let deadline := s.leaseDeadline c.lease
        (s.setClaim k (some { c with state := .held deadline })).answer m tag 0x11 .ok none
          (renewFields claimId deadline)

/-- RELEASE (R134). -/
def opRelease (m : Master) (tag claimId : Byte) (s : State) : State :=
  match finOf 8 claimId.toNat with
  | none => s.invalid m tag 0x12 1
  | some k =>
    match s.ownClaim m k with
    | none => s.answer m tag 0x12 .noRecord none []
    | some c =>
      match c.state with
      | .draining claimTag _ =>
        ((s.setClaim k none).fillSlot m (claimAnswer claimTag .cancelled none [])).answer m tag 0x12 .ok none []
      | .held _ => (s.setClaim k none).answer m tag 0x12 .ok none []

/-- The fields of a claim's timer faults: the owner and the claim ID (R129, R132). -/
def claimFields (k : ClaimId) (c : Claim) : FaultFields :=
  { FaultFields.none with master := some c.owner, detail := some (byteOf k.val) }

/-- The drain deadline of a DRAINING record (R129). -/
def drainDeadlineEvent (k : ClaimId) (s : State) : State :=
  match s.claim k with
  | some c =>
    match c.state with
    | .draining tag deadline =>
      if deadline = s.timebase then
        ((s.setClaim k none).fillSlot c.owner (claimAnswer tag .timeout none [])).occur
          .claimDrainTimeout (claimFields k c)
      else s
    | .held _ => s
  | none => s

/-- The lease deadline of a HELD record (R132). -/
def leaseExpiryEvent (k : ClaimId) (s : State) : State :=
  match s.claim k with
  | some c =>
    match c.state with
    | .held deadline =>
      if s.due deadline then (s.setClaim k none).occur .claimExpired (claimFields k c) else s
    | .draining _ _ => s
  | none => s

end Sys2Proof.Machine
end

