-- ==== Sys2Proof/Machine/ClaimTimers.lean ====
section
/-! DEFINITION. The meanings of the timers of a claim. -/

namespace Sys2Proof.Machine

/-- The drain deadline of a claim (R129). -/
def execDrainDeadline (k : ClaimId) (s : State) : Host.Outcome State Fault Refusal :=
  happens (drainDeadlineEvent k) s

/-- The lease deadline of a claim (R132). -/
def execLeaseExpiry (k : ClaimId) (s : State) : Host.Outcome State Fault Refusal :=
  happens (leaseExpiryEvent k) s

end Sys2Proof.Machine
end

