-- ==== Sys2Proof/Machine/Lanes.lean ====
section
/-! DEFINITION. Chapter 5 and sections 6.3 to 6.5: what the Lane Engines do at each event, LANE-CONTROL and LANE-READ. -/

namespace Sys2Proof.Machine

/-! ## Receiving -/

/-- The receiver of a lane works: in every state but DISABLED (R84, R90). -/
def Lane.listens (x : Lane) : Bool := x.state != .disabled

/-- The SOF of a frame at a lane (R186): a collection that the receiver still holds is abandoned as bad CRC, LANE_CRC
(R90). -/
def State.laneStart (l : LaneId) (s : State) : State :=
  match (s.lane l).receiver with
  | .hunting => s
  | .inFrame _ => (s.modifyLane l (fun x => { x with receiver := .hunting })).occur .laneCrc (.ofLane l)

/-- A frame of so many bytes with its good CRC arrives at a lane that is not DISABLED, from SOF to EOF, and leaves the
receiver hunting (R186): handed on, it has its effect `take`; too short or too long to be handed on, it is bad CRC,
LANE_CRC (R90). -/
def State.laneFrame (l : LaneId) (bytes : Nat) (take : State → State) (s : State) : State :=
  if (s.lane l).listens then
    if frameFits bytes then take (s.laneStart l) else (s.laneStart l).occur .laneCrc (.ofLane l)
  else s

/-- A valid frame sets last received while contact is YES (R88, R90). -/
def Lane.heard (now : Time) (x : Lane) : Lane :=
  if x.contact then { x with lastReceived := some now } else x

/-- A frame that is not valid is discarded with FRAME_MALFORMED (R90). -/
def State.laneMalformed (l : LaneId) (s : State) : State :=
  s.occur .frameMalformed (.ofLane l)

/-! ## Training (section 5.3) -/

/-- A further HELLO of training (R85). -/
def Lane.helloAgain (now : Time) (x : Lane) : Lane :=
  Lane.send now .hello { x with hellosSent := x.hellosSent + 1, helloTime := some now }

/-- The HELLO interval has passed on a TRAINING lane that has HELLOs left (R85). -/
def State.laneHelloDue (s : State) (l : LaneId) : Bool :=
  let x := s.lane l
  x.state == .training && decide (x.hellosSent < Config.maxHellos) &&
    s.arrives x.helloTime Config.helloInterval

def laneHelloIntervalEvent (l : LaneId) (s : State) : State :=
  if s.laneHelloDue l then s.modifyLane l (Lane.helloAgain s.timebase) else s

/-- 200 microseconds have passed after the fiftieth HELLO (R87). -/
def State.laneFailureDue (s : State) (l : LaneId) : Bool :=
  let x := s.lane l
  x.state == .training && x.hellosSent == Config.maxHellos &&
    s.arrives x.helloTime Config.helloInterval

/-- Training fails (R87). -/
def laneTrainingFailureEvent (l : LaneId) (s : State) : State :=
  if s.laneFailureDue l then
    (s.modifyLane l (fun x =>
      x.enterDown (if x.autoRetrain then some (s.after Config.retryWait) else none))).occur
        .laneTrainFail (.ofLane l)
  else s

/-- The retry time of a DOWN lane has come (R87). -/
def State.laneRetryDue (s : State) (l : LaneId) : Bool :=
  (s.lane l).state == .down && s.due (s.lane l).retryTime

def laneRetryEvent (l : LaneId) (s : State) : State :=
  if s.laneRetryDue l then s.trainLane l else s

/-- A station count that a device HELLO may carry (R86). -/
def stationsOk (b : Byte) : Bool := decide (1 ≤ b.toNat ∧ b.toNat ≤ 4)

/-- The lane comes UP with the carried station count (R86). A training HELLO that still waits for a busy line is kept and
goes on the UP lane ahead of any LEG-OUT: the spec is silent, the model's choice (log 9). -/
def Lane.comeUp (now : Time) (stations : Nat) (x : Lane) : Lane :=
  { x with stations := stations, state := .up, contact := true, lastReceived := some now,
           lastSent := x.helloTime, hellosSent := 0, helloTime := none }

/-- A device HELLO at a TRAINING lane (R86), without the fault. -/
def State.takeTrainingAnswer (s : State) (l : LaneId) (stations : Byte) : State :=
  if stationsOk stations then s.modifyLane l (Lane.comeUp s.timebase stations.toNat) else s

/-- A device HELLO while contact is YES (R89): LANE_LOST, the lane-wide ending, and on an UP lane with auto-retrain
on training and the same HELLO as its answer. The faults' actions follow the lane's own changes (R146, R144). -/
def State.deviceRestart (s : State) (l : LaneId) (stations : Byte) : State :=
  let x := s.lane l
  let s1 := s.endLaneWork l
  match x.state, x.autoRetrain with
  | .up, true =>
    let s2 := ((s1.trainLane l).takeTrainingAnswer l stations).occur .laneLost (.ofLane l)
    if stationsOk stations then s2 else s2.occur .frameMalformed (.ofLane l)
  | .up, false => (s1.modifyLane l (Lane.enterDown none)).occur .laneLost (.ofLane l)
  | _, _ => (s1.modifyLane l Lane.goSilent).occur .laneLost (.ofLane l)

/-- A HELLO from the device (R86, R89; discarded in DOWN and in FENCED with contact NO). -/
def State.deviceHello (l : LaneId) (stations : Byte) (s : State) : State :=
  let x := s.lane l
  if x.contact then s.deviceRestart l stations
  else match x.state with
    | .training =>
      if stationsOk stations then s.takeTrainingAnswer l stations else s.laneMalformed l
    | _ => s

/-- A HELLO frame arrives from the device: kind byte and station count. -/
def deviceHelloEvent (l : LaneId) (stations : Byte) (s : State) : State :=
  s.laneFrame l 2 (State.deviceHello l stations)

/-! ## Keepalive, loss, receive errors (section 5.4) -/

/-- At least 100 microseconds have passed since last sent (R88). A lane that comes UP more than 100 microseconds after its
last HELLO, which is then last sent (R86), has its IDLE due at once (R110; log 4). -/
def State.laneKeepaliveDue (s : State) (l : LaneId) : Bool :=
  (s.lane l).contact && passed s.timebase (s.lane l).lastSent Config.keepalive

/-- The Lane Engine sends an IDLE and sets last sent (R88). -/
def laneKeepaliveEvent (l : LaneId) (s : State) : State :=
  if s.laneKeepaliveDue l then
    s.modifyLane l (fun x => { Lane.send s.timebase .idle x with lastSent := some s.timebase })
  else s

/-- 1,000 microseconds have passed since last received (R88). -/
def State.laneLossDue (s : State) (l : LaneId) : Bool :=
  (s.lane l).contact && s.arrives (s.lane l).lastReceived Config.lossTime

/-- Where a lane goes after a loss (the table of R88). -/
def State.placeLostLane (s : State) (l : LaneId) : State :=
  let x := s.lane l
  match x.state, x.autoRetrain with
  | .up, true => s.trainLane l
  | .up, false => s.modifyLane l (Lane.enterDown none)
  | _, _ => s.modifyLane l Lane.goSilent

/-- Lane loss (R88). -/
def laneLossEvent (l : LaneId) (s : State) : State :=
  if s.laneLossDue l then
    ((s.endLaneWork l).placeLostLane l).occur .laneLost (.ofLane l)
  else s

/-- An IDLE from the device (R90). -/
def State.laneIdle (l : LaneId) (s : State) : State :=
  s.modifyLane l (Lane.heard s.timebase)

/-- An IDLE frame arrives from the device: the kind byte. -/
def laneIdleEvent (l : LaneId) (s : State) : State :=
  s.laneFrame l 1 (State.laneIdle l)

/-! ## Issue (R94) and the lane's transmitter -/

/-- The sequence numbers held by ISSUED and EXPIRED slots. -/
def Lane.heldSeqs (x : Lane) : List Byte :=
  allSlots.filterMap (fun w =>
    match x.slot w with
    | .issued q _ _ _ _ => some q
    | .expired q _ _ => some q
    | .free => none)

/-- The first number, counting upward modulo 256, that no slot holds; a number is found within four tries (R94). -/
def Lane.freeSeq (x : Lane) : Byte :=
  (([0, 1, 2, 3] : List Byte).map (x.nextSeq + ·)).find? (fun q => !x.heldSeqs.contains q)
    |>.getD x.nextSeq

/-- The lowest-numbered FREE slot. -/
def Lane.freeSlot (x : Lane) : Option SlotId := allSlots.find? (fun w => x.slot w == .free)

/-- The operation of a context's LEG-OUT frames (the second table of R94). -/
def Ctx.legOp (x : Ctx) : LegOp :=
  match x.payload with
  | .none => .read
  | .words ws => .write ws
  | .masks setMask clearMask => .modify setMask clearMask

/-- The conditions of an issue (R94). -/
def State.canIssue (s : State) (l : LaneId) : Bool :=
  let x := s.lane l
  x.state == .up && s.hub != .halted && x.freeSlot.isSome && !x.queue.isEmpty

/-- The steps of an issue of this leg into this slot (R94): the sequence number, next sequence number, the slot
with its deadline, the queue with its refill, the leg ISSUED, and the LEG-OUT. -/
def State.issueLeg (s : State) (l : LaneId) (r : LegRef) (rest : List LegRef) (w : SlotId) (c : Ctx) (g : Leg) :
    State :=
  let x := s.lane l
  let q := x.freeSeq
  let slot := Slot.issued q r.ctx c.master r.target (s.after (s.classDuration g.deadline))
  let frame := LaneFrame.legOut ⟨q, g.station, c.legOp, g.addr, c.count⟩
  let s1 := s.setLane l ({ x with nextSeq := q + 1, queue := rest }.setSlot w slot)
  ((s1.setLegState r .issued).refill l).modifyLane l (Lane.send s.timebase frame)

/-- One issue at a lane (R94, R105). -/
def issueEvent (l : LaneId) (s : State) : State :=
  if s.canIssue l then
    let x := s.lane l
    match x.queue, x.freeSlot with
    | r :: rest, some w =>
      match s.ctx r.ctx with
      | some c =>
        match c.leg r.target with
        | some g => s.issueLeg l r rest w c g
        | none => s.setLane l { x with queue := rest }
      | none => s.setLane l { x with queue := rest }
    | _, _ => s
  else s

/-- A lane's transmitter has finished its frame: the next waiting frame goes on the line (R94), which sets last
sent (R88). -/
def laneTransmitterFreeEvent (l : LaneId) (s : State) : State :=
  s.modifyLane l (fun x =>
    match x.waiting with
    | f :: fs => Lane.send s.timebase f { x with line := none, waiting := fs }
    | [] => { x with line := none })

/-! ## Answers (R95 to R97) -/

/-- The slot that holds this sequence number ISSUED. -/
def Lane.issuedSlot (x : Lane) (q : Byte) : Option (SlotId × LegRef × Master) :=
  allSlots.findSome? (fun w =>
    match x.slot w with
    | .issued p c m t _ => if p = q then some (w, ⟨c, t⟩, m) else none
    | _ => none)

/-- The slot that holds this sequence number EXPIRED. -/
def Lane.expiredSlot (x : Lane) (q : Byte) : Option (SlotId × Master × Target) :=
  allSlots.findSome? (fun w =>
    match x.slot w with
    | .expired p m t => if p = q then some (w, m, t) else none
    | _ => none)

/-- The LEG-BACK matches the leg of its slot (R95). -/
def matchesLeg (f : LegBackFrame) (c : Ctx) (g : Leg) : Bool :=
  f.station.toNat == g.station.val && f.op == legOpCode c.legOp &&
    (if f.error then f.arg != 0 else f.arg.toNat == c.count)

/-- The outcome a LEG-BACK gives an ISSUED leg (R95, R96). -/
def legBackOutcome (f : LegBackFrame) (c : Ctx) (g : Leg) : LegOutcome :=
  if matchesLeg f c g then (if f.error then .targetError f.arg else .ok) else .badResponse

/-- The data a LEG-BACK returns. -/
def legBackWords (f : LegBackFrame) : List Word := readWords f.rest

/-- The fields of a fault about a leg: lane, target, master, and the tag when the context is ACTIVE (08 section
8.1). -/
def legFields (l : LaneId) (t : Target) (m : Master) (c : Option Ctx) : FaultFields where
  lane := some l
  target := some t
  master := some m
  tag := c.bind Ctx.tag
  detail := none

/-- The fault of an outcome given by a LEG-BACK (R95, R96). -/
def State.legBackFault (s : State) (o : LegOutcome) (f : FaultFields) : State :=
  match o with
  | .targetError code => s.occur .targetError { f with detail := some code }
  | .badResponse => s.occur .badResponse f
  | _ => s

/-- A LEG-BACK reaches the ISSUED slot of its number (R95, R96): the slot becomes FREE and the leg ends. Between the parts
of a fabric reset the completion is discarded and the fault is raised, with no tag (R80). -/
def State.answerLeg (s : State) (l : LaneId) (w : SlotId) (r : LegRef) (m : Master) (f : LegBackFrame) : State :=
  let s1 := s.modifyLane l (fun x => x.setSlot w .free)
  let fields := legFields l r.target m (s.ctx r.ctx)
  match s.sentCtx r.ctx with
  | some c =>
    match c.leg r.target with
    | some g =>
      let o := legBackOutcome f c g
      (s1.complete r o (legBackWords f)).legBackFault o fields
    | none => s1
  | none => s1

/-- A LEG-BACK of good length (R95 to R97). -/
def State.takeLegBack (s : State) (l : LaneId) (f : LegBackFrame) : State :=
  match (s.lane l).issuedSlot f.seq with
  | some (w, r, m) => s.answerLeg l w r m f
  | none =>
    match (s.lane l).expiredSlot f.seq with
    | some (w, m, t) =>
      ((s.modifyLane l (fun x => x.setSlot w .free)).slotFreed m t).occur .lateResponse
        { FaultFields.none with lane := some l, target := some t }
    | none => s.occur .strayResponse (.ofLane l)

/-- A LEG-BACK from the device: judged for length (R90), then matched (R95 to R97). -/
def State.judgeLegBack (l : LaneId) (f : LegBackFrame) (s : State) : State :=
  if legBackLengthOk f then (s.modifyLane l (Lane.heard s.timebase)).takeLegBack l f
  else s.laneMalformed l

/-- A LEG-BACK frame arrives from the device. -/
def legBackEvent (l : LaneId) (f : LegBackFrame) (s : State) : State :=
  s.laneFrame l f.bytes (State.judgeLegBack l f)

/-! ## Frames and symbols at a lane's receiver (R186, R187) -/

/-- A frame of these bytes with its good CRC arrives at a lane: what it is, the row of its kind takes; one that a device does
not send, that cannot be parsed, or that is a LEG-BACK of wrong length is FRAME_MALFORMED (R187, R90). -/
def laneMalformedFrameEvent (l : LaneId) (frame : List Byte) (s : State) : State :=
  match readLaneFrame frame with
  | .hello stations => deviceHelloEvent l stations s
  | .idle => laneIdleEvent l s
  | .legBack f => legBackEvent l f s
  | .malformed => s.laneFrame l frame.length (State.laneMalformed l)

/-- One symbol reaches a lane's receiver (the table of R186), which collects nothing on a DISABLED lane: a frame that it
abandons or finds bad is LANE_CRC (R90), one that it hands on is parsed. -/
def State.laneSymbol (l : LaneId) (s : State) (x : Symbol) : State :=
  if (s.lane l).listens then
    let r := receiveSymbol (s.lane l).receiver x
    let s1 := s.modifyLane l (fun y => { y with receiver := r.1 })
    match r.2 with
    | none => s1
    | some .badCrc => s1.occur .laneCrc (.ofLane l)
    | some (.handedOn frame) => laneMalformedFrameEvent l frame s1
  else s

/-- Symbols reach a lane's receiver one after the other (R186). -/
def laneBadCrcEvent (l : LaneId) (symbols : List Symbol) (s : State) : State :=
  symbols.foldl (State.laneSymbol l) s

/-! ## Expiry (R98) and quarantine (R116) -/

/-- The deadline of an ISSUED slot has come: its leg's reference and master (R98). -/
def State.expiring (s : State) (l : LaneId) (w : SlotId) : Option (Byte × LegRef × Master) :=
  match (s.lane l).slot w with
  | .issued q c m t d => if d = s.timebase then some (q, ⟨c, t⟩, m) else none
  | _ => none

/-- The threshold test at a TIMEOUT (R116): the state after it and whether it quarantined the target. The read
tests the entry's integrity (R18). -/
def State.testThreshold (s : State) (t : Target) : State × Bool :=
  let (s1, e) := s.readActive t
  let r := s1.record t
  if r.health = .healthy ∧ e.threshold ≠ 0 ∧ e.threshold ≤ r.consecutive then (s1.quarantine t, true)
  else (s1, false)

/-- The threshold test, which is discarded with the outcome between the parts of a fabric reset (R80). -/
def State.thresholdTest (s : State) (t : Target) : State × Bool :=
  if s.resetDue then (s, false) else s.testThreshold t

/-- Every slot of the lane is EXPIRED. -/
def Lane.stalled (x : Lane) : Bool :=
  allSlots.all (fun w =>
    match x.slot w with
    | .expired _ _ _ => true
    | _ => false)

/-- Occurs when the condition holds. -/
def State.occurIf (s : State) (b : Bool) (x : Source) (f : FaultFields) : State :=
  if b then s.occur x f else s

/-- The expiry of a slot's leg, as one event (R98), its faults in the order of R116. -/
def legExpiryEvent (l : LaneId) (w : SlotId) (s : State) : State :=
  match s.expiring l w with
  | none => s
  | some (q, r, m) =>
    let fields := legFields l r.target m (s.ctx r.ctx)
    let s1 := s.modifyLane l (fun x => x.setSlot w (.expired q m r.target))
    let s2 := s1.complete r .timeout []
    let (s3, quarantined) := s2.thresholdTest r.target
    let s4 := s3.occur .legTimeout fields
    let s5 := s4.occurIf quarantined .targetQuarantined
      { FaultFields.none with lane := some l, target := some r.target }
    s5.occurIf (s1.lane l).stalled .laneStalled (.ofLane l)

/-! ## LANE-CONTROL (R102, R103) and LANE-READ (R104) -/

/-- RETRAIN in the lane's state (R102). -/
def State.retrainLane (s : State) (l : LaneId) : State × Status :=
  match (s.lane l).state with
  | .disabled => (s, .ok)
  | .training => (s.trainLane l, .ok)
  | .up => ((s.endLaneWork l).trainLane l, .ok)
  | .fenced => (s, .conflict)
  | .down => (s.trainLane l, .ok)

/-- FENCE in the lane's state (R102, R101). -/
def State.fenceCommand (s : State) (l : LaneId) : State × Status :=
  match (s.lane l).state with
  | .disabled => (s, .conflict)
  | _ => (s.fenceLane l, .ok)

/-- UNFENCE in the lane's state (R102). -/
def State.unfenceLane (s : State) (l : LaneId) : State × Status :=
  match (s.lane l).state with
  | .fenced => ((s.endLaneWork l).trainLane l, .ok)
  | _ => (s, .ok)

/-- ENABLE in the lane's state (R102). -/
def State.enableLane (s : State) (l : LaneId) : State × Status :=
  match (s.lane l).state with
  | .disabled => ((s.modifyLane l (fun x => { x with enabled := true })).trainLane l, .ok)
  | _ => (s, .ok)

/-- DISABLE in the lane's state (R102). -/
def State.disableLane (s : State) (l : LaneId) : State × Status :=
  match (s.lane l).state with
  | .disabled => (s, .ok)
  | .down => (s.modifyLane l (fun x => { x.enterDisabled with enabled := false }), .ok)
  | _ => ((s.endLaneWork l).modifyLane l (fun x => { x.enterDisabled with enabled := false }), .ok)

/-- AUTO-ON (R103). -/
def State.autoOnLane (s : State) (l : LaneId) : State × Status :=
  (s.modifyLane l (fun x =>
    { x with
      autoRetrain := true
      retryTime := if x.state = .down ∧ x.retryTime = none then some (s.after Config.retryWait)
                   else x.retryTime }), .ok)

/-- AUTO-OFF (R103). -/
def State.autoOffLane (s : State) (l : LaneId) : State × Status :=
  (s.modifyLane l (fun x =>
    { x with
      autoRetrain := false
      retryTime := if x.state = .down then none else x.retryTime }), .ok)

/-- The action of LANE-CONTROL that a code names (section 11.3). -/
def laneAction (action : Byte) : Option (State → LaneId → State × Status) :=
  match action.toNat with
  | 0 => some State.retrainLane
  | 1 => some State.fenceCommand
  | 2 => some State.unfenceLane
  | 3 => some State.enableLane
  | 4 => some State.disableLane
  | 5 => some State.autoOnLane
  | 6 => some State.autoOffLane
  | _ => none

/-- LANE-CONTROL (R102). -/
def opLaneControl (m : Master) (tag lane action : Byte) (s : State) : State :=
  match finOf 12 lane.toNat, laneAction action with
  | none, _ => s.invalid m tag 0x0D 1
  | some _, none => s.invalid m tag 0x0D 2
  | some l, some f =>
    let (s1, status) := f s l
    s1.answer m tag 0x0D status none []

/-- One window slot in a LANE-READ answer (R104; log 19). -/
def slotFields (v : Slot) : List Byte :=
  match v with
  | .free => [0, 0, 0, 0]
  | .issued q _ m t _ => [1, 1, q, 1, masterCode m, 1, idByte t]
  | .expired q m t => [2, 1, q, 1, masterCode m, 1, idByte t]

/-- The fields of a LANE-READ answer (R104; log 20 for the code of auto-retrain). -/
def State.laneFields (s : State) (l : LaneId) : List Byte :=
  let x := s.lane l
  [laneStateCode x.state, boolCode x.enabled, boolCode (!x.autoRetrain), boolCode x.contact,
    byteOf x.stations, x.nextSeq, byteOf x.queue.length] ++
    bytes2 (BitVec.ofNat 16 (s.pendingFor l).length) ++
    allSlots.flatMap (fun w => slotFields (x.slot w))

/-- LANE-READ (R104). -/
def opLaneRead (m : Master) (tag lane : Byte) (s : State) : State :=
  match finOf 12 lane.toNat with
  | none => s.invalid m tag 0x0C 1
  | some l => s.answer m tag 0x0C .ok none (s.laneFields l)

end Sys2Proof.Machine
end

