-- ==== Sys2Proof/Machine/LaneEngines.lean ====
section
/-! DEFINITION. The meanings of the commands of the twelve Lane Engines. -/

namespace Sys2Proof.Machine

/-- A LEG-BACK arrives on a lane (R95 to R97). -/
def execLegBack (l : LaneId) (f : LegBackFrame) (s : State) : Host.Outcome State Fault Refusal :=
  happensAtLane (legBackEvent l f) s

/-- A HELLO arrives on a lane (R86, R89). -/
def execDeviceHello (l : LaneId) (stations : Byte) (s : State) : Host.Outcome State Fault Refusal :=
  happensAtLane (deviceHelloEvent l stations) s

/-- An IDLE arrives on a lane (R90). -/
def execLaneIdle (l : LaneId) (s : State) : Host.Outcome State Fault Refusal :=
  happens (laneIdleEvent l) s

/-- The symbols of a bad frame reach a lane (R90, R186). -/
def execLaneBadCrcFrame (l : LaneId) (symbols : List Symbol) (s : State) : Host.Outcome State Fault Refusal :=
  happens (laneBadCrcEvent l symbols) s

/-- A frame that is not valid arrives on a lane (R90). -/
def execLaneMalformedFrame (l : LaneId) (frame : List Byte) (s : State) : Host.Outcome State Fault Refusal :=
  happens (laneMalformedFrameEvent l frame) s

/-- The HELLO interval of a TRAINING lane (R85). -/
def execLaneHelloInterval (l : LaneId) (s : State) : Host.Outcome State Fault Refusal :=
  happens (laneHelloIntervalEvent l) s

/-- Training of a lane fails (R87). -/
def execLaneTrainingFailure (l : LaneId) (s : State) : Host.Outcome State Fault Refusal :=
  happens (laneTrainingFailureEvent l) s

/-- The retry time of a DOWN lane (R87). -/
def execLaneRetry (l : LaneId) (s : State) : Host.Outcome State Fault Refusal :=
  happens (laneRetryEvent l) s

/-- The keepalive of a lane (R88). -/
def execLaneKeepalive (l : LaneId) (s : State) : Host.Outcome State Fault Refusal :=
  happens (laneKeepaliveEvent l) s

/-- Loss of a lane (R88). -/
def execLaneLoss (l : LaneId) (s : State) : Host.Outcome State Fault Refusal :=
  happensAtLane (laneLossEvent l) s

/-- The deadline of a leg's slot (R98). -/
def execLegExpiry (l : LaneId) (w : SlotId) (s : State) : Host.Outcome State Fault Refusal :=
  happensAtLane (legExpiryEvent l w) s

/-- The Lane Engine issues the head of its queue (R94). -/
def execIssue (l : LaneId) (s : State) : Host.Outcome State Fault Refusal :=
  happens (issueEvent l) s

/-- A lane's transmitter finishes its frame (R94). -/
def execLaneTransmitterFree (l : LaneId) (s : State) : Host.Outcome State Fault Refusal :=
  happens (laneTransmitterFreeEvent l) s

end Sys2Proof.Machine
end

