-- ==== Sys2Proof/Machine/Faults.lean ====
section
/-! DEFINITION. The management operations of chapter 8 (faults and alerts) and of chapter 6 (deadline classes). -/

namespace Sys2Proof.Machine

/-! ## ACTION-WRITE, ACTION-READ, FAULT-READ, FAULT-POP, FAULT-CLEAR -/

/-- ACTION-WRITE (R147). -/
def opActionWrite (m : Master) (tag source action : Byte) (s : State) : State :=
  match finOf 22 (source.toNat - 1), actionOf action with
  | none, _ => s.invalid m tag 0x14 1
  | some i, a =>
    if source = 0 then s.invalid m tag 0x14 1
    else match a with
      | none => s.invalid m tag 0x14 2
      | some a =>
        State.answer { s with sources := s.sources.set i { s.sources[i] with action := a } } m tag 0x14 .ok
          none []

/-- ACTION-READ (R148): the 22 actions in source number order. -/
def opActionRead (m : Master) (tag : Byte) (s : State) : State :=
  s.answer m tag 0x13 .ok none (s.sources.toList.map (fun r => actionCode r.action))

/-- The fields of FAULT-READ (R151). -/
def State.faultReadFields (s : State) : List Byte :=
  s.sources.toList.flatMap (fun r => [boolCode r.latch, byteOf r.count]) ++
    [byteOf s.records.length, byteOf s.lostCount] ++ bytes2 s.nextRecord

/-- FAULT-READ (R151). -/
def opFaultRead (m : Master) (tag : Byte) (s : State) : State :=
  s.answer m tag 0x15 .ok none s.faultReadFields

/-- The fields of a fault record in an answer, in the order of 08 section 8.3. -/
def faultRecordFields (r : FaultRecord) : List Byte :=
  bytes2 r.sequence ++ bytes4 r.time ++ [sourceCode r.source, classCode r.source.cls] ++
    optField (r.fields.lane.map (fun l => [byteOf l.val])) ++
    optField (r.fields.target.map (fun t => [idByte t])) ++
    optField (r.fields.master.map (fun m => [masterCode m])) ++
    optField (r.fields.tag.map (fun b => [b])) ++ optField (r.fields.detail.map (fun b => [b]))

/-- FAULT-POP (R150). -/
def opFaultPop (m : Master) (tag : Byte) (s : State) : State :=
  match s.records with
  | r :: rest =>
    State.answer { s with records := rest, lostCount := 0 } m tag 0x16 .ok none
      (faultRecordFields r ++ [byteOf s.lostCount])
  | [] => s.answer m tag 0x16 .noRecord none [byteOf s.lostCount]

/-- Source number `i + 1` is in the set (section 11.3: bit n names source n). -/
def inSourceSet (sources : BitVec 24) (i : Fin 22) : Bool := sources.getLsbD (i.val + 1)

/-- The latch and count of every source in the set are cleared (R152). -/
def State.clearSources (s : State) (sources : BitVec 24) : State :=
  { s with
    sources := s.sources.mapFinIdx (fun i r h =>
      if inSourceSet sources ⟨i, h⟩ then { r with latch := false, count := 0 } else r) }

/-- FAULT-CLEAR (R152). -/
def opFaultClear (m : Master) (tag : Byte) (sources : BitVec 24) (s : State) : State :=
  if sources.getLsbD 0 || sources.getLsbD 23 then s.invalid m tag 0x17 1
  else (s.clearSources sources).answer m tag 0x17 .ok none []

/-! ## LEVEL-READ, LEVEL-WRITE, ALERT-ACK -/

/-- One entry of a pending set in a LEVEL-READ answer: class, source and optional record sequence (R159). -/
def pendedFields (c : FaultClass) (p : Pended) : List Byte :=
  [classCode c, sourceCode p.source] ++ optField (p.sequence.map bytes2)

/-- The alert state of one master in a LEVEL-READ answer (R159). -/
def alertFields (a : AlertState) : List Byte :=
  classOrder.map (fun c => byteOf (a.levels.get c).val) ++ [byteOf a.floor.val, boolCode a.busy] ++
    listField (classOrder.filterMap (fun c => (a.pending.get c).map (pendedFields c)))

/-- LEVEL-READ (R159). -/
def opLevelRead (m : Master) (tag : Byte) (s : State) : State :=
  s.answer m tag 0x18 .ok none (alertFields s.alertM0 ++ alertFields s.alertM1)

/-- The checks of LEVEL-WRITE in the order of R158. -/
def checkLevelWrite (master internal fabric link target floor : Byte) :
    Except Byte (Master × PerClass (Fin 4) × Fin 4) := do
  let w ← require 1 (masterOf master)
  let internal ← require 2 (finOf 4 internal.toNat)
  let fabric ← require 2 (finOf 4 fabric.toNat)
  let link ← require 2 (finOf 4 link.toNat)
  let target ← require 2 (finOf 4 target.toNat)
  let floor ← require 3 (finOf 4 floor.toNat)
  return (w, { internal, fabric, link, target }, floor)

/-- LEVEL-WRITE (R158). -/
def opLevelWrite (m : Master) (tag master internal fabric link target floor : Byte) (s : State) : State :=
  match checkLevelWrite master internal fabric link target floor with
  | .error reason => s.invalid m tag 0x19 reason
  | .ok (w, levels, fl) =>
    ((s.setAlert w { s.alert w with levels := levels, floor := fl }).testAlert w).answer m tag 0x19 .ok
      none []

/-- The requester's window becomes FREE and an unsent ALERT is withdrawn (R157, R172). -/
def State.freeWindow (s : State) (m : Master) : State :=
  (s.setAlert m { s.alert m with busy := false }).modifyPort m (fun p => { p with alertReady := none })

/-- ALERT-ACK (R157). -/
def opAlertAck (m : Master) (tag : Byte) (s : State) : State :=
  if (s.alert m).busy then ((s.freeWindow m).testAlert m).answer m tag 0x1A .ok none []
  else s.answer m tag 0x1A .noRecord none []

/-! ## DEADLINE-READ, DEADLINE-WRITE (section 6.2) -/

/-- The four classes with their durations, then the timebase (R113). -/
def State.deadlineFields (s : State) : List Byte :=
  s.classes.toList.flatMap (fun d =>
    [byteOf d.mantissa, byteOf d.scale] ++ bytes4 (BitVec.ofNat 32 d.duration)) ++ bytes4 s.timebase

/-- DEADLINE-READ (R113). -/
def opDeadlineRead (m : Master) (tag : Byte) (s : State) : State :=
  s.answer m tag 0x0E .ok none s.deadlineFields

/-- The checks of DEADLINE-WRITE in the order of R112. -/
def checkDeadlineWrite (cls mantissa scale : Byte) : Except Byte (ClassId × DeadlineClass) := do
  let c ← require 1 (finOf 4 cls.toNat)
  demand 2 (1 ≤ mantissa.toNat)
  demand 3 (scale.toNat ≤ 12)
  return (c, ⟨mantissa.toNat, scale.toNat⟩)

/-- DEADLINE-WRITE (R112). -/
def opDeadlineWrite (m : Master) (tag cls mantissa scale : Byte) (s : State) : State :=
  match checkDeadlineWrite cls mantissa scale with
  | .error reason => s.invalid m tag 0x0F reason
  | .ok (c, d) =>
    State.answer { s with classes := s.classes.set c d } m tag 0x0F .ok none
      (bytes4 (BitVec.ofNat 32 d.duration))

end Sys2Proof.Machine
end

