-- ==== Sys2Proof/Machine/Links.lean ====
section
/-! DEFINITION. Chapter 9: the master ports, their training, keepalive and loss, master teardown, credit and the
transmit arbiter. -/

namespace Sys2Proof.Machine

/-! ## The transmitter of a port (R171; log 12) -/

/-- A training HELLO, on a free line at once, else it waits for the line (R163, R166). -/
def Port.sendTrainingHello (p : Port) : Port :=
  match p.line with
  | none => { p with line := some (.hello 0) }
  | some _ => { p with hellosWaiting := p.hellosWaiting + 1 }

/-- An ALERT or a RESPONSE may be sent: it uses one response credit (R171). -/
def Port.hasCredit (p : Port) : Bool := decide (0 < p.responseCredit)

/-- 100 microseconds have passed since last sent (R171 line 6). -/
def Port.idleDue (p : Port) (now : Time) : Bool := passed now p.lastSent Config.keepalive

/-- The port puts a frame on its line and sets last sent (R165). -/
def Port.transmit (now : Time) (f : UpFrame) (p : Port) : Port :=
  { p with line := some f, lastSent := some now }

/-- A RESPONSE sent: the head filled slot is removed and one response credit is spent (R172). -/
def Port.sendResponse (now : Time) (p : Port) : Port :=
  match p.filled with
  | r :: rest =>
    Port.transmit now (.response r) { p with filled := rest, responseCredit := p.responseCredit - 1 }
  | [] => p

/-- An ALERT sent: one response credit is spent and ALERT ready is cleared (R172). -/
def Port.sendAlert (now : Time) (p : Port) : Port :=
  match p.alertReady with
  | some a =>
    Port.transmit now (.alert a) { p with alertReady := none, responseCredit := p.responseCredit - 1 }
  | none => p

/-- The choice of the arbiter on an UP link whose line is free (the table of R171), lines 2 to 6. -/
def Port.choose (now : Time) (p : Port) : Port :=
  match p.notice with
  | some n => Port.transmit now (.notice n) { p with notice := none }
  | none =>
    if 0 < p.creditsOwed then
      Port.transmit now .credit
        { p with creditsOwed := p.creditsOwed - 1, requestCredit := p.requestCredit + 1 }
    else if p.alertReady.isSome ∧ p.hasCredit then p.sendAlert now
    else if p.filled ≠ [] ∧ p.hasCredit then p.sendResponse now
    else if p.idleDue now then Port.transmit now .idle p
    else p

/-- The transmitter is free and the port chooses its next frame (R171): a training HELLO that waits goes first
(R166), then on an UP link the grant HELLO and the rest of the table. -/
def Port.arbitrate (now : Time) (p : Port) : Port :=
  if 0 < p.hellosWaiting then
    { p with line := some (.hello 0), hellosWaiting := p.hellosWaiting - 1,
             lastSent := if p.link = .up then some now else p.lastSent }
  else if p.link = .up then
    if p.grantWaiting then
      Port.transmit now (.hello Config.requestCredit) { p with grantWaiting := false }
    else p.choose now
  else p

/-- The frame on the line has ended and the arbiter looks (R171, R172). -/
def transmitArbiterEvent (m : Master) (s : State) : State :=
  s.modifyPort m (fun p => Port.arbitrate s.timebase { p with line := none })

/-- The arbiter looks again within an event, when the transmitter is free (R169, R165). -/
def State.lookAgain (s : State) (m : Master) : State :=
  s.modifyPort m (fun p => if p.line = none then p.arbitrate s.timebase else p)

/-! ## Training (R163, R164) -/

/-- Entering TRAINING (R163). -/
def Port.enterTraining (now : Time) (p : Port) : Port :=
  Port.sendTrainingHello
    { p with link := .training, hellosSent := 1, helloTime := some now, retryTime := none,
             lastReceived := none, lastSent := none, requestCredit := 0, responseCredit := 0,
             grantWaiting := false }

/-- The HELLO interval has passed on a TRAINING link that has HELLOs left (R163). -/
def State.linkHelloDue (s : State) (m : Master) : Bool :=
  let p := s.port m
  p.link == .training && decide (p.hellosSent < Config.maxHellos) &&
    s.arrives p.helloTime Config.helloInterval

def linkHelloIntervalEvent (m : Master) (s : State) : State :=
  if s.linkHelloDue m then
    s.modifyPort m (fun p =>
      { p with hellosSent := p.hellosSent + 1, helloTime := some s.timebase }.sendTrainingHello)
  else s

/-- 200 microseconds have passed after the fiftieth HELLO (R163). -/
def State.linkFailureDue (s : State) (m : Master) : Bool :=
  let p := s.port m
  p.link == .training && p.hellosSent == Config.maxHellos &&
    s.arrives p.helloTime Config.helloInterval

/-- Training fails: the link becomes DOWN with a retry time (R163). -/
def linkTrainingFailureEvent (m : Master) (s : State) : State :=
  if s.linkFailureDue m then
    s.modifyPort m (fun p =>
      { p with link := .down, hellosSent := 0, helloTime := none, hellosWaiting := 0,
               retryTime := some (s.after Config.retryWait) })
  else s

/-- The retry time of a DOWN link has come (R163). -/
def State.linkRetryDue (s : State) (m : Master) : Bool :=
  (s.port m).link == .down && s.due (s.port m).retryTime

def linkRetryEvent (m : Master) (s : State) : State :=
  if s.linkRetryDue m then s.modifyPort m (Port.enterTraining s.timebase) else s

/-- A response credit that a master HELLO may carry (R164). -/
def creditOk (b : Byte) : Bool := decide (1 ≤ b.toNat ∧ b.toNat ≤ 16)

/-- The grant HELLO goes on a free line at once, else it waits (R164, R171 line 1). -/
def Port.sendGrant (p : Port) : Port :=
  if p.line = none ∧ p.hellosWaiting = 0 then { p with line := some (.hello Config.requestCredit) }
  else { p with grantWaiting := true }

/-- The link comes UP with the carried response credit (R164). -/
def Port.comeUp (now : Time) (credit : Nat) (p : Port) : Port :=
  Port.sendGrant
    { p with link := .up, responseCredit := credit, requestCredit := Config.requestCredit, buffer := [],
             creditsOwed := 0, lastReceived := some now, lastSent := some now, hellosSent := 0,
             helloTime := none }

/-- A master HELLO at a TRAINING link (R164). -/
def State.takeMasterHello (s : State) (m : Master) (value : Byte) : State :=
  if creditOk value then
    (s.modifyPort m (Port.comeUp s.timebase value.toNat)).testAlert m
  else s.occur .frameMalformed (.ofMaster m)

/-! ## Master teardown (R174, R71 to R77, R106, R135, R160) -/

/-- The port's part (R174), with the entry into TRAINING (R163). -/
def Port.tearDown (now : Time) (p : Port) : Port :=
  Port.enterTraining now
    { p with buffer := [], creditsOwed := 0, reserved := 0, filled := [], alertReady := none, notice := none }

/-- The contexts that a teardown of this master orphans (R71). -/
def State.tornContexts (s : State) (m : Master) : List (CtxId × Ctx) :=
  s.usedContexts.filter (fun c => c.2.master = m ∧ c.2.tag.isSome)

/-- A context becomes ORPHAN and its tag absent (R73 steps 1 and 2). -/
def State.orphan (s : State) (c : CtxId) : State :=
  match s.ctx c with
  | some x => s.setCtx c (some { x with state := .orphan })
  | none => s

/-- The references to the legs of these contexts that are in this state, by context number and then in leg order: the
order in which a teardown ends its PENDING legs, the model's choice (R74 gives none; log 24). -/
def legsInState (cs : List (CtxId × Ctx)) (v : LegState) : List LegRef :=
  cs.flatMap (fun c => (c.2.legs.filter (fun g => g.state = v)).map (fun g => ⟨c.1, g.target⟩))

/-- A lane gives up the QUEUED legs that a teardown withdraws: the rest keep their order, and each freed position
is offered to the oldest PENDING leg (R75, R92, R106). -/
def State.withdraw (s : State) (gone : List LegRef) (l : LaneId) : State :=
  let leaving := (s.lane l).queue.filter (fun r => gone.contains r)
  let s1 := s.modifyLane l (fun x => { x with queue := x.queue.filter (fun r => !gone.contains r) })
  let s2 := s1.completeAll leaving .cancelled
  leaving.foldl (fun acc _ => acc.refill l) s2

/-- The Tracker's and Lane Engines' parts (R71 to R77, R106): every ACTIVE context of the master becomes ORPHAN, all
their PENDING legs end CANCELLED, then their QUEUED legs are withdrawn lane by lane (log 24). -/
def State.orphanMaster (s : State) (m : Master) : State :=
  let cs := s.tornContexts m
  let s1 := cs.foldl (fun acc c => acc.orphan c.1) s
  let s2 := s1.completeAll (legsInState cs .pending) .cancelled
  (List.finRange 12).foldl (fun acc l => acc.withdraw (legsInState cs .queued) l) s2

/-- The Claim Unit's part (R135): every record of the master becomes free. -/
def State.freeClaimsOf (s : State) (m : Master) : State :=
  (List.finRange 8).foldl (fun acc k =>
    if (acc.ownClaim m k).isSome then acc.setClaim k none else acc) s

/-- The Alert Unit's part (R160): the pending set is emptied and the window becomes FREE. -/
def State.clearAlerts (s : State) (m : Master) : State :=
  s.setAlert m { s.alert m with pending := ⟨none, none, none, none⟩, busy := false }

/-- Master teardown as one event, with UP_LOST after the emptying (R174, R160; log 24). -/
def State.tearDown (s : State) (m : Master) : State :=
  ((((s.modifyPort m (Port.tearDown s.timebase)).orphanMaster m).freeClaimsOf m).clearAlerts m).occur
    .upLost (.ofMaster m)

/-! ## Frames received (R162, R165 to R169) -/

/-- The SOF of a frame at a port (R186): a collection that the receiver still holds is abandoned as bad CRC, UP_CRC
(R167). -/
def State.upStart (m : Master) (s : State) : State :=
  match (s.port m).receiver with
  | .hunting => s
  | .inFrame _ => (s.modifyPort m (fun p => { p with receiver := .hunting })).occur .upCrc (.ofMaster m)

/-- A frame of so many bytes with its good CRC arrives at a port, from SOF to EOF, and leaves the receiver hunting (R186):
handed on, it has its effect `take`; too short or too long to be handed on, it is bad CRC, UP_CRC (R167). -/
def State.upFrame (m : Master) (bytes : Nat) (take : State → State) (s : State) : State :=
  if frameFits bytes then take (s.upStart m) else (s.upStart m).occur .upCrc (.ofMaster m)

/-- A valid frame on an UP link sets last received (R165). -/
def Port.heard (now : Time) (p : Port) : Port := { p with lastReceived := some now }

/-- A valid HELLO from the master (R162, R164, R166). -/
def State.masterHello (m : Master) (value : Byte) (s : State) : State :=
  match (s.port m).link with
  | .down => s
  | .training => s.takeMasterHello m value
  | .up => (s.tearDown m).takeMasterHello m value

/-- A HELLO frame arrives from the master: kind byte and value. -/
def masterHelloEvent (m : Master) (value : Byte) (s : State) : State :=
  s.upFrame m 2 (State.masterHello m value)

/-- An IDLE from the master (R162, R165). -/
def State.upIdle (m : Master) (s : State) : State :=
  match (s.port m).link with
  | .up => s.modifyPort m (Port.heard s.timebase)
  | _ => s

/-- An IDLE frame arrives from the master: the kind byte. -/
def upIdleEvent (m : Master) (s : State) : State :=
  s.upFrame m 1 (State.upIdle m)

/-- A frame discarded with FRAME_MALFORMED, in every link state (R167). -/
def State.upMalformed (m : Master) (s : State) : State :=
  s.occur .frameMalformed (.ofMaster m)

/-- A REQUEST: too long, FRAME_MALFORMED (R167); on an UP link, into the buffer or UP_CREDIT (R168). -/
def State.takeRequestFrame (m : Master) (r : RawRequest) (s : State) : State :=
  if 36 < r.rest.length then s.upMalformed m
  else match (s.port m).link with
    | .up =>
      let s1 := s.modifyPort m (Port.heard s.timebase)
      if 0 < (s.port m).requestCredit then
        s1.modifyPort m (fun p =>
          { p with buffer := p.buffer ++ [r], requestCredit := p.requestCredit - 1 })
      else s1.occur .upCredit (.ofMaster m)
    | _ => s

/-- A REQUEST frame arrives from the master. -/
def requestEvent (m : Master) (r : RawRequest) (s : State) : State :=
  s.upFrame m r.bytes (State.takeRequestFrame m r)

/-- A CREDIT from the master (R169). -/
def State.takeCredit (m : Master) (count : Byte) (s : State) : State :=
  match (s.port m).link with
  | .up =>
    let s1 := s.modifyPort m (Port.heard s.timebase)
    let total := (s.port m).responseCredit + count.toNat
    if 1 ≤ count.toNat ∧ total ≤ Config.maxResponseCredit then
      (s1.modifyPort m (fun p => { p with responseCredit := total })).lookAgain m
    else s1.occur .frameMalformed (.ofMaster m)
  | _ => s

/-- A CREDIT frame arrives from the master: kind byte and count. -/
def creditEvent (m : Master) (count : Byte) (s : State) : State :=
  s.upFrame m 2 (State.takeCredit m count)

/-- A frame of these bytes with its good CRC arrives at a port: what it is, the row of its kind takes; one that a master does
not send or that cannot be parsed is FRAME_MALFORMED (R187, R167). -/
def upMalformedFrameEvent (m : Master) (frame : List Byte) (s : State) : State :=
  match readUpFrame frame with
  | .hello value => masterHelloEvent m value s
  | .idle => upIdleEvent m s
  | .credit count => creditEvent m count s
  | .request r => requestEvent m r s
  | .malformed => s.upFrame m frame.length (State.upMalformed m)

/-- One symbol reaches a port's receiver (the table of R186): a frame that it abandons or finds bad is UP_CRC (R167), one
that it hands on is parsed. -/
def State.upSymbol (m : Master) (s : State) (x : Symbol) : State :=
  let r := receiveSymbol (s.port m).receiver x
  let s1 := s.modifyPort m (fun p => { p with receiver := r.1 })
  match r.2 with
  | none => s1
  | some .badCrc => s1.occur .upCrc (.ofMaster m)
  | some (.handedOn frame) => upMalformedFrameEvent m frame s1

/-- Symbols reach a port's receiver one after the other (R186). -/
def upBadCrcEvent (m : Master) (symbols : List Symbol) (s : State) : State :=
  symbols.foldl (State.upSymbol m) s

/-! ## Keepalive and loss (R165) -/

/-- 100 microseconds have passed on an UP link with nothing sent, and nothing is being sent (R165). -/
def State.linkKeepaliveDue (s : State) (m : Master) : Bool :=
  let p := s.port m
  p.link == .up && s.arrives p.lastSent Config.keepalive && p.line == none

/-- The arbiter sends an IDLE when no other frame is ready (R165, R171; log 27). -/
def linkKeepaliveEvent (m : Master) (s : State) : State :=
  if s.linkKeepaliveDue m then s.lookAgain m else s

/-- 1,000 microseconds have passed on an UP link with no valid frame received (R165). -/
def State.linkLossDue (s : State) (m : Master) : Bool :=
  (s.port m).link == .up && s.arrives (s.port m).lastReceived Config.lossTime

/-- The link is lost and the master is torn down (R165, R174). -/
def linkLossEvent (m : Master) (s : State) : State :=
  if s.linkLossDue m then s.tearDown m else s

end Sys2Proof.Machine
end

