-- ==== Sys2Proof/Machine/Hub.lean ====
section
/-! DEFINITION. Chapter 10: the rights check, the operations the Management Unit owns, FABRIC-RESET, and the reset pin;
with the quotas of section 3.6. -/

namespace Sys2Proof.Machine

/-! ## Quotas (section 3.6) -/

/-- QUOTA-WRITE (R55). -/
def opQuotaWrite (m : Master) (tag quotaM0 quotaM1 : Byte) (s : State) : State :=
  if Config.contextPool < quotaM0.toNat ∨ Config.contextPool < quotaM1.toNat then s.invalid m tag 0x0B 1
  else if Config.contextPool < quotaM0.toNat + quotaM1.toNat then s.invalid m tag 0x0B 2
  else State.answer { s with quotaM0 := quotaM0.toNat, quotaM1 := quotaM1.toNat } m tag 0x0B .ok none []

/-- The fields of QUOTA-READ (R56). -/
def State.quotaFields (s : State) : List Byte :=
  [byteOf s.quotaM0, byteOf s.quotaM1, byteOf (s.holding .m0), byteOf (s.holding .m1), byteOf s.orphans,
    byteOf (Config.contextPool - s.usedContexts.length)]

/-- QUOTA-READ (R56). -/
def opQuotaRead (m : Master) (tag : Byte) (s : State) : State :=
  s.answer m tag 0x0A .ok none s.quotaFields

/-! ## IDENT, RIGHTS-WRITE, RESUME -/

/-- The fields of IDENT (R181); the generation stands in the answer's generation part (log 18). -/
def State.identFields (s : State) : List Byte :=
  bytes2 (BitVec.ofNat 16 Config.vendorCode) ++ bytes2 (BitVec.ofNat 16 Config.partCode) ++
    [byteOf Config.revision, 12, 32, 63, hubStateCode s.hub] ++ bytes4 s.timebase ++
    [linkStateCode s.portM0.link, linkStateCode s.portM1.link, rightsCode s.rightsM1]

/-- IDENT (R181). -/
def opIdent (m : Master) (tag : Byte) (s : State) : State :=
  s.answer m tag 0x01 .ok (some s.generation) s.identFields

/-- RIGHTS-WRITE (R180). -/
def opRightsWrite (m : Master) (tag rights : Byte) (s : State) : State :=
  match rightsOf rights with
  | none => s.invalid m tag 0x1B 1
  | some r => State.answer { s with rightsM1 := r } m tag 0x1B .ok none []

/-- RESUME (R178). -/
def opResume (m : Master) (tag : Byte) (s : State) : State :=
  State.answer { s with hub := if s.hub = .halted then .run else s.hub } m tag 0x1C .ok none []

/-! ## FABRIC-RESET (R182, R183) -/

/-- The port's part (R175, R173). -/
def Port.fabricReset (notice : Notice) (p : Port) : Port :=
  { p with
    reserved := 0
    filled := []
    creditsOwed := p.creditsOwed + p.buffer.length
    buffer := []
    alertReady := none
    notice := if p.link = .up then some notice else none }

/-- Every block's part of a fabric reset but the Lane Engines' (R182; log 26). -/
def State.resetBlocks (s : State) : State :=
  let notice : Notice := ⟨s.generation, s.timebase⟩
  let s1 : State := { s with
    contexts := Vector.replicate 32 none
    claims := Vector.replicate 8 none
    status := s.status.map (fun r => { r with inFlightM0 := 0, inFlightM1 := 0 })
    hub := if s.hub = .halted then .run else s.hub
    fabricResets := s.fabricResets + 1 }
  ((((s1.clearAlerts .m0).clearAlerts .m1).modifyPort .m0 (Port.fabricReset notice))).modifyPort .m1
    (Port.fabricReset notice)

/-- A fabric reset (R182) whose Lane Engines take their parts in events of their own after the others, or with them
(R80). -/
def State.fabricResetAs (apart : Bool) (s : State) : State :=
  if apart then { s.resetBlocks with phase := .resetting s.contexts } else s.resetBlocks.resetLanes

/-- A fabric reset (R182): when the Lane Engines take their parts is a free value (R80; log 33). -/
def State.fabricReset (s : State) : State := s.fabricResetAs (Config.laneResetsApart s.fabricResets)

/-- FABRIC-RESET: the reset, then a fresh slot in the requester's queue for the answer (R183). -/
def opFabricReset (m : Master) (tag : Byte) (s : State) : State :=
  let s1 := s.fabricReset
  (s1.modifyPort m (fun p => { p with reserved := p.reserved + 1 })).answer m tag 0x1D .ok
    (some s1.generation) []

/-! ## The rights check (R179) -/

/-- The management rights of a master: M0 always holds FULL (10 section 10.3). -/
def State.rights (s : State) : Master → Rights
  | .m0 => .full
  | .m1 => s.rightsM1

/-- READ or FULL. -/
def Rights.reads : Rights → Bool
  | .none => false
  | .read => true
  | .full => true

/-- The rights check passes (the table of R179). -/
def State.mayManage (s : State) (m : Master) (op : HubOp) : Bool :=
  match op with
  | .ident => (s.rights m).reads
  | .dirRead _ _ => (s.rights m).reads
  | .groupRead _ _ => (s.rights m).reads
  | .statusRead _ => (s.rights m).reads
  | .laneRead _ => (s.rights m).reads
  | .deadlineRead => (s.rights m).reads
  | .actionRead => (s.rights m).reads
  | .faultRead => (s.rights m).reads
  | .levelRead => (s.rights m).reads
  | .quotaRead => (s.rights m).reads
  | .dirWrite _ => s.rights m == .full
  | .groupWrite _ _ _ _ => s.rights m == .full
  | .commit => s.rights m == .full
  | .discard => s.rights m == .full
  | .revive _ => s.rights m == .full
  | .laneControl _ _ => s.rights m == .full
  | .deadlineWrite _ _ _ => s.rights m == .full
  | .actionWrite _ _ => s.rights m == .full
  | .faultClear _ => s.rights m == .full
  | .faultPop => s.rights m == .full
  | .quotaWrite _ _ => s.rights m == .full
  | .resume => s.rights m == .full
  | .fabricReset => s.rights m == .full
  | .levelWrite w _ _ _ _ _ => s.rights m == .full && (m == .m0 || w == 1)
  | .rightsWrite _ => m == .m0
  | .alertAck => true
  | .claim _ _ _ _ => true
  | .renew _ => true
  | .release _ => true

/-- The operation itself, in the block that owns it (step 2 and 3 of R176). -/
def perform (m : Master) (tag : Byte) (op : HubOp) (s : State) : State :=
  match op with
  | .ident => opIdent m tag s
  | .dirRead t c => opDirRead m tag t c s
  | .dirWrite p => opDirWrite m tag p s
  | .discard => opDiscard m tag s
  | .commit => opCommit m tag s
  | .statusRead t => opStatusRead m tag t s
  | .revive t => opRevive m tag t s
  | .groupRead g c => opGroupRead m tag g c s
  | .groupWrite g e r0 r1 => opGroupWrite m tag g e r0 r1 s
  | .quotaRead => opQuotaRead m tag s
  | .quotaWrite q0 q1 => opQuotaWrite m tag q0 q1 s
  | .laneRead l => opLaneRead m tag l s
  | .laneControl l a => opLaneControl m tag l a s
  | .deadlineRead => opDeadlineRead m tag s
  | .deadlineWrite c ma sc => opDeadlineWrite m tag c ma sc s
  | .claim k n lease drain => opClaim m tag k n lease drain s
  | .renew k => opRenew m tag k s
  | .release k => opRelease m tag k s
  | .actionRead => opActionRead m tag s
  | .actionWrite n a => opActionWrite m tag n a s
  | .faultRead => opFaultRead m tag s
  | .faultPop => opFaultPop m tag s
  | .faultClear b => opFaultClear m tag b s
  | .levelRead => opLevelRead m tag s
  | .levelWrite w i f l t fl => opLevelWrite m tag w i f l t fl s
  | .alertAck => opAlertAck m tag s
  | .rightsWrite r => opRightsWrite m tag r s
  | .resume => opResume m tag s
  | .fabricReset => opFabricReset m tag s

/-- The answer of an operation refused by the rights check: tag and status DENIED only (R179, R188). -/
def deniedAnswer (tag : Byte) : Response := ⟨tag, .denied, none, none, none, .none⟩

/-- A management request at the Management Unit (R176): the rights check, then the operation. -/
def manage (m : Master) (tag : Byte) (op : HubOp) (s : State) : State :=
  if s.mayManage m op then perform m tag op s
  else (s.fillSlot m (deniedAnswer tag)).occur .rightsViolation
    { FaultFields.none with master := some m, tag := some tag, detail := some (opcode op) }

/-! ## Reset pin and start-up (R184) -/

/-- RESET_N taken low: full reset; the commands that wait stay in the queue (log 16), and so does the
count of fabric resets, which is the model's own (log 33). -/
def resetLowEvent (s : State) : State :=
  { State.reset with pending := s.pending, fabricResets := s.fabricResets }

/-- RESET_N rises: the start-up hold begins to be counted (R184). -/
def resetRiseEvent (s : State) : State :=
  if s.phase = .resetLow then { s with phase := .holding Config.holdPeriods } else s

/-- The start-up hold ends: the timebase begins at 0, both links and every lane enter TRAINING (R184). -/
def startUpHoldEndEvent (s : State) : State :=
  if s.phase = .holding 0 then
    let s1 := { s with phase := .running, lanes := s.lanes.map (Lane.enterTraining s.timebase) }
    (s1.modifyPort .m0 (Port.enterTraining s.timebase)).modifyPort .m1 (Port.enterTraining s.timebase)
  else s

end Sys2Proof.Machine
end

