-- ==== Sys2Proof/Machine/Intake.lean ====
section
/-! DEFINITION. Chapter 3 and sections 2.4 and 2.6: the Intake Unit takes a request and admits it. -/

namespace Sys2Proof.Machine

/-! ## The take (R38, R39) -/

/-- The master has a takeable request (R38). -/
def Port.takeable (p : Port) : Bool := !p.buffer.isEmpty && decide (p.slotsUsed < Config.responseSlots)

/-- The master to serve: the one the round-robin pointer names when both have a takeable request, else the one
that has (R38). -/
def State.nextMaster (s : State) : Option Master :=
  if (s.port s.roundRobin).takeable then some s.roundRobin
  else if (s.port s.roundRobin.other).takeable then some s.roundRobin.other
  else none

/-- The request to take: the oldest of that master's receive buffer (R38). -/
def State.nextTake (s : State) : Option (Master × RawRequest) :=
  match s.nextMaster with
  | some m => (s.port m).buffer.head?.map (fun r => (m, r))
  | none => none

/-- The port's part of a take (R39): one slot reserved, the request removed, one CREDIT owed. -/
def Port.take (p : Port) : Port :=
  { p with reserved := p.reserved + 1, buffer := p.buffer.tail, creditsOwed := p.creditsOwed + 1 }

/-- The take (R38, R39): the pointer then names the master that was not served. -/
def State.takeRequest (s : State) (m : Master) : State :=
  { s.modifyPort m Port.take with roundRobin := m.other }

/-! ## Tags (R43) -/

/-- The claim is this master's, DRAINING, with this tag. -/
def Claim.holdsTag (c : Claim) (m : Master) (tag : Byte) : Bool :=
  match c.state with
  | .draining t _ => c.owner == m && t == tag
  | .held _ => false

/-- The tag is in use for this master (R43). -/
def State.tagInUse (s : State) (m : Master) (tag : Byte) : Bool :=
  s.usedContexts.any (fun c => c.2.master == m && c.2.tag == some tag) ||
    s.claims.toList.any (fun k =>
      match k with
      | some c => c.holdsTag m tag
      | none => false)

/-- The fields of a fault about a request: the master and the tag (08 section 8.1). -/
def requestFields (m : Master) (tag : Byte) : FaultFields :=
  { FaultFields.none with master := some m, tag := some tag }

/-- A request with a tag in use is dropped (R43). -/
def State.dropTag (s : State) (m : Master) (tag : Byte) : State :=
  (s.modifyPort m (fun p => { p with reserved := p.reserved - 1 })).occur .dupTag (requestFields m tag)

/-! ## Refusals (R41) -/

/-- A refusal with its status and the generation current at the admission (R41). -/
def State.refuse (s : State) (m : Master) (tag : Byte) (status : Status) : State :=
  s.fillSlot m ⟨tag, status, none, some s.generation, none, .none⟩

/-- The MALFORMED answer carries no generation (R41, R188). -/
def State.refuseMalformed (s : State) (m : Master) (tag : Byte) : State :=
  s.fillSlot m ⟨tag, .malformed, none, none, none, .none⟩

/-! ## Checks 6 to 8 for one target (R46, R47, R29) -/

/-- The kind writes its targets: it needs READWRITE (R46, R28, R29). -/
def Kind.writes : Kind → Bool
  | .read => false
  | .gread _ => false
  | .write => true
  | .modify => true
  | .gwrite => true
  | .gmodify => true

/-- The access passes the kind (the table of R46; R28, R29). -/
def Access.passes (a : Access) (k : Kind) : Bool :=
  match a with
  | .none => false
  | .read => !k.writes
  | .readWrite => true

/-- The conditions of a target, in the order of R47. -/
def State.targetCondition (s : State) (m : Master) (t : Target) (e : DirEntry) : Option LegOutcome :=
  if (s.claimOver m.other t).isSome then some .held
  else if (s.record t).health = .quarantined then some .quarantined
  else match (s.lane e.lane).state with
    | .disabled => some .laneDown
    | .down => some .laneDown
    | .training => some .laneDown
    | .fenced => some .fenced
    | .up => if (s.lane e.lane).stations ≤ e.station.val then some .noStation else none

/-- Checks 6 to 8 for one target (R46, R47, R29): the first that fails. -/
def State.targetCheck (s : State) (m : Master) (q : TargetRequest) (t : Target) (e : DirEntry) :
    Option LegOutcome :=
  if (e.access m).passes q.kind then
    if e.length < q.addr.toNat + q.count then some .range else s.targetCondition m t e
  else some .denied

/-! ## Legs, contexts and placement (R2, R49 to R52) -/

/-- The leg of a request to one target (R2): DONE with the outcome of a failed check, else to be sent. Where window base
and request address sum to more than 1,048,575, which only a leg that is DONE at admission can have, its address is the
sum modulo 2^20: the spec is silent, the model's choice, and the leg never uses it (log 34). -/
def legOf (q : TargetRequest) (t : Target) (e : DirEntry) (failed : Option LegOutcome) : Leg where
  target := t
  lane := e.lane
  station := e.station
  addr := e.base + q.addr
  deadline := e.deadline
  state :=
    match failed with
    | some o => .done o
    | none => .pending
  data := none

/-- The lowest leg that is DONE at admission (R31, R64). -/
def firstDone (legs : List Leg) : Option (Target × LegOutcome) :=
  legs.findSome? (fun g => g.outcome.map (fun o => (g.target, o)))

/-- The context written from a request and its leg list (R49, R58). -/
def State.newContext (s : State) (m : Master) (tag : Byte) (q : TargetRequest) (legs : List Leg) : Ctx where
  state := .active tag
  master := m
  kind := q.kind
  count := q.count
  payload := q.payload
  admission := s.admission
  generation := s.generation
  legs := legs
  unfinished := legs.countP Leg.unfinished
  legsOk := 0
  firstFailure := firstDone legs
  accumulator := none
  mismatch := none

/-- The FREE context with the lowest number (R49). -/
def State.freeContext (s : State) : Option CtxId :=
  (List.finRange 32).find? (fun c => (s.ctx c).isNone)

/-- The legs of this list that were left PENDING for a lane. -/
def waitsFor (placed : List Leg) (l : LaneId) : Bool := placed.any (fun g => g.state == .pending && g.lane == l)

/-- The lane takes a further leg into its queue (R51): it has room, and no PENDING leg waits for it, of another
context or among those of this request placed before. -/
def State.hasRoom (s : State) (placed : List Leg) (l : LaneId) : Bool :=
  decide ((s.lane l).queue.length < Config.laneQueueDepth) && (s.pendingFor l).isEmpty && !waitsFor placed l

/-- Places the legs to be sent of a request, one at a time, in ascending target ID (R51, R52). The context is
written after its legs are placed, so the PENDING legs of the request are those placed before. -/
def State.placeLegs (s : State) (m : Master) (c : CtxId) (placed : List Leg) : List Leg → State × List Leg
  | [] => (s, placed)
  | g :: gs =>
    if g.unfinished then
      if s.hasRoom placed g.lane then
        let s1 := s.modifyLane g.lane (fun x => { x with queue := x.queue ++ [⟨c, g.target⟩] })
        (s1.rise m g.target).placeLegs m c (placed ++ [{ g with state := .queued }]) gs
      else (s.rise m g.target).placeLegs m c (placed ++ [g]) gs
    else s.placeLegs m c (placed ++ [g]) gs

/-- A context is allocated to the request and its legs are placed (R49, R51). -/
def State.allocate (s : State) (m : Master) (tag : Byte) (q : TargetRequest) (legs : List Leg) (c : CtxId) :
    State :=
  let (s1, placed) := s.placeLegs m c [] legs
  State.setCtx { s1 with admission := s.admission + 1 } c (some (s.newContext m tag q placed))

/-- Check 10 (R49, R50). -/
def State.admitLegs (s : State) (m : Master) (tag : Byte) (q : TargetRequest) (legs : List Leg) : State :=
  match s.freeContext with
  | some c =>
    if s.holding m < s.quota m then s.allocate m tag q legs c
    else (s.refuse m tag .busy).occur .contextExhausted (requestFields m tag)
  | none => (s.refuse m tag .busy).occur .contextExhausted (requestFields m tag)

/-! ## Unicast and group requests -/

/-- Checks 5 to 10 of a unicast request (R46 to R50). The destination is 1 to 63 after check 1. -/
def State.admitUnicast (s : State) (m : Master) (tag : Byte) (q : TargetRequest) : State :=
  match targetOf q.dest with
  | none => s.refuse m tag .noTarget
  | some t =>
    let (s1, e) := s.readActive t
    if e.present then
      match s1.targetCheck m q t e with
      | some o => s1.refuse m tag o.status
      | none => s1.admitLegs m tag q [legOf q t e none]
    else s1.refuse m tag .noTarget

/-- The request is refused by check 9 (R30). -/
def tooLong (q : TargetRequest) (legs : List Leg) : Bool :=
  q.kind == .gread .list && decide (Config.listLimit < legs.length * (q.count + 1))

/-- Check 9 and the hand-on of a leg list (R30, R31). -/
def State.admitLegList (s : State) (m : Master) (tag : Byte) (q : TargetRequest) (legs : List Leg) : State :=
  if tooLong q legs then s.refuse m tag .tooLarge
  else if legs.all (fun g => !g.unfinished) then s.fillSlot m ((s.newContext m tag q legs).groupResponse tag)
  else s.admitLegs m tag q legs

/-- Checks 5 to 10 of a group request (R27 to R31). -/
def State.admitGroup (s : State) (m : Master) (tag : Byte) (q : TargetRequest) : State :=
  if s.groupEnabled q.dest then
    let (s1, members) := s.groupMembers q.dest
    if members = [] then s1.refuse m tag .empty
    else if (s1.groupRights m q.dest).passes q.kind then
      s1.admitLegList m tag q (members.map (fun p => legOf q p.1 p.2 (s1.targetCheck m q p.1 p.2)))
    else s1.refuse m tag .denied
  else s.refuse m tag .noGroup

/-! ## The intake event -/

/-- Check 4 (R45): the refusal of a hub that is not in RUN. -/
def HubState.refusal : HubState → Option Status
  | .setup => some .notReady
  | .halted => some .halted
  | .run => none

/-- Checks 3 to 10 of a request that is well-formed and whose tag is free (R40, R44, R45). -/
def State.admitAsked (s : State) (m : Master) (tag : Byte) : Asked → State
  | .hub op => manage m tag op s
  | .unicast q =>
    match s.hub.refusal with
    | some status => s.refuse m tag status
    | none => s.admitUnicast m tag q
  | .group q =>
    match s.hub.refusal with
    | some status => s.refuse m tag status
    | none => s.admitGroup m tag q

/-- The admission checks in their order (R40 to R43). -/
def State.admitRequest (s : State) (m : Master) (r : RawRequest) : State :=
  match readRequest r with
  | none => s.refuseMalformed m r.tag
  | some a => if s.tagInUse m r.tag then s.dropTag m r.tag else s.admitAsked m r.tag a

/-- The intake event (R39): one request taken and admitted, when a master has a takeable request. -/
def intakeEvent (s : State) : State :=
  match s.nextTake with
  | some (m, r) => (s.takeRequest m).admitRequest m r
  | none => s

/-- The next request to take is this management operation of this master with this tag. -/
def State.offers (s : State) (m : Master) (tag : Byte) (op : HubOp) : Bool :=
  match s.nextTake with
  | some (w, r) => w == m && r.tag == tag && readRequest r == some (.hub op)
  | none => false

/-- A management operation comes about within the intake event that takes its HUB request (R44, R176; log 6):
the row's event is that intake event. Where the next request is another, the row's event is not due. -/
def hubEvent (m : Master) (tag : Byte) (op : HubOp) (s : State) : State :=
  if s.offers m tag op then intakeEvent s else s

end Sys2Proof.Machine
end

