-- ==== Sys2Proof/Machine/Management.lean ====
section
/-! DEFINITION. The meanings of the intake event and of the management operations. -/

namespace Sys2Proof.Machine

/-- The Intake Unit takes a request and admits it (R39). -/
def execIntakeTake (s : State) : Host.Outcome State Fault Refusal :=
  happens intakeEvent s

/-- IDENT (R181). -/
def execIdent (m : Master) (tag : Byte) (s : State) : Host.Outcome State Fault Refusal :=
  happens (hubEvent m tag .ident) s

/-- DIR-READ (R5). -/
def execDirRead (m : Master) (tag target copy : Byte) (s : State) : Host.Outcome State Fault Refusal :=
  happens (hubEvent m tag (.dirRead target copy)) s

/-- DIR-WRITE (R3, R4). -/
def execDirWrite (m : Master) (tag : Byte) (p : DirParams) (s : State) : Host.Outcome State Fault Refusal :=
  happens (hubEvent m tag (.dirWrite p)) s

/-- DISCARD (R6, R24). -/
def execDiscard (m : Master) (tag : Byte) (s : State) : Host.Outcome State Fault Refusal :=
  happens (hubEvent m tag .discard) s

/-- COMMIT (R7 to R10). -/
def execCommit (m : Master) (tag : Byte) (s : State) : Host.Outcome State Fault Refusal :=
  happens (hubEvent m tag .commit) s

/-- STATUS-READ (R16). -/
def execStatusRead (m : Master) (tag target : Byte) (s : State) : Host.Outcome State Fault Refusal :=
  happens (hubEvent m tag (.statusRead target)) s

/-- REVIVE (R17). -/
def execRevive (m : Master) (tag target : Byte) (s : State) : Host.Outcome State Fault Refusal :=
  happens (hubEvent m tag (.revive target)) s

/-- GROUP-READ (R23). -/
def execGroupRead (m : Master) (tag group copy : Byte) (s : State) : Host.Outcome State Fault Refusal :=
  happens (hubEvent m tag (.groupRead group copy)) s

/-- GROUP-WRITE (R22). -/
def execGroupWrite (m : Master) (tag group enabled rightsM0 rightsM1 : Byte) (s : State) :
    Host.Outcome State Fault Refusal :=
  happens (hubEvent m tag (.groupWrite group enabled rightsM0 rightsM1)) s

/-- QUOTA-READ (R56). -/
def execQuotaRead (m : Master) (tag : Byte) (s : State) : Host.Outcome State Fault Refusal :=
  happens (hubEvent m tag .quotaRead) s

/-- QUOTA-WRITE (R55). -/
def execQuotaWrite (m : Master) (tag quotaM0 quotaM1 : Byte) (s : State) : Host.Outcome State Fault Refusal :=
  happens (hubEvent m tag (.quotaWrite quotaM0 quotaM1)) s

/-- LANE-READ (R104). -/
def execLaneRead (m : Master) (tag lane : Byte) (s : State) : Host.Outcome State Fault Refusal :=
  happens (hubEvent m tag (.laneRead lane)) s

/-- LANE-CONTROL RETRAIN (R102). -/
def execRetrain (m : Master) (tag lane : Byte) (s : State) : Host.Outcome State Fault Refusal :=
  happens (hubEvent m tag (.laneControl lane 0)) s

/-- LANE-CONTROL FENCE (R102). -/
def execFence (m : Master) (tag lane : Byte) (s : State) : Host.Outcome State Fault Refusal :=
  happens (hubEvent m tag (.laneControl lane 1)) s

/-- LANE-CONTROL UNFENCE (R102). -/
def execUnfence (m : Master) (tag lane : Byte) (s : State) : Host.Outcome State Fault Refusal :=
  happens (hubEvent m tag (.laneControl lane 2)) s

/-- LANE-CONTROL ENABLE (R102). -/
def execEnable (m : Master) (tag lane : Byte) (s : State) : Host.Outcome State Fault Refusal :=
  happens (hubEvent m tag (.laneControl lane 3)) s

/-- LANE-CONTROL DISABLE (R102). -/
def execDisable (m : Master) (tag lane : Byte) (s : State) : Host.Outcome State Fault Refusal :=
  happens (hubEvent m tag (.laneControl lane 4)) s

/-- LANE-CONTROL AUTO-ON (R103). -/
def execAutoOn (m : Master) (tag lane : Byte) (s : State) : Host.Outcome State Fault Refusal :=
  happens (hubEvent m tag (.laneControl lane 5)) s

/-- LANE-CONTROL AUTO-OFF (R103). -/
def execAutoOff (m : Master) (tag lane : Byte) (s : State) : Host.Outcome State Fault Refusal :=
  happens (hubEvent m tag (.laneControl lane 6)) s

/-- DEADLINE-READ (R113). -/
def execDeadlineRead (m : Master) (tag : Byte) (s : State) : Host.Outcome State Fault Refusal :=
  happens (hubEvent m tag .deadlineRead) s

/-- DEADLINE-WRITE (R112). -/
def execDeadlineWrite (m : Master) (tag cls mantissa scale : Byte) (s : State) :
    Host.Outcome State Fault Refusal :=
  happens (hubEvent m tag (.deadlineWrite cls mantissa scale)) s

/-- CLAIM (R123 to R126). -/
def execClaim (m : Master) (tag kind number : Byte) (lease drain : BitVec 16) (s : State) :
    Host.Outcome State Fault Refusal :=
  happens (hubEvent m tag (.claim kind number lease drain)) s

/-- RENEW (R133). -/
def execRenew (m : Master) (tag claimId : Byte) (s : State) : Host.Outcome State Fault Refusal :=
  happens (hubEvent m tag (.renew claimId)) s

/-- RELEASE (R134). -/
def execRelease (m : Master) (tag claimId : Byte) (s : State) : Host.Outcome State Fault Refusal :=
  happens (hubEvent m tag (.release claimId)) s

/-- ACTION-READ (R148). -/
def execActionRead (m : Master) (tag : Byte) (s : State) : Host.Outcome State Fault Refusal :=
  happens (hubEvent m tag .actionRead) s

/-- ACTION-WRITE (R147). -/
def execActionWrite (m : Master) (tag source action : Byte) (s : State) : Host.Outcome State Fault Refusal :=
  happens (hubEvent m tag (.actionWrite source action)) s

/-- FAULT-READ (R151). -/
def execFaultRead (m : Master) (tag : Byte) (s : State) : Host.Outcome State Fault Refusal :=
  happens (hubEvent m tag .faultRead) s

/-- FAULT-POP (R150). -/
def execFaultPop (m : Master) (tag : Byte) (s : State) : Host.Outcome State Fault Refusal :=
  happens (hubEvent m tag .faultPop) s

/-- FAULT-CLEAR (R152). -/
def execFaultClear (m : Master) (tag : Byte) (sources : BitVec 24) (s : State) :
    Host.Outcome State Fault Refusal :=
  happens (hubEvent m tag (.faultClear sources)) s

/-- LEVEL-READ (R159). -/
def execLevelRead (m : Master) (tag : Byte) (s : State) : Host.Outcome State Fault Refusal :=
  happens (hubEvent m tag .levelRead) s

/-- LEVEL-WRITE (R158). -/
def execLevelWrite (m : Master) (tag master internal fabric link target floor : Byte) (s : State) :
    Host.Outcome State Fault Refusal :=
  happens (hubEvent m tag (.levelWrite master internal fabric link target floor)) s

/-- ALERT-ACK (R157). -/
def execAlertAck (m : Master) (tag : Byte) (s : State) : Host.Outcome State Fault Refusal :=
  happens (hubEvent m tag .alertAck) s

/-- RIGHTS-WRITE (R180). -/
def execRightsWrite (m : Master) (tag rights : Byte) (s : State) : Host.Outcome State Fault Refusal :=
  happens (hubEvent m tag (.rightsWrite rights)) s

/-- RESUME (R178). -/
def execResume (m : Master) (tag : Byte) (s : State) : Host.Outcome State Fault Refusal :=
  happens (hubEvent m tag .resume) s

/-- FABRIC-RESET (R182, R183). -/
def execFabricReset (m : Master) (tag : Byte) (s : State) : Host.Outcome State Fault Refusal :=
  happens (hubEvent m tag .fabricReset) s

end Sys2Proof.Machine
end

