-- ==== Sys2Proof/Machine/Pins.lean ====
section
/-! DEFINITION. The meanings of the reset pin's commands and of the end of the start-up hold. -/

namespace Sys2Proof.Machine

/-- RESET_N taken low: full reset at any time (R184). -/
def execResetNLow (s : State) : Host.Outcome State Fault Refusal :=
  .next (resetLowEvent s)

/-- The start-up hold ends (R184). -/
def execStartUpHoldEnd (s : State) : Host.Outcome State Fault Refusal :=
  .next (startUpHoldEndEvent s)

/-- RESET_N rises (R184). -/
def execResetNRise (s : State) : Host.Outcome State Fault Refusal :=
  .next (resetRiseEvent s)

end Sys2Proof.Machine
end

