-- ==== Sys2Proof/Machine/Ports.lean ====
section
/-! DEFINITION. The meanings of the commands of the two master ports. -/

namespace Sys2Proof.Machine

/-- A REQUEST arrives at a master port (R168). -/
def execRequest (m : Master) (r : RawRequest) (s : State) : Host.Outcome State Fault Refusal :=
  happens (requestEvent m r) s

/-- A CREDIT arrives at a master port (R169). -/
def execCredit (m : Master) (count : Byte) (s : State) : Host.Outcome State Fault Refusal :=
  happens (creditEvent m count) s

/-- A HELLO arrives at a master port (R164, R166). -/
def execMasterHello (m : Master) (value : Byte) (s : State) : Host.Outcome State Fault Refusal :=
  happens (masterHelloEvent m value) s

/-- An IDLE arrives at a master port (R165). -/
def execUpIdle (m : Master) (s : State) : Host.Outcome State Fault Refusal :=
  happens (upIdleEvent m) s

/-- The symbols of a bad frame reach a master port (R167, R186). -/
def execUpBadCrcFrame (m : Master) (symbols : List Symbol) (s : State) : Host.Outcome State Fault Refusal :=
  happens (upBadCrcEvent m symbols) s

/-- A frame that is not valid arrives at a master port (R167). -/
def execUpMalformedFrame (m : Master) (frame : List Byte) (s : State) : Host.Outcome State Fault Refusal :=
  happens (upMalformedFrameEvent m frame) s

/-- The HELLO interval of a TRAINING link (R163). -/
def execLinkHelloInterval (m : Master) (s : State) : Host.Outcome State Fault Refusal :=
  happens (linkHelloIntervalEvent m) s

/-- Training of a link fails (R163). -/
def execLinkTrainingFailure (m : Master) (s : State) : Host.Outcome State Fault Refusal :=
  happens (linkTrainingFailureEvent m) s

/-- The retry time of a DOWN link (R163). -/
def execLinkRetry (m : Master) (s : State) : Host.Outcome State Fault Refusal :=
  happens (linkRetryEvent m) s

/-- The keepalive of an UP link (R165). -/
def execLinkKeepalive (m : Master) (s : State) : Host.Outcome State Fault Refusal :=
  happens (linkKeepaliveEvent m) s

/-- Loss of a link, with the master's teardown (R165, R174). -/
def execLinkLoss (m : Master) (s : State) : Host.Outcome State Fault Refusal :=
  happens (linkLossEvent m) s

/-- The transmitter of a port is free and the arbiter chooses (R171, R172). -/
def execTransmitArbiter (m : Master) (s : State) : Host.Outcome State Fault Refusal :=
  happens (transmitArbiterEvent m) s

end Sys2Proof.Machine
end

