-- ==== Sys2Proof/Machine/Dispatch.lean ====
section
/-! DEFINITION. The command's effect on everything but the queue, one arm for each command. -/

namespace Sys2Proof.Machine

def exec (i : Instr) (s : State) : Host.Outcome State Fault Refusal :=
  match i with
  | .resetNLow => Sys2Proof.Machine.execResetNLow s
  | .startUpHoldEnd => Sys2Proof.Machine.execStartUpHoldEnd s
  | .resetNRise => Sys2Proof.Machine.execResetNRise s
  | .request m r => Sys2Proof.Machine.execRequest m r s
  | .credit m count => Sys2Proof.Machine.execCredit m count s
  | .masterHello m value => Sys2Proof.Machine.execMasterHello m value s
  | .upIdle m => Sys2Proof.Machine.execUpIdle m s
  | .upBadCrcFrame m symbols => Sys2Proof.Machine.execUpBadCrcFrame m symbols s
  | .upMalformedFrame m frame => Sys2Proof.Machine.execUpMalformedFrame m frame s
  | .linkHelloInterval m => Sys2Proof.Machine.execLinkHelloInterval m s
  | .linkTrainingFailure m => Sys2Proof.Machine.execLinkTrainingFailure m s
  | .linkRetry m => Sys2Proof.Machine.execLinkRetry m s
  | .linkKeepalive m => Sys2Proof.Machine.execLinkKeepalive m s
  | .linkLoss m => Sys2Proof.Machine.execLinkLoss m s
  | .transmitArbiter m => Sys2Proof.Machine.execTransmitArbiter m s
  | .intakeTake => Sys2Proof.Machine.execIntakeTake s
  | .ident m tag => Sys2Proof.Machine.execIdent m tag s
  | .dirRead m tag target copy => Sys2Proof.Machine.execDirRead m tag target copy s
  | .dirWrite m tag p => Sys2Proof.Machine.execDirWrite m tag p s
  | .discard m tag => Sys2Proof.Machine.execDiscard m tag s
  | .commit m tag => Sys2Proof.Machine.execCommit m tag s
  | .statusRead m tag target => Sys2Proof.Machine.execStatusRead m tag target s
  | .revive m tag target => Sys2Proof.Machine.execRevive m tag target s
  | .groupRead m tag group copy => Sys2Proof.Machine.execGroupRead m tag group copy s
  | .groupWrite m tag group enabled rightsM0 rightsM1 => Sys2Proof.Machine.execGroupWrite m tag group enabled rightsM0 rightsM1 s
  | .quotaRead m tag => Sys2Proof.Machine.execQuotaRead m tag s
  | .quotaWrite m tag quotaM0 quotaM1 => Sys2Proof.Machine.execQuotaWrite m tag quotaM0 quotaM1 s
  | .laneRead m tag lane => Sys2Proof.Machine.execLaneRead m tag lane s
  | .retrain m tag lane => Sys2Proof.Machine.execRetrain m tag lane s
  | .fence m tag lane => Sys2Proof.Machine.execFence m tag lane s
  | .unfence m tag lane => Sys2Proof.Machine.execUnfence m tag lane s
  | .enable m tag lane => Sys2Proof.Machine.execEnable m tag lane s
  | .disable m tag lane => Sys2Proof.Machine.execDisable m tag lane s
  | .autoOn m tag lane => Sys2Proof.Machine.execAutoOn m tag lane s
  | .autoOff m tag lane => Sys2Proof.Machine.execAutoOff m tag lane s
  | .deadlineRead m tag => Sys2Proof.Machine.execDeadlineRead m tag s
  | .deadlineWrite m tag cls mantissa scale => Sys2Proof.Machine.execDeadlineWrite m tag cls mantissa scale s
  | .claim m tag kind number lease drain => Sys2Proof.Machine.execClaim m tag kind number lease drain s
  | .renew m tag claimId => Sys2Proof.Machine.execRenew m tag claimId s
  | .release m tag claimId => Sys2Proof.Machine.execRelease m tag claimId s
  | .actionRead m tag => Sys2Proof.Machine.execActionRead m tag s
  | .actionWrite m tag source action => Sys2Proof.Machine.execActionWrite m tag source action s
  | .faultRead m tag => Sys2Proof.Machine.execFaultRead m tag s
  | .faultPop m tag => Sys2Proof.Machine.execFaultPop m tag s
  | .faultClear m tag sources => Sys2Proof.Machine.execFaultClear m tag sources s
  | .levelRead m tag => Sys2Proof.Machine.execLevelRead m tag s
  | .levelWrite m tag master internal fabric link target floor => Sys2Proof.Machine.execLevelWrite m tag master internal fabric link target floor s
  | .alertAck m tag => Sys2Proof.Machine.execAlertAck m tag s
  | .rightsWrite m tag rights => Sys2Proof.Machine.execRightsWrite m tag rights s
  | .resume m tag => Sys2Proof.Machine.execResume m tag s
  | .fabricReset m tag => Sys2Proof.Machine.execFabricReset m tag s
  | .legBack l f => Sys2Proof.Machine.execLegBack l f s
  | .deviceHello l stations => Sys2Proof.Machine.execDeviceHello l stations s
  | .laneIdle l => Sys2Proof.Machine.execLaneIdle l s
  | .laneBadCrcFrame l symbols => Sys2Proof.Machine.execLaneBadCrcFrame l symbols s
  | .laneMalformedFrame l frame => Sys2Proof.Machine.execLaneMalformedFrame l frame s
  | .laneHelloInterval l => Sys2Proof.Machine.execLaneHelloInterval l s
  | .laneTrainingFailure l => Sys2Proof.Machine.execLaneTrainingFailure l s
  | .laneRetry l => Sys2Proof.Machine.execLaneRetry l s
  | .laneKeepalive l => Sys2Proof.Machine.execLaneKeepalive l s
  | .laneLoss l => Sys2Proof.Machine.execLaneLoss l s
  | .legExpiry l w => Sys2Proof.Machine.execLegExpiry l w s
  | .issue l => Sys2Proof.Machine.execIssue l s
  | .laneTransmitterFree l => Sys2Proof.Machine.execLaneTransmitterFree l s
  | .drainDeadline k => Sys2Proof.Machine.execDrainDeadline k s
  | .leaseExpiry k => Sys2Proof.Machine.execLeaseExpiry k s

end Sys2Proof.Machine
end

