-- ==== Sys2Proof/Machine/Own.lean ====
section
/-! DEFINITION. What the part does with no command waiting: its own next event, else a microsecond passes (log 2,
log 3). -/

namespace Sys2Proof.Machine

/-- The port's transmitter has a frame to end or to choose (R166, R171). -/
def Port.hasWork (p : Port) : Bool :=
  p.line.isSome || decide (0 < p.hellosWaiting) ||
    (p.link == .up &&
      (p.grantWaiting || p.notice.isSome || decide (0 < p.creditsOwed) ||
        (p.hasCredit && (p.alertReady.isSome || !p.filled.isEmpty))))

/-- A transmitter that has work: lanes, then ports (log 5). -/
def State.transmitWork (s : State) : Option Instr :=
  ((List.finRange 12).find? (fun l => (s.lane l).line.isSome)).map .laneTransmitterFree |>.orElse fun _ =>
  ([Master.m0, Master.m1].find? (fun m => (s.port m).hasWork)).map .transmitArbiter

/-- A request to take or a leg to issue (R38, R94). -/
def State.fabricWork (s : State) : Option Instr :=
  (if s.nextTake.isSome then some .intakeTake else none).orElse fun _ =>
  ((List.finRange 12).find? s.canIssue).map .issue

/-- The slot of a lane whose deadline has come. -/
def State.expiringSlot (s : State) (l : LaneId) : Option SlotId :=
  allSlots.find? (fun w => (s.expiring l w).isSome)

/-- A timer of a lane that has arrived (R85, R87, R88, R98). -/
def State.laneTimer (s : State) (l : LaneId) : Option Instr :=
  match s.expiringSlot l with
  | some w => some (.legExpiry l w)
  | none =>
    if s.laneHelloDue l then some (.laneHelloInterval l)
    else if s.laneFailureDue l then some (.laneTrainingFailure l)
    else if s.laneRetryDue l then some (.laneRetry l)
    else if s.laneKeepaliveDue l then some (.laneKeepalive l)
    else if s.laneLossDue l then some (.laneLoss l)
    else none

/-- A timer of a link that has arrived (R163, R165). -/
def State.linkTimer (s : State) (m : Master) : Option Instr :=
  if s.linkHelloDue m then some (.linkHelloInterval m)
  else if s.linkFailureDue m then some (.linkTrainingFailure m)
  else if s.linkRetryDue m then some (.linkRetry m)
  else if s.linkKeepaliveDue m then some (.linkKeepalive m)
  else if s.linkLossDue m then some (.linkLoss m)
  else none

/-- A timer of a claim that has arrived (R129, R132). -/
def State.claimTimer (s : State) (k : ClaimId) : Option Instr :=
  match s.claim k with
  | some c =>
    match c.state with
    | .draining _ deadline => if deadline = s.timebase then some (.drainDeadline k) else none
    | .held deadline => if s.due deadline then some (.leaseExpiry k) else none
  | none => none

/-- A timer that has arrived. -/
def State.timerWork (s : State) : Option Instr :=
  ((List.finRange 12).findSome? s.laneTimer).orElse fun _ =>
  ([Master.m0, Master.m1].findSome? s.linkTimer).orElse fun _ =>
  (List.finRange 8).findSome? s.claimTimer

/-- The part's own next event, if one is due (log 3). -/
def State.ownEvent (s : State) : Option Instr :=
  match s.phase with
  | .resetLow => none
  | .holding periods => if periods = 0 then some .startUpHoldEnd else none
  | .resetting _ => none
  | .running =>
    s.transmitWork.orElse fun _ =>
    s.fabricWork.orElse fun _ =>
    s.timerWork

/-- One microsecond passes: the timebase advances by 1 (R109), or 25 REFCLK periods of the start-up hold pass
(R184). Parts of a fabric reset that are due are taken instead, before any time passes (R80). -/
def State.passTime (s : State) : State :=
  match s.phase with
  | .resetLow => s
  | .holding periods => { s with phase := .holding (periods - Config.periodsPerMicrosecond) }
  | .running => { s with timebase := s.timebase + 1 }
  | .resetting _ => s.settle

end Sys2Proof.Machine
end

