-- ==== Sys2Proof/Safety.lean ====
section
/-! DEFINITION. The bounds that the chapters state of every state of the part, and the words in which the
statements about single commands are made. -/

namespace Sys2Proof.Machine

/-! ## Bounds -/

/-- The two quotas sum to at most the pool (R55). -/
def State.QuotasFit (s : State) : Prop := s.quotaM0 + s.quotaM1 ≤ 32

/-- At most 16 records, and each record's sequence is one more, modulo 65,536, than that of the record ahead of it,
the last one standing just before the next record sequence (R149, R151). -/
def State.RecordsConsecutive (s : State) : Prop :=
  s.records.length ≤ 16 ∧
    ∀ i (h : i < s.records.length),
      (s.records[i]).sequence = s.nextRecord - BitVec.ofNat 16 (s.records.length - i)

/-- Reserved plus filled slots of each master never exceed 24 (R161, R170). -/
def State.SlotsFit (s : State) : Prop := ∀ m, (s.port m).reserved + (s.port m).filled.length ≤ 24

/-- The accounting of request credit (R161): on an UP link the request credit, the requests in the buffer and the
credits owed make 4; on another link all three are 0 (R163, R174). -/
def Port.CreditsFit (p : Port) : Prop :=
  if p.link = .up then p.requestCredit + p.buffer.length + p.creditsOwed = 4
  else p.requestCredit = 0 ∧ p.buffer = [] ∧ p.creditsOwed = 0

/-- RESET_N is low, or the start-up hold runs (R184). -/
def State.Asleep (s : State) : Prop := s.phase = .resetLow ∨ ∃ n, s.phase = .holding n

/-- Every port keeps the accounting of request credit, and no link is UP before the start-up hold has ended (R184). -/
def State.CreditsFit (s : State) : Prop :=
  (∀ m, (s.port m).CreditsFit) ∧ (s.Asleep → ∀ m, (s.port m).link ≠ .up)

/-- Response credit never exceeds 16 (R161, R169). -/
def State.ResponseCreditFits (s : State) : Prop := ∀ m, (s.port m).responseCredit ≤ 16

/-- A lane queue never holds more than 16 legs (R91, R93). -/
def State.QueuesFit (s : State) : Prop := ∀ l, (s.lane l).queue.length ≤ 16

/-- An ALERT is ready for a master only while its window is BUSY (R156). -/
def State.WindowsGuard (s : State) : Prop :=
  ∀ m, (s.port m).alertReady.isSome = true → (s.alert m).busy = true

/-- No target is in the member set of more than one claim record (R124). -/
def State.ClaimsApart (s : State) : Prop :=
  ∀ k j c d, s.claim k = some c → s.claim j = some d → k ≠ j → ∀ t, t ∈ c.members → t ∉ d.members

/-! ## Words of the statements -/

/-- The part runs, the next request to take is this HUB request of this master (R38), and its tag is not in use
(R43). -/
def Offered (s : State) (m : Master) (tag : Byte) (op : HubOp) : Prop :=
  s.phase = .running ∧ s.nextTake = some (m, hubRequest tag op) ∧ s.tagInUse m tag = false

/-- The state after a request of this master has been taken and this answer filled at once (R39, R170): the request
has left the buffer, one CREDIT more is owed, the reserved slots are as before, the answer stands last among the
filled slots, and the pointer names the other master. Everything else is as before. -/
def State.answered (s : State) (m : Master) (r : Response) : State :=
  { s.setPort m { s.port m with
      buffer := (s.port m).buffer.tail
      creditsOwed := (s.port m).creditsOwed + 1
      filled := (s.port m).filled ++ [r] } with
    roundRobin := m.other }

/-- The state after a request of this master has been taken and not yet answered (R39): one slot reserved, the
request out of the buffer, one CREDIT more owed, the pointer on the other master. -/
def State.takenBy (s : State) (m : Master) : State :=
  { s.setPort m { s.port m with
      reserved := (s.port m).reserved + 1
      buffer := (s.port m).buffer.tail
      creditsOwed := (s.port m).creditsOwed + 1 } with
    roundRobin := m.other }

/-- An answer of a management operation (R188). -/
def answerOf (tag : Byte) (code : Byte) (status : Status) (bytes : List Byte) : Response :=
  ⟨tag, status, some code, none, none, if bytes = [] then .none else .fields bytes⟩

/-- An answer of a management operation that carries a generation (R188). -/
def answerWith (tag : Byte) (code : Byte) (status : Status) (generation : BitVec 16) (bytes : List Byte) : Response :=
  ⟨tag, status, some code, some generation, none, if bytes = [] then .none else .fields bytes⟩

/-- What an operation needs of the requesting master (the table of R179). -/
inductive Need where
  | nothing
  | reads
  | full
  | ownLevels (named : Byte)
  | masterM0
deriving DecidableEq, Repr

/-- The table of R179. -/
def needOf : HubOp → Need
  | .ident | .dirRead _ _ | .groupRead _ _ | .statusRead _ | .laneRead _ | .deadlineRead | .actionRead
  | .faultRead | .levelRead | .quotaRead => .reads
  | .dirWrite _ | .groupWrite _ _ _ _ | .commit | .discard | .revive _ | .laneControl _ _
  | .deadlineWrite _ _ _ | .actionWrite _ _ | .faultClear _ | .faultPop | .quotaWrite _ _ | .resume
  | .fabricReset => .full
  | .levelWrite named _ _ _ _ _ => .ownLevels named
  | .rightsWrite _ => .masterM0
  | .alertAck | .claim _ _ _ _ | .renew _ | .release _ => .nothing

/-- The master has what the operation needs (R179). -/
def Allowed (s : State) (m : Master) (op : HubOp) : Prop :=
  match needOf op with
  | .nothing => True
  | .reads => s.rights m ≠ .none
  | .full => s.rights m = .full
  | .ownLevels named => s.rights m = .full ∧ (m = .m1 → named = 1)
  | .masterM0 => m = .m0

/-- The row of the table for a management operation; LANE-CONTROL has one row for each action, and none for an
action that does not exist. -/
def rowOf (m : Master) (tag : Byte) : HubOp → Option Instr
  | .ident => some (.ident m tag)
  | .dirRead t c => some (.dirRead m tag t c)
  | .dirWrite p => some (.dirWrite m tag p)
  | .discard => some (.discard m tag)
  | .commit => some (.commit m tag)
  | .statusRead t => some (.statusRead m tag t)
  | .revive t => some (.revive m tag t)
  | .groupRead g c => some (.groupRead m tag g c)
  | .groupWrite g e r0 r1 => some (.groupWrite m tag g e r0 r1)
  | .quotaRead => some (.quotaRead m tag)
  | .quotaWrite q0 q1 => some (.quotaWrite m tag q0 q1)
  | .laneRead l => some (.laneRead m tag l)
  | .laneControl l a =>
    match a.toNat with
    | 0 => some (.retrain m tag l)
    | 1 => some (.fence m tag l)
    | 2 => some (.unfence m tag l)
    | 3 => some (.enable m tag l)
    | 4 => some (.disable m tag l)
    | 5 => some (.autoOn m tag l)
    | 6 => some (.autoOff m tag l)
    | _ => none
  | .deadlineRead => some (.deadlineRead m tag)
  | .deadlineWrite c a k => some (.deadlineWrite m tag c a k)
  | .claim k n lease drain => some (.claim m tag k n lease drain)
  | .renew k => some (.renew m tag k)
  | .release k => some (.release m tag k)
  | .actionRead => some (.actionRead m tag)
  | .actionWrite n a => some (.actionWrite m tag n a)
  | .faultRead => some (.faultRead m tag)
  | .faultPop => some (.faultPop m tag)
  | .faultClear b => some (.faultClear m tag b)
  | .levelRead => some (.levelRead m tag)
  | .levelWrite w i f l t fl => some (.levelWrite m tag w i f l t fl)
  | .alertAck => some (.alertAck m tag)
  | .rightsWrite r => some (.rightsWrite m tag r)
  | .resume => some (.resume m tag)
  | .fabricReset => some (.fabricReset m tag)

/-- The first check of DIR-WRITE that fails, by its reason (the table of R3). -/
def dirWriteReason (p : DirParams) : Option Byte :=
  if p.target.toNat < 1 ∨ 63 < p.target.toNat then some 1
  else if 1 < p.presence.toNat then some 2
  else if p.presence = 0 then none
  else if 11 < p.lane.toNat then some 3
  else if 3 < p.station.toNat then some 4
  else if 1048575 < p.base.toNat then some 5
  else if p.length.toNat < 1 ∨ 1048576 < p.length.toNat then some 6
  else if 2 < p.accessM0.toNat then some 7
  else if 2 < p.accessM1.toNat then some 8
  else if 3 < p.memberCount.toNat ∨ ¬ ([p.member1, p.member2, p.member3].take p.memberCount.toNat).Nodup ∨
      ∃ g ∈ [p.member1, p.member2, p.member3].take p.memberCount.toNat, 14 < g.toNat then some 9
  else if 3 < p.deadline.toNat then some 10
  else if 15 < p.threshold.toNat then some 11
  else none

/-- The entry a PRESENT DIR-WRITE asks for (R4): every field from the parameters, the memberships in ascending
order. -/
def EntryOf (p : DirParams) (e : DirEntry) : Prop :=
  e.present = true ∧ e.lane.val = p.lane.toNat ∧ e.station.val = p.station.toNat ∧
    e.base.toNat = p.base.toNat ∧ e.length = p.length.toNat ∧
    accessCode e.accessM0 = p.accessM0 ∧ accessCode e.accessM1 = p.accessM1 ∧
    (∀ g : Group, g ∈ e.memberships ↔
      ∃ b ∈ [p.member1, p.member2, p.member3].take p.memberCount.toNat, b.toNat = g.val) ∧
    e.memberships.Pairwise (· < ·) ∧ e.deadline.val = p.deadline.toNat ∧ e.threshold = p.threshold.toNat

/-- No active entry is corrupt (R18). -/
def State.TablesSound (s : State) : Prop := ∀ t, (s.activeEntry t).corrupt = false

/-- The members of a CLAIM's scope (R125): kind 0 a target ID, kind 1 a group, 15 being every PRESENT target. -/
def State.scopeMembers (s : State) (kind number : Byte) : List Target :=
  allTargets.filter (fun t =>
    let e := (s.activeEntry t).entry
    e.present &&
      (if kind = 0 then targetId t == number.toNat
       else number == 15 || e.memberships.any (fun g => g.val == number.toNat)))

/-- Some claim record of this owner holds the target (R124, R130). -/
def State.Claimed (s : State) (owner : Master) (t : Target) : Prop :=
  ∃ k c, s.claim k = some c ∧ c.owner = owner ∧ t ∈ c.members

/-- The next request to take is this one, well-formed, asking for this, on a part that runs (R38, R42). -/
def Next (s : State) (m : Master) (r : RawRequest) (a : Asked) : Prop :=
  s.phase = .running ∧ s.nextTake = some (m, r) ∧ readRequest r = some a

/-- The tag is in use for the master (R43). -/
def State.HoldsTag (s : State) (m : Master) (tag : Byte) : Prop :=
  (∃ c x, s.ctx c = some x ∧ x.master = m ∧ x.state = .active tag) ∨
    ∃ k c d, s.claim k = some c ∧ c.owner = m ∧ c.state = .draining tag d

/-- A refusal at admission (R41): the tag, the status and the generation current at the admission. -/
def State.refusal (s : State) (tag : Byte) (status : Status) : Response :=
  ⟨tag, status, none, some s.generation, none, .none⟩

/-- The members of a group (R27, R25). -/
def State.membersOf (s : State) (group : Nat) : List Target :=
  allTargets.filter (fun t =>
    let e := (s.activeEntry t).entry
    e.present && (group == 15 || e.memberships.any (fun g => g.val == group)))

/-- The master's access to a target suffices for the kind (the table of R46). -/
def Suffices (a : Access) (k : Kind) : Prop :=
  match k with
  | .read | .gread _ => a ≠ .none
  | _ => a = .readWrite

/-- No PENDING leg waits for the lane (R51). -/
def State.NonePending (s : State) (l : LaneId) : Prop :=
  ∀ c x g, s.ctx c = some x → g ∈ x.legs → g.lane = l → g.state ≠ .pending

/-- The second state has of the first all that no leg, lane, link or fault changes: the timebase, the settings, the
staged copies, the group table, the generation, the admission counter, the pointer and the waiting commands. -/
def State.SameSettings (s t : State) : Prop :=
  t.phase = s.phase ∧ t.timebase = s.timebase ∧ t.rightsM1 = s.rightsM1 ∧ t.quotaM0 = s.quotaM0 ∧
    t.quotaM1 = s.quotaM1 ∧ t.roundRobin = s.roundRobin ∧ t.admission = s.admission ∧ t.staged = s.staged ∧
    t.generation = s.generation ∧ t.stagedGroups = s.stagedGroups ∧ t.activeGroups = s.activeGroups ∧
    t.classes = s.classes ∧ t.fabricResets = s.fabricResets ∧ t.pending = s.pending

/-- A lane as it enters TRAINING (R85): contact NO, a first HELLO, no retry time. LEG-OUT and IDLE frames that wait for the
line are given up, and on a busy line the HELLO waits behind those that wait (log 9, log 13). -/
def Lane.startedTraining (now : Time) (x : Lane) : Lane :=
  let hellos := x.waiting.filter (· = .hello)
  { x with
    state := .training, contact := false, hellosSent := 1, helloTime := some now, retryTime := none,
    lastReceived := none, lastSent := none, line := some (x.line.getD .hello),
    waiting := if x.line = none then hellos else hellos ++ [.hello] }

/-- A lane in a state that sends nothing (R84), with this retry time: no frame waits for its line (log 9). -/
def Lane.quiet (v : LaneState) (retry : Option Time) (x : Lane) : Lane :=
  { x with
    state := v, contact := false, hellosSent := 0, helloTime := none, retryTime := retry, lastReceived := none,
    lastSent := none, waiting := [] }

/-- A lane after its own part of a fabric reset (R107). -/
def Lane.afterReset (now : Time) (x : Lane) : Lane :=
  let y : Lane := { x with queue := [], window := Vector.replicate 4 .free }
  if x.state = .disabled then y else y.startedTraining now

/-- A port as its link enters TRAINING (R163): a HELLO on a busy line waits for it (log 12). -/
def Port.startedTraining (now : Time) (p : Port) : Port :=
  { p with
    link := .training, hellosSent := 1, helloTime := some now, retryTime := none, lastReceived := none,
    lastSent := none, requestCredit := 0, responseCredit := 0, grantWaiting := false,
    line := some (p.line.getD (.hello 0)),
    hellosWaiting := if p.line = none then p.hellosWaiting else p.hellosWaiting + 1 }

/-- The number of PENDING legs of all contexts for a lane (R104). -/
def State.waitingLegs (s : State) (l : LaneId) : Nat :=
  (s.usedContexts.map (fun c => c.2.legs.countP (fun g => g.state = .pending ∧ g.lane = l))).sum

/-- The PENDING leg that a freed queue position of the lane goes to (R92): of the oldest context that has one for the
lane, the one of lowest target ID. -/
def State.OldestPending (s : State) (l : LaneId) (c : CtxId) (t : Target) : Prop :=
  ∃ x g, s.ctx c = some x ∧ g ∈ x.legs ∧ g.target = t ∧ g.lane = l ∧ g.state = .pending ∧
    ∀ d y h, s.ctx d = some y → h ∈ y.legs → h.lane = l → h.state = .pending →
      (d = c → t ≤ h.target) ∧ (d ≠ c → s.age y < s.age x)

/-- The table-integrity event for a target (R19): the active entry ABSENT with a fresh check, the record HEALTHY with
count 0, TABLE_PARITY raised. -/
def State.foundCorrupt (s : State) (t : Target) : State :=
  ((s.setActive t ⟨.absent, false⟩).setRecord t
    { s.record t with health := .healthy, consecutive := 0 }).occur .tableParity (.ofTarget t)

/-- A reader of R18 reads these active entries in order: each one found corrupt has its table-integrity event. -/
def State.readAll (s : State) (ts : List Target) : State :=
  ts.foldl (fun u t => if (u.activeEntry t).corrupt then u.foundCorrupt t else u) s

/-! ## Where the legs of a context stand (R60, R62) -/

/-- Leg's outcome when it is DONE and not OK, with its target. -/
def Leg.failure (g : Leg) : Option (Target × LegOutcome) :=
  match g.state with
  | .done .ok => none
  | .done o => some (g.target, o)
  | _ => none

/-- A context's own counts: its legs in ascending target ID (R58), unfinished and legs OK the numbers they name (R62,
R64), first failure the lowest target ID that failed (R64), some leg unfinished (R68, R72), and in an ACTIVE MATCH context
the accumulator the data of the lowest OK leg so far (R67). -/
def Ctx.Counted (x : Ctx) : Prop :=
  (x.legs.map Leg.target).Pairwise (· < ·) ∧ x.unfinished = x.legs.countP Leg.unfinished ∧ 0 < x.unfinished ∧
    x.legsOk = x.legs.countP (fun g => g.state = .done .ok) ∧ x.firstFailure = x.legs.findSome? Leg.failure ∧
    (x.kind = .gread .matching → x.state ≠ .orphan →
      x.accumulator = (x.legs.find? (fun g => g.state = .done .ok)).bind Leg.data ∧
      ∀ g ∈ x.legs, g.state = .done .ok → g.data ≠ none)

/-- The context has a leg to this target on this lane in this state. -/
def State.HasLeg (s : State) (c : CtxId) (t : Target) (l : LaneId) (v : LegState) : Prop :=
  ∃ x g, s.ctx c = some x ∧ g ∈ x.legs ∧ g.target = t ∧ g.lane = l ∧ g.state = v

/-- Every leg stands where R60 says: a QUEUED leg once on its lane's queue, an ISSUED leg in one slot of its lane's window
under its context's master, and queues and windows name no other leg; every context's counts are right. Between the
parts of a fabric reset every context is FREE (R80). -/
def State.LegsPlaced (s : State) : Prop :=
  if s.resetDue then ∀ c, s.ctx c = none
  else
    (∀ c x, s.ctx c = some x → x.Counted) ∧
    (∀ l, (s.lane l).queue.Nodup ∧
      ∀ r : LegRef, r ∈ (s.lane l).queue ↔ s.HasLeg r.ctx r.target l .queued) ∧
    (∀ l c t, (∃ w q m d, (s.lane l).slot w = .issued q c m t d) ↔ s.HasLeg c t l .issued) ∧
    (∀ l w q c m t d, (s.lane l).slot w = .issued q c m t d →
      (∃ x, s.ctx c = some x ∧ x.master = m) ∧
      ∀ v p n e, (s.lane l).slot v = .issued p c n t e → v = w)

/-- The number of contexts that have such a leg. A context holds at most one leg to a target. -/
def State.contextsWith (s : State) (p : Ctx → Leg → Bool) : Nat :=
  s.usedContexts.countP (fun c => c.2.legs.any (p c.2))

/-- The number of EXPIRED slots of a lane that record this master and target (R14). -/
def Lane.expiredFor (x : Lane) (m : Master) (t : Target) : Nat :=
  allSlots.countP (fun w =>
    match x.slot w with
    | .expired _ n i => n == m && i == t
    | _ => false)

/-- Of every context exactly the unfinished legs that `gone` names have ended with this outcome, which is not OK: a
context left with no unfinished leg is FREE (R68, R72), another keeps everything but those legs, its count of unfinished
legs and its first failure (R61, R64, R81). -/
def State.LegsEnd (s u : State) (gone : Leg → Bool) (o : LegOutcome) : Prop :=
  (∀ c, s.ctx c = none → u.ctx c = none) ∧
  ∀ c x, s.ctx c = some x →
    let ends : Leg → Bool := fun g => g.unfinished && gone g
    let left := x.legs.countP (fun g => g.unfinished && !gone g)
    let legs := x.legs.map (fun g => if ends g then { g with state := .done o, data := none } else g)
    (left = 0 → u.ctx c = none) ∧
    (0 < left → u.ctx c =
      some { x with legs := legs, unfinished := left, firstFailure := legs.findSome? Leg.failure })

/-- The response of a group context whose legs are all DONE as in this list (R70, R32 to R36): the summary with total, legs
OK, first failure and the mismatch target; MISMATCH, FAILED, PARTIAL or OK; under LIST one record for each leg, under MATCH
the data of the lowest OK leg, against which the mismatch target is the lowest OK leg that differs, under OR and AND the
combined data. -/
def Ctx.groupAnswer (x : Ctx) (tag : Byte) (legs : List Leg) (combined : Option (List Word)) : Response :=
  let total := legs.length
  let oks := legs.filter (fun h => h.state = .done .ok)
  let reference := oks.head?.bind Leg.data
  let mismatch : Option Target :=
    if x.kind = .gread .matching then (oks.find? (fun h => h.data != reference)).map Leg.target else none
  ⟨tag,
    (if mismatch ≠ none then .mismatch else if oks = [] then .failed
      else if oks.length < total then .partialOk else .ok),
    none, some x.generation,
    some ⟨total, oks.length, legs.findSome? Leg.failure, mismatch⟩,
    match x.kind with
    | .gread .list => .records (legs.filterMap (fun h =>
        match h.state with
        | .done p => some ⟨h.target, p, h.data⟩
        | _ => none))
    | .gread .matching => (reference.map ResponseData.words).getD .none
    | .gread _ => (combined.map ResponseData.words).getD .none
    | _ => .none⟩

/-- Where unfinished legs that `gone` names end with this outcome, which is not OK, each ACTIVE context left with no
unfinished leg is answered: unicast by the outcome (R69), a group by its legs as they then stand (R70). For each master the
answers `rs` are filled, as many as it has slots reserved (log 28), and each of them is such a response or the answer of a
CLAIM granted (R128). -/
def State.LegsAnswered (s u : State) (gone : Leg → Bool) (o : LegOutcome) : Prop :=
  let ends : Ctx → Prop := fun x => ∀ g ∈ x.legs, g.unfinished = true → gone g = true
  ∀ m, ∃ rs : List Response,
    (u.port m).filled = (s.port m).filled ++ rs.take (s.port m).reserved ∧
    (u.port m).reserved = (s.port m).reserved - rs.length ∧
    (∀ c x tag, s.ctx c = some x → x.master = m → x.state = .active tag → ends x →
      (∀ g, x.legs = [g] → (x.kind = .read ∨ x.kind = .write ∨ x.kind = .modify) →
        ⟨tag, o.status, none, some x.generation, none, .none⟩ ∈ rs) ∧
      (x.kind ≠ .read → x.kind ≠ .write → x.kind ≠ .modify →
        x.groupAnswer tag
          (x.legs.map (fun g => if g.unfinished then { g with state := .done o, data := none } else g))
          x.accumulator ∈ rs)) ∧
    ∀ r ∈ rs, r.opcode = some 0x10 ∨
      ∃ c x tag, s.ctx c = some x ∧ x.master = m ∧ x.state = .active tag ∧ ends x ∧ r.tag = tag ∧
        r.generation = some x.generation

/-- The second state has of the first all that the endings of legs change, besides the lanes: contexts, Target Status
records, claims and response slots. -/
def State.EndedAs (v t : State) : Prop :=
  t.contexts = v.contexts ∧ t.status = v.status ∧ t.claims = v.claims ∧
    ∀ m, (t.port m).filled = (v.port m).filled ∧ (t.port m).reserved = (v.port m).reserved

/-- The lane holds nothing: no leg in its queue, every slot FREE (R100). -/
def Lane.Idle (x : Lane) : Prop := x.queue = [] ∧ ∀ w, x.slot w = .free

/-- The timer that started at this time arrives now (R110). -/
def State.Arrived (s : State) (start : Option Time) (duration : Time) : Prop :=
  ∃ u, start = some u ∧ u + duration = s.timebase

/-- The least number of which a property holds. -/
def Least {n : Nat} (p : Fin n → Prop) (i : Fin n) : Prop := p i ∧ ∀ j, j < i → ¬ p j

/-- The bytes of a REQUEST of a kind other than HUB (section 11.3), from byte 4 on. -/
def requestBody (combine count : Nat) (addr : Addr) (payload : Payload) : List Byte :=
  byteOf (16 * combine + count) :: bytes3 (0#4 ++ addr) ++
    (match payload with
      | .none => []
      | .words ws => ws.flatMap bytes4
      | .masks setMask clearMask => bytes4 setMask ++ bytes4 clearMask)

end Sys2Proof.Machine

namespace Sys2Proof

/-! ## Frames as they arrive -/

/-- The bytes of the frame, without its CRC, that a command brings to the port of this master from SOF to EOF (section
11.3): any frame row but UP_BAD_CRC_FRAME, whose symbols are given. -/
def Instr.upFrameBytes (m : Master) : Instr → Option Nat
  | .masterHello w _ | .credit w _ => if w = m then some 2 else none
  | .upIdle w => if w = m then some 1 else none
  | .request w r => if w = m then some (4 + r.rest.length) else none
  | .upMalformedFrame w frame => if w = m then some frame.length else none
  | _ => none

/-- The same on a lane: any frame row but LANE_BAD_CRC_FRAME. -/
def Instr.laneFrameBytes (l : LaneId) : Instr → Option Nat
  | .deviceHello j _ => if j = l then some 2 else none
  | .laneIdle j => if j = l then some 1 else none
  | .legBack j f => if j = l then some (5 + f.rest.length) else none
  | .laneMalformedFrame j frame => if j = l then some frame.length else none
  | _ => none

end Sys2Proof
end

