-- ==== Sys2Proof/Certificates/Slice0/Obligations.lean ====
section
/-! DEFINITION. The statements for the provers. Where a statement rests on a choice of the model, its docstring names
the log entry. -/

section Slice0Obligations

open Sys2Proof Sys2Proof.Machine

/-! ## The step, the reset pin and the start-up hold -/

/-- A step takes the command at the front of the queue. -/
def Obligations.StepTakesFrontCommand : Prop :=
  ∀ (i : Instr) (rest : List Instr) (s : State), s.pending = i :: rest →
    step s = exec i { s with pending := rest }

/-- With no command waiting the part takes its own next event, or a microsecond passes: 1 of the timebase (R109),
25 periods of the start-up hold (R184). Where the Lane Engines' parts of a fabric reset are due, it takes those
instead (R80, R107). The choice is the model's (log 2, log 33). -/
def Obligations.EmptyQueueTakesOwnEventOrTime : Prop :=
  ∀ s : State, s.pending = [] →
    (∀ i, s.ownEvent = some i → step s = exec i s) ∧
    (s.ownEvent = none →
      (s.phase = .running → step s = .next { s with timebase := s.timebase + 1 }) ∧
      (∀ n, s.phase = .holding n → step s = .next { s with phase := .holding (n - 25) }) ∧
      (s.phase = .resetLow → step s = .next s) ∧
      (∀ before, s.phase = .resetting before →
        step s = .next { s with phase := .running, lanes := s.lanes.map (Lane.afterReset s.timebase) }))

/-- Every command of the table runs in every state, and none changes the queue of waiting commands. That a command which
is not due is a step that changes nothing is the model's choice (log 1), and so is that RESET_N low keeps the queue
(log 16). -/
def Obligations.EveryCommandRunsAndKeepsQueue : Prop :=
  ∀ (i : Instr) (s : State), ∃ t, exec i s = .next t ∧ t.pending = s.pending

/-- RESET_N taken low in any state gives every item its full-reset value (R184 and the tables of the chapters): every
receiver hunts (R186), and no frame is on a line or waits for one (R184). The commands that wait stay (log 16). -/
def Obligations.ResetNLowGivesFullReset : Prop :=
  ∀ s : State, ∃ t, exec .resetNLow s = .next t ∧ t.pending = s.pending ∧ t.phase = .resetLow ∧
    t.timebase = 0 ∧ t.hub = .setup ∧ t.rightsM1 = .read ∧ t.quotaM0 = 16 ∧ t.quotaM1 = 16 ∧
    t.roundRobin = .m0 ∧ t.admission = 0 ∧ t.generation = 0 ∧
    (∀ i, t.stagedEntry i = .absent ∧ t.activeEntry i = ⟨.absent, false⟩ ∧ t.record i = ⟨.healthy, 0, 0, 0, 0⟩) ∧
    (∀ g : Group, t.stagedGroups[g] = ⟨false, .none, .none⟩ ∧ t.activeGroups[g] = ⟨false, .none, .none⟩) ∧
    (∀ c, t.ctx c = none) ∧ (∀ k, t.claim k = none) ∧
    (∀ l, (t.lane l).state = .training ∧ (t.lane l).enabled = true ∧ (t.lane l).autoRetrain = true ∧
      (t.lane l).contact = false ∧ (t.lane l).stations = 0 ∧ (t.lane l).nextSeq = 0 ∧
      (t.lane l).hellosSent = 0 ∧ (t.lane l).retryTime = none ∧ (t.lane l).lastReceived = none ∧
      (t.lane l).lastSent = none ∧ (t.lane l).queue = [] ∧ (∀ w, (t.lane l).slot w = .free) ∧
      (t.lane l).receiver = .hunting ∧ (t.lane l).line = none ∧ (t.lane l).waiting = [] ∧
      (t.lane l).helloTime = none) ∧
    t.classes = #v[⟨100, 0⟩, ⟨125, 3⟩, ⟨125, 7⟩, ⟨250, 12⟩] ∧
    (∀ x : Source, (t.source x).latch = false ∧ (t.source x).count = 0) ∧
    t.sources.toList.map SourceRecord.action =
      [.record, .record, .alert, .record, .alert, .alert, .isolate, .record, .record, .ignore, .record,
       .record, .alert, .alert, .record, .ignore, .record, .alert, .alert, .record, .halt, .alert] ∧
    t.records = [] ∧ t.lostCount = 0 ∧ t.nextRecord = 0 ∧
    t.alertM0 = ⟨⟨3, 2, 2, 1⟩, 0, ⟨none, none, none, none⟩, false⟩ ∧
    t.alertM1 = ⟨⟨0, 0, 0, 0⟩, 0, ⟨none, none, none, none⟩, false⟩ ∧
    (∀ m, (t.port m).link = .training ∧ (t.port m).hellosSent = 0 ∧ (t.port m).retryTime = none ∧
      (t.port m).lastReceived = none ∧ (t.port m).lastSent = none ∧ (t.port m).requestCredit = 0 ∧
      (t.port m).creditsOwed = 0 ∧ (t.port m).buffer = [] ∧ (t.port m).responseCredit = 0 ∧
      (t.port m).reserved = 0 ∧ (t.port m).filled = [] ∧ (t.port m).alertReady = none ∧
      (t.port m).notice = none ∧ (t.port m).receiver = .hunting ∧ (t.port m).line = none ∧
      (t.port m).helloTime = none ∧ (t.port m).hellosWaiting = 0 ∧ (t.port m).grantWaiting = false)

/-- RESET_N rises: a hold of 50,000 periods begins. When the hold has run out, both links and every lane enter TRAINING
with a first HELLO (R163, R85), and nothing else changes (R184); on a busy line the HELLO waits, and a lane's LEG-OUT and
IDLE frames that wait are given up (the model's choice, logs 9, 12 and 13). The rows do nothing at any other time (log 1), and
until then no other command but RESET_N_LOW does anything: the state stays and every receiver ignores what arrives
(R184). -/
def Obligations.HoldIsCountedThenTrainingStarts : Prop :=
  ∀ s : State,
    (s.Asleep → ∀ i : Instr, i ≠ .resetNLow → i ≠ .resetNRise → i ≠ .startUpHoldEnd → exec i s = .next s) ∧
    (s.phase = .resetLow → exec .resetNRise s = .next { s with phase := .holding 50000 }) ∧
    (s.phase ≠ .resetLow → exec .resetNRise s = .next s) ∧
    (s.phase ≠ .holding 0 → exec .startUpHoldEnd s = .next s) ∧
    (s.phase = .holding 0 → exec .startUpHoldEnd s =
      .next { s with
        phase := .running, lanes := s.lanes.map (Lane.startedTraining s.timebase),
        portM0 := s.portM0.startedTraining s.timebase, portM1 := s.portM1.startedTraining s.timebase })

/-! ## The master ports -/

/-- A REQUEST at a port whose receiver hunts: too long to be handed on it is bad CRC (R186), longer than the longest layout
it is FRAME_MALFORMED (R167); on an UP link it joins the buffer
when request credit is above 0, else it is discarded with UP_CREDIT (R168); on another link it is discarded (R162). A
CREDIT on an UP link: with a count of at least 1 and a total of at most 16 response credit rises by the count, and a
free transmitter looks again at its frames; else it is discarded with FRAME_MALFORMED (R169); on another link it is
discarded (R162). A receiver that holds a collection is in IdleAndBadFrames. -/
def Obligations.RequestAndCreditAtPort : Prop :=
  ∀ (s : State) (m : Master), s.phase = .running → (s.port m).receiver = .hunting →
    (∀ r : RawRequest,
      (1017 < r.rest.length → exec (.request m r) s = .next (s.occur .upCrc (.ofMaster m))) ∧
      (36 < r.rest.length → r.rest.length ≤ 1017 → exec (.request m r) s =
        .next (s.occur .frameMalformed (.ofMaster m))) ∧
      (r.rest.length ≤ 36 → (s.port m).link ≠ .up → exec (.request m r) s = .next s) ∧
      (r.rest.length ≤ 36 → (s.port m).link = .up → 0 < (s.port m).requestCredit → exec (.request m r) s =
        .next (s.setPort m { s.port m with
          lastReceived := some s.timebase, buffer := (s.port m).buffer ++ [r],
          requestCredit := (s.port m).requestCredit - 1 })) ∧
      (r.rest.length ≤ 36 → (s.port m).link = .up → (s.port m).requestCredit = 0 → exec (.request m r) s =
        .next ((s.setPort m { s.port m with lastReceived := some s.timebase }).occur .upCredit (.ofMaster m)))) ∧
    ∀ count : Byte,
      ((s.port m).link ≠ .up → exec (.credit m count) s = .next s) ∧
      ((s.port m).link = .up → (count.toNat = 0 ∨ 16 < (s.port m).responseCredit + count.toNat) →
        exec (.credit m count) s =
          .next ((s.setPort m { s.port m with lastReceived := some s.timebase }).occur
            .frameMalformed (.ofMaster m))) ∧
      ((s.port m).link = .up → 1 ≤ count.toNat → (s.port m).responseCredit + count.toNat ≤ 16 →
        ∃ p : Port, p = { s.port m with
            lastReceived := some s.timebase,
            responseCredit := (s.port m).responseCredit + count.toNat } ∧
          exec (.credit m count) s =
            .next (s.setPort m (if p.line = none then p.arbitrate s.timebase else p)))

/-- A master HELLO, at a receiver that hunts, on a link that is not UP: in DOWN it is discarded (R162); in TRAINING with response credit 1 to 16
the link comes UP with request credit 4 and the grant HELLO, and the Alert Unit tests R155; else it is discarded with
FRAME_MALFORMED (R164). On a busy line, or behind a training HELLO that still waits, the grant HELLO waits (the model's
reading, log 12). -/
def Obligations.MasterHelloBringsLinkUp : Prop :=
  ∀ (s : State) (m : Master) (value : Byte), s.phase = .running → (s.port m).receiver = .hunting →
    ((s.port m).link = .down → exec (.masterHello m value) s = .next s) ∧
    ((s.port m).link = .training → (value.toNat < 1 ∨ 16 < value.toNat) → exec (.masterHello m value) s =
      .next (s.occur .frameMalformed (.ofMaster m))) ∧
    ((s.port m).link = .training → 1 ≤ value.toNat → value.toNat ≤ 16 →
      ∃ p : Port, p = { s.port m with
          link := .up, responseCredit := value.toNat, requestCredit := 4, buffer := [],
          creditsOwed := 0, lastReceived := some s.timebase, lastSent := some s.timebase, hellosSent := 0,
          helloTime := none } ∧
        exec (.masterHello m value) s =
          .next ((s.setPort m (if p.line = none ∧ p.hellosWaiting = 0 then { p with line := some (.hello 4) }
            else { p with grantWaiting := true })).testAlert m))

/-- Loss of an UP link after 1,000 microseconds without a valid frame (R165), and a master HELLO on an UP link (R166),
tear the master down: its buffer, owed credits and response queue are empty, its contexts are ORPHAN or gone (R71), its
claims are free (R135), the other master's link keeps its credits and buffer, and UP_LOST occurs (R174). After a loss the
master's window is FREE and of its pending set only what UP_LOST, and RECORDS_LOST with it, pends is there: the emptying
comes before the occurrence (R160, log 24). -/
def Obligations.TeardownEmptiesMaster : Prop :=
  ∀ (s : State) (m : Master), s.phase = .running → (s.port m).link = .up →
    let torn : State → Prop := fun t =>
      (t.port m).buffer = [] ∧ (t.port m).creditsOwed = 0 ∧ (t.port m).reserved = 0 ∧ (t.port m).filled = [] ∧
      (t.port m).notice = none ∧ (∀ c x, t.ctx c = some x → x.master = m → x.state = .orphan) ∧
      (∀ k c, t.claim k = some c → c.owner ≠ m) ∧
      (t.port m.other).link = (s.port m.other).link ∧ (t.port m.other).buffer = (s.port m.other).buffer ∧
      (t.port m.other).requestCredit = (s.port m.other).requestCredit ∧
      (t.port m.other).creditsOwed = (s.port m.other).creditsOwed ∧
      (t.port m.other).responseCredit = (s.port m.other).responseCredit ∧
      t.active = s.active ∧ s.SameSettings t ∧ (t.source .upLost).latch = true ∧
      (t.alert m).levels = (s.alert m).levels ∧ (t.alert m).floor = (s.alert m).floor
    let action := (s.source .upLost).action
    let pends : Prop := (action = .alert ∨ action = .isolate ∨ action = .halt) ∧ 0 < (s.alert m).levels.link
    (s.Arrived (s.port m).lastReceived 1000 → ∃ t, exec (.linkLoss m) s = .next t ∧ torn t ∧
      (t.port m).link = .training ∧ (t.port m).requestCredit = 0 ∧ (t.port m).responseCredit = 0 ∧
      (t.port m).alertReady = none ∧ (t.alert m).busy = false ∧ (t.alert m).pending.fabric = none ∧
      (t.alert m).pending.target = none ∧
      (pends → (t.alert m).pending.link =
        some ⟨.upLost, if s.records.length < 16 then some s.nextRecord else none⟩) ∧
      (¬ pends → (t.alert m).pending.link = none) ∧
      (s.records.length < 16 → (t.alert m).pending.internal = none)) ∧
    (¬ s.Arrived (s.port m).lastReceived 1000 → exec (.linkLoss m) s = .next s) ∧
    ∀ value : Byte, ∃ t, exec (.masterHello m value) s = .next t ∧ torn t ∧
      (1 ≤ value.toNat → value.toNat ≤ 16 → (t.port m).link = .up ∧ (t.port m).requestCredit = 4 ∧
        (t.port m).responseCredit = value.toNat) ∧
      (value.toNat < 1 ∨ 16 < value.toNat → (t.port m).link = .training ∧ (t.port m).requestCredit = 0 ∧
        (t.port m).responseCredit = 0)

/-- Teardown of a master (R71 to R75, R81, R106): each of its ACTIVE contexts becomes ORPHAN, its PENDING and QUEUED legs
end CANCELLED and its ISSUED legs stay; one left with no unfinished leg is FREE. A withdrawn leg leaves its lane's
queue, the rest keep their order, and each freed position goes to the oldest PENDING leg that waits for the lane (R92).
The master's in-flight count of a target falls by one for each leg cancelled (R14). Other contexts and the lanes are as
before but for the legs that took a freed position. -/
def Obligations.TeardownCancelsUnsentLegs : Prop :=
  ∀ (s : State) (m : Master) (i : Instr), s.phase = .running → s.LegsPlaced → (s.port m).link = .up →
    ((i = .linkLoss m ∧ s.Arrived (s.port m).lastReceived 1000) ∨ ∃ value, i = .masterHello m value) →
    let torn : Ctx → Bool := fun x => x.master == m && x.state != .orphan
    let unsent : Leg → Bool := fun g => g.state == .pending || g.state == .queued
    let leaves : LegRef → Bool := fun r => (s.ctx r.ctx).any torn
    let joins : LaneId → List LegRef := fun l =>
      ((s.pendingFor l).filter (fun r => !leaves r)).take ((s.lane l).queue.countP leaves)
    ∃ t, exec i s = .next t ∧
      (∀ l, t.lane l =
        { s.lane l with queue := (s.lane l).queue.filter (fun r => !leaves r) ++ joins l }) ∧
      (∀ c, s.ctx c = none → t.ctx c = none) ∧
      (∀ c x, s.ctx c = some x → torn x = false → t.ctx c = some { x with
        legs := x.legs.map (fun g => if (⟨c, g.target⟩ : LegRef) ∈ joins g.lane then { g with state := .queued } else g) }) ∧
      (∀ c x, s.ctx c = some x → torn x = true →
        let left := x.legs.countP (fun g => g.state = .issued)
        let legs := x.legs.map (fun g => if unsent g then { g with state := .done .cancelled, data := none } else g)
        (left = 0 → t.ctx c = none) ∧
        (0 < left → t.ctx c = some { x with
          state := .orphan, legs := legs, unfinished := left, firstFailure := legs.findSome? Leg.failure })) ∧
      (∀ v, t.inFlight m v =
        s.inFlight m v - s.contextsWith (fun x g => torn x && g.target == v && unsent g)) ∧
      ∀ v, t.inFlight m.other v = s.inFlight m.other v

/-- An IDLE sets last received on an UP link (R165, R162), and on a lane while contact is YES (R90), and does nothing
else; a frame that is not valid raises FRAME_MALFORMED, in every link and lane state but DISABLED, and does not set last
received (R167, R90). Symbols reach the receiver one after the other (R186): each gives it the condition that the table
says, a frame abandoned or found bad raises UP_CRC at a port and LANE_CRC on a lane, once for each and whatever the link
and lane state, and a frame handed on has the effect of its own command, whether it comes by symbols or as its bytes. A
DISABLED lane takes none of them (R84). For every frame command, which is the frame's symbols from SOF to EOF (log 14): a
collection that the receiver still holds is abandoned at its SOF and counts as one bad frame, after which the frame goes on
as at a hunting receiver; a frame of no byte or of more than 1,021 counts as bad itself and does nothing else (R186). -/
def Obligations.IdleAndBadFrames : Prop :=
  (∀ s : State, s.phase = .running → ∀ m : Master,
    (exec (.upBadCrcFrame m []) s = .next s ∧
      (∀ (x : Symbol) (xs : List Symbol), ∃ t, exec (.upBadCrcFrame m [x]) s = .next t ∧
        exec (.upBadCrcFrame m (x :: xs)) s = exec (.upBadCrcFrame m xs) t) ∧
      ∀ (x : Symbol) (after : Receiver) (ends : Option FrameEnd),
        receiveSymbol (s.port m).receiver x = (after, ends) →
        let u := s.setPort m { s.port m with receiver := after }
        exec (.upBadCrcFrame m [x]) s =
          match ends with
          | none => .next u
          | some .badCrc => .next (u.occur .upCrc (.ofMaster m))
          | some (.handedOn frame) => exec (upCommand m frame) u) ∧
    (∀ frame : List Byte, exec (.upMalformedFrame m frame) s = exec (upCommand m frame) s) ∧
    (∀ i n bytes, i.upFrameBytes m = some n → (s.port m).receiver = .inFrame bytes → exec i s =
      exec i ((s.setPort m { s.port m with receiver := .hunting }).occur .upCrc (.ofMaster m))) ∧
    ((s.port m).receiver = .hunting →
      ((s.port m).link = .up → exec (.upIdle m) s =
        .next (s.setPort m { s.port m with lastReceived := some s.timebase })) ∧
      ((s.port m).link ≠ .up → exec (.upIdle m) s = .next s) ∧
      (∀ frame : List Byte, readUpFrame frame = .malformed → 1 ≤ frame.length → frame.length ≤ 1021 →
        exec (.upMalformedFrame m frame) s = .next (s.occur .frameMalformed (.ofMaster m))) ∧
      ∀ i n, i.upFrameBytes m = some n → (n = 0 ∨ 1021 < n) →
        exec i s = .next (s.occur .upCrc (.ofMaster m)))) ∧
  (∀ s : State, s.phase = .running → ∀ l : LaneId,
    let x := s.lane l
    (x.state = .disabled → exec (.laneIdle l) s = .next s ∧
      (∀ symbols, exec (.laneBadCrcFrame l symbols) s = .next s) ∧
      ∀ frame, exec (.laneMalformedFrame l frame) s = .next s) ∧
    (x.state ≠ .disabled →
      (exec (.laneBadCrcFrame l []) s = .next s ∧
        (∀ (y : Symbol) (ys : List Symbol), ∃ t, exec (.laneBadCrcFrame l [y]) s = .next t ∧
          exec (.laneBadCrcFrame l (y :: ys)) s = exec (.laneBadCrcFrame l ys) t) ∧
        ∀ (y : Symbol) (after : Receiver) (ends : Option FrameEnd), receiveSymbol x.receiver y = (after, ends) →
          let u := s.setLane l { x with receiver := after }
          exec (.laneBadCrcFrame l [y]) s =
            match ends with
            | none => .next u
            | some .badCrc => .next (u.occur .laneCrc (.ofLane l))
            | some (.handedOn frame) => exec (laneCommand l frame) u) ∧
      (∀ frame : List Byte, exec (.laneMalformedFrame l frame) s = exec (laneCommand l frame) s) ∧
      (x.receiver = .hunting →
        exec (.laneIdle l) s = .next (s.setLane l { x with
          lastReceived := if x.contact = true then some s.timebase else x.lastReceived }) ∧
        ∀ frame : List Byte, readLaneFrame frame = .malformed → 1 ≤ frame.length → frame.length ≤ 1021 →
          exec (.laneMalformedFrame l frame) s = .next (s.occur .frameMalformed (.ofLane l))))) ∧
  ∀ (s : State) (l : LaneId) (i : Instr) (n : Nat), i.laneFrameBytes l = some n → (s.lane l).state ≠ .disabled →
    (s.phase = .running ∨ ((∃ before, s.phase = .resetting before) ∧
      ((∃ f, i = .legBack l f) ∨ ∃ stations, i = .deviceHello l stations))) →
    (∀ bytes, (s.lane l).receiver = .inFrame bytes → exec i s =
      exec i ((s.setLane l { s.lane l with receiver := .hunting }).occur .laneCrc (.ofLane l))) ∧
    ((s.lane l).receiver = .hunting → (n = 0 ∨ 1021 < n) →
      exec i s = .next (s.occur .laneCrc (.ofLane l)))

/-- The timers of a link: a further HELLO each 200 microseconds up to 50, failure 200 microseconds after the fiftieth,
training again at the retry time (R163), an IDLE after 100 silent microseconds on an UP link with nothing else to send
(R165, R171). A HELLO on a busy line waits for it (log 12). -/
def Obligations.LinkTimersTrainAndKeepAlive : Prop :=
  ∀ (s : State) (m : Master), s.phase = .running →
    let p := s.port m
    (p.link = .training → p.hellosSent < 50 → s.Arrived p.helloTime 200 → exec (.linkHelloInterval m) s =
      .next (s.setPort m { p with
        hellosSent := p.hellosSent + 1, helloTime := some s.timebase,
        line := if p.line = none then some (.hello 0) else p.line,
        hellosWaiting := if p.line = none then p.hellosWaiting else p.hellosWaiting + 1 })) ∧
    (p.link = .training → p.hellosSent = 50 → s.Arrived p.helloTime 200 → exec (.linkTrainingFailure m) s =
      .next (s.setPort m { p with
        link := .down, hellosSent := 0, helloTime := none, hellosWaiting := 0,
        retryTime := some (s.timebase + 100000) })) ∧
    (p.link = .down → p.retryTime = some s.timebase → exec (.linkRetry m) s =
      .next (s.setPort m { p with
        link := .training, hellosSent := 1, helloTime := some s.timebase, retryTime := none,
        lastReceived := none, lastSent := none, requestCredit := 0, responseCredit := 0, grantWaiting := false,
        line := if p.line = none then some (.hello 0) else p.line,
        hellosWaiting := if p.line = none then p.hellosWaiting else p.hellosWaiting + 1 })) ∧
    (p.link = .up → p.line = none → p.hellosWaiting = 0 → p.grantWaiting = false → p.notice = none →
      p.creditsOwed = 0 → (p.alertReady = none ∨ p.responseCredit = 0) →
      (p.filled = [] ∨ p.responseCredit = 0) → s.Arrived p.lastSent 100 → exec (.linkKeepalive m) s =
        .next (s.setPort m { p with line := some .idle, lastSent := some s.timebase }))

/-- The transmit arbiter of an UP link follows the table of R171: grant HELLO, NOTICE, CREDIT, ALERT, RESPONSE, IDLE,
ALERT and RESPONSE only with response credit, of which each spends one (R172). A training HELLO that still waits goes
first (R166, log 12). On another link only training HELLOs are sent. -/
def Obligations.ArbiterFollowsItsTable : Prop :=
  ∀ (s : State) (m : Master), s.phase = .running →
    let p := s.port m
    let sends : Port → Prop := fun q => exec (.transmitArbiter m) s = .next (s.setPort m q)
    (p.link = .up → 0 < p.hellosWaiting →
      sends { p with line := some (.hello 0), hellosWaiting := p.hellosWaiting - 1, lastSent := some s.timebase }) ∧
    (p.link = .up → p.hellosWaiting = 0 →
      (p.grantWaiting = true →
        sends { p with line := some (.hello 4), grantWaiting := false, lastSent := some s.timebase }) ∧
      (p.grantWaiting = false → ∀ n, p.notice = some n →
        sends { p with line := some (.notice n), notice := none, lastSent := some s.timebase }) ∧
      (p.grantWaiting = false → p.notice = none →
        (0 < p.creditsOwed →
          sends { p with
            line := some .credit, creditsOwed := p.creditsOwed - 1, requestCredit := p.requestCredit + 1,
            lastSent := some s.timebase }) ∧
        (p.creditsOwed = 0 → 0 < p.responseCredit → ∀ a, p.alertReady = some a →
          sends { p with
            line := some (.alert a), alertReady := none, responseCredit := p.responseCredit - 1,
            lastSent := some s.timebase }) ∧
        (p.creditsOwed = 0 → 0 < p.responseCredit → p.alertReady = none → ∀ r rest, p.filled = r :: rest →
          sends { p with
            line := some (.response r), filled := rest, responseCredit := p.responseCredit - 1,
            lastSent := some s.timebase }) ∧
        (p.creditsOwed = 0 → (p.responseCredit = 0 ∨ (p.alertReady = none ∧ p.filled = [])) →
          (∀ u, p.lastSent = some u → 100 ≤ (s.timebase - u).toNat →
            sends { p with line := some .idle, lastSent := some s.timebase }) ∧
          ((∀ u, p.lastSent = some u → (s.timebase - u).toNat < 100) → sends { p with line := none })))) ∧
    (p.link ≠ .up → p.hellosWaiting = 0 → sends { p with line := none }) ∧
    (p.link ≠ .up → 0 < p.hellosWaiting →
      sends { p with line := some (.hello 0), hellosWaiting := p.hellosWaiting - 1 })

/-! ## The Intake Unit -/

/-- A take serves the master that the pointer names when both have a takeable request, else the one that has; it
takes the oldest request, and the pointer then names the other master (R38, R39). Here for a request that check 1
answers MALFORMED, without a generation (R41, R42). With no takeable request nothing happens. -/
def Obligations.IntakeServesMastersInTurn : Prop :=
  ∀ s : State, s.phase = .running →
    let takeable : Master → Prop := fun m =>
      (s.port m).buffer ≠ [] ∧ (s.port m).reserved + (s.port m).filled.length < 24
    ((∀ m, ¬ takeable m) → exec .intakeTake s = .next s) ∧
    ∀ m r rest, (s.port m).buffer = r :: rest → takeable m → (s.roundRobin = m ∨ ¬ takeable m.other) →
      s.nextTake = some (m, r) ∧
      (readRequest r = none → exec .intakeTake s =
        .next (s.answered m ⟨r.tag, .malformed, none, none, none, .none⟩))

/-- A well-formed request whose tag is in use is dropped with DUP_TAG, its slot released and its CREDIT owed (R43). A
target request in SETUP is refused NOT_READY and in HALTED refused HALTED, with the generation (R45, R41). -/
def Obligations.TagInUseAndHubStateDecideFirst : Prop :=
  ∀ (s : State) (m : Master) (r : RawRequest) (a : Asked), Next s m r a →
    (s.HoldsTag m r.tag → exec .intakeTake s =
      .next (State.occur { s.setPort m { s.port m with
          buffer := (s.port m).buffer.tail, creditsOwed := (s.port m).creditsOwed + 1 } with
        roundRobin := m.other } .dupTag { FaultFields.none with master := some m, tag := some r.tag })) ∧
    (¬ s.HoldsTag m r.tag → (∀ op, a ≠ .hub op) →
      (s.hub = .setup → exec .intakeTake s = .next (s.answered m (s.refusal r.tag .notReady))) ∧
      (s.hub = .halted → exec .intakeTake s = .next (s.answered m (s.refusal r.tag .halted))))

/-- A unicast request is refused by the first of checks 5 to 8 that fails (R46, R47): NO_TARGET, DENIED, RANGE, HELD,
QUARANTINED, LANE_DOWN, FENCED, NO_STATION. Nothing but the take and the answer happens; an active entry found corrupt
has its table-integrity event before the answer and reads as ABSENT (R19, R20). -/
def Obligations.UnicastRefusedByFirstFailingCheck : Prop :=
  ∀ (s : State) (m : Master) (r : RawRequest) (q : TargetRequest) (t : Target),
    Next s m r (.unicast q) → ¬ s.HoldsTag m r.tag → s.hub = .run → targetId t = q.dest →
    ((s.activeEntry t).corrupt = true → exec .intakeTake s =
      .next (((s.takenBy m).foundCorrupt t).fillSlot m (s.refusal r.tag .noTarget))) ∧
    ((s.activeEntry t).corrupt = false →
      let e := (s.activeEntry t).entry
      let lane := s.lane e.lane
      let refused : Status → Prop := fun status =>
        exec .intakeTake s = .next (s.answered m (s.refusal r.tag status))
      (e.present = false → refused .noTarget) ∧
      (e.present = true → ¬ Suffices (e.access m) q.kind → refused .denied) ∧
      (e.present = true → Suffices (e.access m) q.kind →
        (e.length < q.addr.toNat + q.count → refused .range) ∧
        (q.addr.toNat + q.count ≤ e.length →
          (s.Claimed m.other t → refused .held) ∧
          (¬ s.Claimed m.other t →
            ((s.record t).health = .quarantined → refused .quarantined) ∧
            ((s.record t).health = .healthy →
              ((lane.state = .disabled ∨ lane.state = .down ∨ lane.state = .training) → refused .laneDown) ∧
              (lane.state = .fenced → refused .fenced) ∧
              (lane.state = .up → lane.stations ≤ e.station.val → refused .noStation))))))

/-- A unicast request that passes checks 1 to 8 takes the FREE context with the lowest number and the next admission
number (R49, R58), and its leg is QUEUED at the tail of its lane's queue when there is room and no leg waits PENDING,
else PENDING (R51); the master's in-flight count for the target rises by 1 (R52). With no FREE context, or its master at
its quota, it is answered BUSY with CONTEXT_EXHAUSTED raised, no leg is placed and no count changes (R50). A corrupt
entry is ABSENT to check 5 (R20), so no such request has one. -/
def Obligations.UnicastAdmittedIsPlaced : Prop :=
  ∀ (s : State) (m : Master) (r : RawRequest) (q : TargetRequest) (t : Target),
    Next s m r (.unicast q) → ¬ s.HoldsTag m r.tag → s.hub = .run → targetId t = q.dest →
    (s.activeEntry t).corrupt = false → (s.activeEntry t).entry.present = true →
    (∀ c : CtxId,
      let e := (s.activeEntry t).entry
      let lane := s.lane e.lane
      Suffices (e.access m) q.kind → q.addr.toNat + q.count ≤ e.length →
      ¬ s.Claimed m.other t → (s.record t).health = .healthy → lane.state = .up → e.station.val < lane.stations →
      Least (fun c => s.ctx c = none) c → s.holding m < s.quota m →
      let context : LegState → Ctx := fun v =>
        { state := .active r.tag, master := m, kind := q.kind, count := q.count, payload := q.payload,
          admission := s.admission, generation := s.generation,
          legs := [⟨t, e.lane, e.station, e.base + q.addr, e.deadline, v, none⟩],
          unfinished := 1, legsOk := 0, firstFailure := none, accumulator := none, mismatch := none }
      let counted : State → LegState → State := fun u v =>
        State.setCtx { u.setRecord t ((s.record t).setInFlight m (s.inFlight m t + 1)) with
          admission := s.admission + 1 } c (some (context v))
      (lane.queue.length < 16 → s.NonePending e.lane → exec .intakeTake s =
        .next (counted ((s.takenBy m).setLane e.lane { lane with queue := lane.queue ++ [⟨c, t⟩] }) .queued)) ∧
      ((16 ≤ lane.queue.length ∨ ¬ s.NonePending e.lane) → exec .intakeTake s =
        .next (counted (s.takenBy m) .pending))) ∧
    (s.targetCheck m q t (s.activeEntry t).entry = none →
      ((∀ c, s.ctx c ≠ none) ∨ s.quota m ≤ s.holding m) →
      exec .intakeTake s =
        .next ((s.answered m (s.refusal r.tag .busy)).occur .contextExhausted
          { FaultFields.none with master := some m, tag := some r.tag }))

/-- A group request is refused as a whole NO_GROUP, EMPTY, DENIED or TOO_LARGE (R28, R30). When every leg fails its own
check at admission it is answered at once, FAILED, with its summary and under LIST one record for each member (R31,
R35, R36). The scan for the members reads every active entry first: each one found corrupt has its table-integrity event
and is no member (R18 to R20, R27); over sound tables that reading changes nothing. -/
def Obligations.GroupRequestAnsweredWithoutContext : Prop :=
  ∀ (s : State) (m : Master) (r : RawRequest) (q : TargetRequest),
    Next s m r (.group q) → ¬ s.HoldsTag m r.tag → s.hub = .run →
    let found := (s.takenBy m).readAll allTargets
    let members := found.membersOf q.dest
    let answers : Response → Prop := fun a => exec .intakeTake s = .next (found.fillSlot m a)
    let enabled : Prop := q.dest = 15 ∨ ∃ g : Group, g.val = q.dest ∧ s.activeGroups[g].enabled = true
    (s.TablesSound → found = s.takenBy m ∧ members = s.membersOf q.dest ∧ ∀ a, found.fillSlot m a = s.answered m a) ∧
    (¬ enabled → exec .intakeTake s = .next (s.answered m (s.refusal r.tag .noGroup))) ∧
    (enabled → members = [] → answers (s.refusal r.tag .empty)) ∧
    (enabled → members ≠ [] → ¬ Suffices (s.groupRights m q.dest) q.kind →
      answers (s.refusal r.tag .denied)) ∧
    (enabled → members ≠ [] → Suffices (s.groupRights m q.dest) q.kind →
      (q.kind = .gread .list → 240 < members.length * (q.count + 1) → answers (s.refusal r.tag .tooLarge)) ∧
      ((q.kind = .gread .list → members.length * (q.count + 1) ≤ 240) → ∀ o : Target → LegOutcome,
        (∀ t ∈ members, found.targetCheck m q t (found.activeEntry t).entry = some (o t)) →
        answers ⟨r.tag, .failed, none, some s.generation,
          some ⟨members.length, 0, members.head?.map (fun t => (t, o t)), none⟩,
          if q.kind = .gread .list then .records (members.map (fun t => ⟨t, o t, none⟩)) else .none⟩))

/-- A group request with a leg to be sent (R31, R49 to R52, R58): with no FREE context or no quota left it is answered BUSY
with CONTEXT_EXHAUSTED; else it takes the FREE context of lowest number and the next admission number. The context holds
one leg for each member in ascending target ID, DONE with the outcome of the check that failed, or placed: QUEUED at the
tail of its lane's queue while that has room and no PENDING leg waits for the lane, else PENDING. The in-flight count
of the master rises by 1 for each leg placed. All of it stands on the state after the scan, in which each corrupt active
entry has had its table-integrity event (R18 to R20); over sound tables the scan changes nothing. -/
def Obligations.GroupRequestIsPlaced : Prop :=
  ∀ (s : State) (m : Master) (r : RawRequest) (q : TargetRequest),
    Next s m r (.group q) → ¬ s.HoldsTag m r.tag → s.hub = .run →
    let found := (s.takenBy m).readAll allTargets
    let members := found.membersOf q.dest
    let check : Target → Option LegOutcome := fun t => found.targetCheck m q t (found.activeEntry t).entry
    (s.TablesSound → found = s.takenBy m) ∧
    ((q.dest = 15 ∨ ∃ g : Group, g.val = q.dest ∧ s.activeGroups[g].enabled = true) →
      Suffices (s.groupRights m q.dest) q.kind →
      (q.kind = .gread .list → members.length * (q.count + 1) ≤ 240) →
      (∃ t ∈ members, check t = none) →
      (((∀ c, s.ctx c ≠ none) ∨ s.quota m ≤ s.holding m) → exec .intakeTake s =
        .next ((found.fillSlot m (s.refusal r.tag .busy)).occur .contextExhausted
          { FaultFields.none with master := some m, tag := some r.tag })) ∧
      ∀ c, Least (fun c => s.ctx c = none) c → s.holding m < s.quota m →
        ∃ u x, exec .intakeTake s = .next u ∧ u.ctx c = some x ∧ (∀ d, d ≠ c → u.ctx d = s.ctx d) ∧
          x.state = .active r.tag ∧ x.master = m ∧ x.kind = q.kind ∧ x.count = q.count ∧ x.payload = q.payload ∧
          x.admission = s.admission ∧ u.admission = s.admission + 1 ∧ x.generation = s.generation ∧
          x.unfinished = members.countP (fun t => check t = none) ∧ x.legsOk = 0 ∧ x.accumulator = none ∧
          x.mismatch = none ∧
          x.firstFailure = members.findSome? (fun t => (check t).map (fun o => (t, o))) ∧
          x.legs.map Leg.target = members ∧
          (∀ g ∈ x.legs,
            let e := (found.activeEntry g.target).entry
            g.lane = e.lane ∧ g.station = e.station ∧ g.addr = e.base + q.addr ∧ g.deadline = e.deadline ∧
              g.data = none ∧ (∀ o, check g.target = some o → g.state = .done o) ∧
              (check g.target = none →
                (g.state = .queued ∧ s.NonePending g.lane ∧ (s.lane g.lane).queue.length < 16) ∨
                (g.state = .pending ∧ (¬ s.NonePending g.lane ∨ 16 ≤ (u.lane g.lane).queue.length)))) ∧
          x.legs.Pairwise (fun a b => a.lane = b.lane → b.state = .queued → a.state ≠ .pending) ∧
          (∀ l, u.lane l = { s.lane l with
            queue := (s.lane l).queue ++
              (x.legs.filter (fun g => g.lane = l ∧ g.state = .queued)).map (fun g => ⟨c, g.target⟩) }) ∧
          (∀ t, u.record t = if t ∈ members ∧ check t = none
            then (found.record t).setInFlight m (s.inFlight m t + 1) else found.record t) ∧
          (∀ w, u.port w = found.port w) ∧ u.roundRobin = m.other ∧ u.hub = found.hub ∧ u.active = found.active ∧
          u.staged = s.staged ∧ u.generation = s.generation ∧ u.claims = s.claims ∧ u.sources = found.sources ∧
          u.records = found.records ∧ u.alertM0 = found.alertM0 ∧ u.alertM1 = found.alertM1 ∧
          u.timebase = s.timebase)

/-! ## Management operations -/

/-- The row of a management operation is the intake event that takes its HUB request (R44, R176; the reading is the
model's, log 6). -/
def Obligations.ManagementRowIsItsIntakeEvent : Prop :=
  ∀ (s : State) (m : Master) (tag : Byte) (op : HubOp) (i : Instr), Offered s m tag op →
    rowOf m tag op = some i → exec i s = exec .intakeTake s

/-- The rights check (R179): an operation that the master may not carry out is answered DENIED and no other field, its
parameters unexamined, and raises RIGHTS_VIOLATION with master, tag and operation code; one that it may is carried out
in the taken state. -/
def Obligations.RightsCheckDecides : Prop :=
  ∀ (s : State) (m : Master) (tag : Byte) (op : HubOp), Offered s m tag op →
    (¬ Allowed s m op → exec .intakeTake s =
      .next ((s.answered m ⟨tag, .denied, none, none, none, .none⟩).occur .rightsViolation
        { FaultFields.none with master := some m, tag := some tag, detail := some (opcode op) })) ∧
    (Allowed s m op → exec .intakeTake s = .next (perform m tag op (s.takenBy m)))

/-- IDENT (R181), STATUS-READ (R16), QUOTA-READ (R56), LANE-READ (R104), DEADLINE-READ (R113), FAULT-READ (R151),
LEVEL-READ (R159) and ACTION-READ (R148) answer their fields as they stand and change nothing else; ACTION-READ needs READ
rights. The four counts of QUOTA-READ sum to 32. That IDENT's generation stands in the answer's generation part is log 18;
that fixed fields and the 22 actions have no length byte before them, that an optional field has a presence byte, and that
a list's length counts entries is log 19; the codes of auto-retrain and contact are log 20. -/
def Obligations.ReadOperationsAnswer : Prop :=
  ∀ (s : State) (m : Master) (tag : Byte),
    let alertBytes : AlertState → List Byte := fun a =>
      let entries := [FaultClass.internal, .fabric, .link, .target].filterMap (fun c =>
        (a.pending.get c).map (fun p => [classCode c, sourceCode p.source] ++
          (match p.sequence with
            | none => [0]
            | some n => 1 :: bytes2 n)))
      [byteOf a.levels.internal.val, byteOf a.levels.fabric.val, byteOf a.levels.link.val,
        byteOf a.levels.target.val, byteOf a.floor.val, boolCode a.busy, byteOf entries.length] ++ entries.flatten
    let slotBytes : Slot → List Byte := fun v =>
      match v with
      | .free => [0, 0, 0, 0]
      | .issued q _ n t _ => [1, 1, q, 1, masterCode n, 1, idByte t]
      | .expired q n t => [2, 1, q, 1, masterCode n, 1, idByte t]
    (s.rights m ≠ .none →
      (Offered s m tag .ident → exec (.ident m tag) s =
        .next (s.answered m (answerWith tag 0x01 .ok s.generation
          ([0x04, 0xC3, 0x0A, 0x12, 2, 12, 32, 63, hubStateCode s.hub] ++ bytes4 s.timebase ++
            [linkStateCode s.portM0.link, linkStateCode s.portM1.link, rightsCode s.rightsM1])))) ∧
      (∀ target : Byte, Offered s m tag (.statusRead target) →
        (∀ t, targetId t = target.toNat → exec (.statusRead m tag target) s =
          .next (s.answered m (answerOf tag 0x06 .ok
            ([healthCode (s.record t).health, byteOf (s.record t).consecutive, byteOf (s.record t).inFlightM0,
              byteOf (s.record t).inFlightM1] ++ bytes2 (BitVec.ofNat 16 (s.record t).errors))))) ∧
        ((target.toNat < 1 ∨ 63 < target.toNat) → exec (.statusRead m tag target) s =
          .next (s.answered m (answerOf tag 0x06 .invalid [1])))) ∧
      (Offered s m tag .quotaRead →
        s.holding .m0 + s.holding .m1 + s.orphans + (32 - s.usedContexts.length) = 32 ∧
        exec (.quotaRead m tag) s =
          .next (s.answered m (answerOf tag 0x0A .ok
            [byteOf s.quotaM0, byteOf s.quotaM1, byteOf (s.holding .m0), byteOf (s.holding .m1), byteOf s.orphans,
              byteOf (32 - s.usedContexts.length)]))) ∧
      (∀ lane : Byte, Offered s m tag (.laneRead lane) →
        (∀ l : LaneId, l.val = lane.toNat →
          let x := s.lane l
          exec (.laneRead m tag lane) s = .next (s.answered m (answerOf tag 0x0C .ok
            ([laneStateCode x.state, boolCode x.enabled, boolCode (!x.autoRetrain), boolCode x.contact,
              byteOf x.stations, x.nextSeq, byteOf x.queue.length] ++
              bytes2 (BitVec.ofNat 16 (s.waitingLegs l)) ++
              slotBytes (x.slot 0) ++ slotBytes (x.slot 1) ++ slotBytes (x.slot 2) ++ slotBytes (x.slot 3))))) ∧
        (11 < lane.toNat → exec (.laneRead m tag lane) s =
          .next (s.answered m (answerOf tag 0x0C .invalid [1])))) ∧
      (Offered s m tag .deadlineRead → exec (.deadlineRead m tag) s =
        .next (s.answered m (answerOf tag 0x0E .ok
          (s.classes.toList.flatMap (fun d =>
            [byteOf d.mantissa, byteOf d.scale] ++ bytes4 (BitVec.ofNat 32 (d.mantissa * 2 ^ d.scale))) ++
            bytes4 s.timebase)))) ∧
      (Offered s m tag .faultRead → exec (.faultRead m tag) s =
        .next (s.answered m (answerOf tag 0x15 .ok
          (s.sources.toList.flatMap (fun r => [boolCode r.latch, byteOf r.count]) ++
            [byteOf s.records.length, byteOf s.lostCount] ++ bytes2 s.nextRecord)))) ∧
      (Offered s m tag .levelRead → exec (.levelRead m tag) s =
        .next (s.answered m (answerOf tag 0x18 .ok (alertBytes s.alertM0 ++ alertBytes s.alertM1)))) ∧
      (Offered s m tag .actionRead → ∃ bytes, bytes.length = 22 ∧
        (∀ x : Source, bytes[x.index.val]? = some (actionCode (s.source x).action)) ∧
        exec (.actionRead m tag) s = .next (s.answered m (answerOf tag 0x13 .ok bytes)))) ∧
    (s.rights m = .none → Offered s m tag .actionRead → exec (.actionRead m tag) s =
      .next ((s.answered m ⟨tag, .denied, none, none, none, .none⟩).occur .rightsViolation
        { FaultFields.none with master := some m, tag := some tag, detail := some 0x13 }))

/-- DIR-READ (R5): the checks of its parameters; the staged entry; the active entry; and for a corrupt active entry the
table-integrity event (R19) before the answer, which then holds the ABSENT entry (R20). -/
def Obligations.DirReadAnswersEntry : Prop :=
  ∀ (s : State) (m : Master) (tag target copy : Byte), Offered s m tag (.dirRead target copy) →
    s.rights m ≠ .none →
    ((target.toNat < 1 ∨ 63 < target.toNat) → exec (.dirRead m tag target copy) s =
      .next (s.answered m (answerOf tag 0x02 .invalid [1]))) ∧
    ∀ t, targetId t = target.toNat →
      (1 < copy.toNat → exec (.dirRead m tag target copy) s =
        .next (s.answered m (answerOf tag 0x02 .invalid [2]))) ∧
      (copy = 0 → exec (.dirRead m tag target copy) s =
        .next (s.answered m (answerWith tag 0x02 .ok s.generation (entryFields (s.stagedEntry t))))) ∧
      (copy = 1 → (s.activeEntry t).corrupt = false → exec (.dirRead m tag target copy) s =
        .next (s.answered m (answerWith tag 0x02 .ok s.generation (entryFields (s.activeEntry t).entry)))) ∧
      (copy = 1 → (s.activeEntry t).corrupt = true → exec (.dirRead m tag target copy) s =
        .next (((((s.takenBy m).setActive t ⟨.absent, false⟩).setRecord t
            { s.record t with health := .healthy, consecutive := 0 }).occur .tableParity (.ofTarget t)).fillSlot m
          (answerWith tag 0x02 .ok s.generation (entryFields .absent))))

/-- DIR-WRITE (R3, R4): the reason of the first check that fails, or the staged entry of the target ID replaced whole;
the active copy, the generation and the status records stay. -/
def Obligations.DirWriteChecksAndReplaces : Prop :=
  ∀ (s : State) (m : Master) (tag : Byte) (p : DirParams), Offered s m tag (.dirWrite p) → s.rights m = .full →
    (∀ reason, dirWriteReason p = some reason → exec (.dirWrite m tag p) s =
      .next (s.answered m (answerOf tag 0x03 .invalid [reason]))) ∧
    (dirWriteReason p = none → ∃ t e, targetId t = p.target.toNat ∧
      (if p.presence = 0 then e = .absent else EntryOf p e) ∧
      exec (.dirWrite m tag p) s = .next ((s.answered m (answerOf tag 0x03 .ok [])).setStaged t e))

/-- DISCARD (R6, R24): every staged entry whose active entry is sound becomes equal to it, the staged groups become the
active groups; an active entry that is corrupt becomes ABSENT and its staged entry stays. With no corrupt entry
nothing else changes. -/
def Obligations.DiscardCopiesActiveOverStaged : Prop :=
  ∀ (s : State) (m : Master) (tag : Byte), Offered s m tag .discard → s.rights m = .full →
    (∃ t, exec (.discard m tag) s = .next t ∧ t.stagedGroups = s.activeGroups ∧
      t.activeGroups = s.activeGroups ∧ t.generation = s.generation ∧
      ∀ i, ((s.activeEntry i).corrupt = false →
          t.stagedEntry i = (s.activeEntry i).entry ∧ t.activeEntry i = s.activeEntry i) ∧
        ((s.activeEntry i).corrupt = true →
          t.stagedEntry i = s.stagedEntry i ∧ t.activeEntry i = ⟨.absent, false⟩)) ∧
    (s.TablesSound → exec (.discard m tag) s =
      .next { s.answered m (answerOf tag 0x04 .ok []) with
        staged := s.active.map ActiveEntry.entry, stagedGroups := s.activeGroups })

/-- COMMIT accepted (R7, R9, R10): the active copies become the staged ones with fresh checks, the generation rises by
1 and wraps, SETUP becomes RUN, the records of relocated targets become HEALTHY with count 0, and the answer carries
the new generation. -/
def Obligations.CommitMakesStagedActive : Prop :=
  ∀ (s : State) (m : Master) (tag : Byte), Offered s m tag .commit → s.rights m = .full →
    (∀ t, (s.stagedEntry t).present = true → (s.stagedEntry t).base.toNat + (s.stagedEntry t).length ≤ 1048576) →
    (∀ t u, t ≠ u → (s.stagedEntry t).present = true → (s.stagedEntry u).present = true →
      ¬ ((s.stagedEntry t).lane = (s.stagedEntry u).lane ∧ (s.stagedEntry t).station = (s.stagedEntry u).station)) →
    (∀ t (g : Group), (s.stagedEntry t).present = true → g ∈ (s.stagedEntry t).memberships →
      s.stagedGroups[g].enabled = true) →
    ∃ status : Vector TargetRecord 63,
      exec (.commit m tag) s =
        .next { s.answered m (answerWith tag 0x05 .ok (s.generation + 1) []) with
          active := s.staged.map (fun e => ⟨e, false⟩), activeGroups := s.stagedGroups,
          generation := s.generation + 1, hub := if s.hub = .setup then .run else s.hub, status := status } ∧
      ∀ t : Target,
        let old := (s.activeEntry t).entry
        let new := s.stagedEntry t
        let relocated : Prop := old.present ≠ new.present ∨
          (old.present = true ∧ new.present = true ∧ (old.lane ≠ new.lane ∨ old.station ≠ new.station))
        (relocated → status[t] = { s.record t with health := .healthy, consecutive := 0 }) ∧
        (¬ relocated → status[t] = s.record t)

/-- COMMIT rejected (R7, R8): the first check that fails, with the lowest target ID that offends, is answered INVALID and
raises COMMIT_REJECTED; nothing else changes. -/
def Obligations.CommitRejectedNamesFirstFault : Prop :=
  ∀ (s : State) (m : Master) (tag : Byte), Offered s m tag .commit → s.rights m = .full →
    let passes : Target → Prop := fun t =>
      (s.stagedEntry t).present = true ∧ 1048576 < (s.stagedEntry t).base.toNat + (s.stagedEntry t).length
    let shares : Target → Prop := fun t => (s.stagedEntry t).present = true ∧ ∃ u, u ≠ t ∧
      (s.stagedEntry u).present = true ∧ (s.stagedEntry u).lane = (s.stagedEntry t).lane ∧
      (s.stagedEntry u).station = (s.stagedEntry t).station
    let names : Target → Prop := fun t => (s.stagedEntry t).present = true ∧
      ∃ g : Group, g ∈ (s.stagedEntry t).memberships ∧ s.stagedGroups[g].enabled = false
    let rejected : Byte → Target → Prop := fun check t => exec (.commit m tag) s =
      .next ((s.answered m (answerOf tag 0x05 .invalid [check, idByte t])).occur .commitRejected
        { FaultFields.none with master := some m, target := some t, detail := some check })
    (∀ t, Least passes t → rejected 1 t) ∧
    ((∀ u, ¬ passes u) → ∀ t, Least shares t → rejected 2 t) ∧
    ((∀ u, ¬ passes u) → (∀ u, ¬ shares u) → ∀ t, Least names t → rejected 3 t)

/-- GROUP-READ (R23; group 15 as R25 derives it, without a generation: log 21) and GROUP-WRITE (R22), with the checks of
their parameters. -/
def Obligations.GroupReadAndWrite : Prop :=
  ∀ (s : State) (m : Master) (tag group : Byte),
    (∀ copy : Byte, Offered s m tag (.groupRead group copy) → s.rights m ≠ .none →
      let answers : Response → Prop := fun a => exec (.groupRead m tag group copy) s = .next (s.answered m a)
      (15 < group.toNat → answers (answerOf tag 0x08 .invalid [1])) ∧
      (group.toNat ≤ 15 → 1 < copy.toNat → answers (answerOf tag 0x08 .invalid [2])) ∧
      (group = 15 → copy.toNat ≤ 1 → answers (answerOf tag 0x08 .ok
        [1, 2, match s.rightsM1 with | .full => 2 | .read => 1 | .none => 0])) ∧
      ∀ g : Group, g.val = group.toNat →
        (copy = 0 → answers (answerWith tag 0x08 .ok s.generation
          [boolCode s.stagedGroups[g].enabled, accessCode s.stagedGroups[g].rightsM0,
            accessCode s.stagedGroups[g].rightsM1])) ∧
        (copy = 1 → answers (answerWith tag 0x08 .ok s.generation
          [boolCode s.activeGroups[g].enabled, accessCode s.activeGroups[g].rightsM0,
            accessCode s.activeGroups[g].rightsM1]))) ∧
    ∀ enabled rightsM0 rightsM1 : Byte, Offered s m tag (.groupWrite group enabled rightsM0 rightsM1) →
      s.rights m = .full →
      let refused : Byte → Prop := fun reason => exec (.groupWrite m tag group enabled rightsM0 rightsM1) s =
        .next (s.answered m (answerOf tag 0x09 .invalid [reason]))
      (14 < group.toNat → refused 1) ∧
      (group.toNat ≤ 14 → 1 < enabled.toNat → refused 2) ∧
      (group.toNat ≤ 14 → enabled.toNat ≤ 1 → 2 < rightsM0.toNat → refused 3) ∧
      (group.toNat ≤ 14 → enabled.toNat ≤ 1 → rightsM0.toNat ≤ 2 → 2 < rightsM1.toNat → refused 4) ∧
      ∀ (g : Group) (e : GroupEntry), g.val = group.toNat → boolCode e.enabled = enabled →
        accessCode e.rightsM0 = rightsM0 → accessCode e.rightsM1 = rightsM1 →
        exec (.groupWrite m tag group enabled rightsM0 rightsM1) s =
          .next { s.answered m (answerOf tag 0x09 .ok []) with stagedGroups := s.stagedGroups.set g e }

/-- QUOTA-WRITE (R55), DEADLINE-WRITE (R112) and ACTION-WRITE (R147): the reason of the first check that fails, or the one
setting replaced. -/
def Obligations.QuotaDeadlineAndActionWritten : Prop :=
  ∀ (s : State) (m : Master) (tag : Byte), s.rights m = .full →
    (∀ q0 q1 : Byte, Offered s m tag (.quotaWrite q0 q1) →
      let becomes : State → Prop := fun t => exec (.quotaWrite m tag q0 q1) s = .next t
      ((32 < q0.toNat ∨ 32 < q1.toNat) → becomes (s.answered m (answerOf tag 0x0B .invalid [1]))) ∧
      (q0.toNat ≤ 32 → q1.toNat ≤ 32 → 32 < q0.toNat + q1.toNat →
        becomes (s.answered m (answerOf tag 0x0B .invalid [2]))) ∧
      (q0.toNat + q1.toNat ≤ 32 → becomes
        { s.answered m (answerOf tag 0x0B .ok []) with quotaM0 := q0.toNat, quotaM1 := q1.toNat })) ∧
    (∀ cls mantissa scale : Byte, Offered s m tag (.deadlineWrite cls mantissa scale) →
      let becomes : State → Prop := fun t => exec (.deadlineWrite m tag cls mantissa scale) s = .next t
      (3 < cls.toNat → becomes (s.answered m (answerOf tag 0x0F .invalid [1]))) ∧
      (cls.toNat ≤ 3 → mantissa = 0 → becomes (s.answered m (answerOf tag 0x0F .invalid [2]))) ∧
      (cls.toNat ≤ 3 → mantissa ≠ 0 → 12 < scale.toNat →
        becomes (s.answered m (answerOf tag 0x0F .invalid [3]))) ∧
      (mantissa ≠ 0 → scale.toNat ≤ 12 → ∀ c : ClassId, c.val = cls.toNat → becomes
        { s.answered m (answerOf tag 0x0F .ok
            (bytes4 (BitVec.ofNat 32 (mantissa.toNat * 2 ^ scale.toNat)))) with
          classes := s.classes.set c ⟨mantissa.toNat, scale.toNat⟩ })) ∧
    ∀ source action : Byte, Offered s m tag (.actionWrite source action) →
      let becomes : State → Prop := fun t => exec (.actionWrite m tag source action) s = .next t
      ((source.toNat < 1 ∨ 22 < source.toNat) → becomes (s.answered m (answerOf tag 0x14 .invalid [1]))) ∧
      (1 ≤ source.toNat → source.toNat ≤ 22 → 4 < action.toNat →
        becomes (s.answered m (answerOf tag 0x14 .invalid [2]))) ∧
      ∀ (x : Source) (a : Action), sourceCode x = source → actionCode a = action → becomes
        ((s.answered m (answerOf tag 0x14 .ok [])).setSource x { s.source x with action := a })

/-- RIGHTS-WRITE (R180), RESUME (R178) and REVIVE (R17). -/
def Obligations.RightsResumeAndRevive : Prop :=
  ∀ (s : State) (m : Master) (tag : Byte),
    (∀ rights : Byte, Offered s .m0 tag (.rightsWrite rights) →
      (2 < rights.toNat → exec (.rightsWrite .m0 tag rights) s =
        .next (s.answered .m0 (answerOf tag 0x1B .invalid [1]))) ∧
      ∀ v : Rights, rightsCode v = rights → exec (.rightsWrite .m0 tag rights) s =
        .next { s.answered .m0 (answerOf tag 0x1B .ok []) with rightsM1 := v }) ∧
    (Offered s m tag .resume → s.rights m = .full → exec (.resume m tag) s =
      .next { s.answered m (answerOf tag 0x1C .ok []) with hub := if s.hub = .halted then .run else s.hub }) ∧
    ∀ target : Byte, Offered s m tag (.revive target) → s.rights m = .full →
      ((target.toNat < 1 ∨ 63 < target.toNat) → exec (.revive m tag target) s =
        .next (s.answered m (answerOf tag 0x07 .invalid [1]))) ∧
      ∀ t, targetId t = target.toNat → exec (.revive m tag target) s =
        .next ((s.answered m (answerOf tag 0x07 .ok [])).setRecord t
          { s.record t with health := .healthy, consecutive := 0 })

/-- LANE-CONTROL in each lane state (the table of R102): what becomes of the lane and which status is answered. A lane
number above 11 is INVALID with reason 1, an action that does not exist with reason 2. The ending of the lane's work
(R100) and the fence (R101) stand by name; what they do to the lane and to every leg is LaneEndingsEndTheirLegs. AUTO-ON
and AUTO-OFF are AutoRetrainSetting. The model's choice is what becomes of frames that wait for the lane's line, which
`startedTraining` and `quiet` give up, and of a first HELLO on a busy line, which waits (logs 9 and 13), and that a lane's
receiver hunts once it is DISABLED (log 14). -/
def Obligations.LaneControlFollowsItsTable : Prop :=
  ∀ (s : State) (m : Master) (tag lane : Byte), s.rights m = .full →
    let code : Byte := 0x0D
    let refused : Instr → Prop := fun i =>
      11 < lane.toNat → exec i s = .next (s.answered m (answerOf tag code .invalid [1]))
    let does : Instr → State → Status → Prop := fun i u status =>
      exec i s = .next (u.fillSlot m (answerOf tag code status []))
    let u := s.takenBy m
    let trained : State → LaneId → State := fun v l => v.setLane l ((v.lane l).startedTraining v.timebase)
    let disabled : State → LaneId → State := fun v l =>
      v.setLane l { (v.lane l).quiet .disabled none with enabled := false, receiver := .hunting }
    (Offered s m tag (.laneControl lane 0) → refused (.retrain m tag lane) ∧ ∀ l : LaneId, l.val = lane.toNat →
      match (s.lane l).state with
      | .disabled => does (.retrain m tag lane) u .ok
      | .fenced => does (.retrain m tag lane) u .conflict
      | .up => does (.retrain m tag lane) (trained (u.endLaneWork l) l) .ok
      | .training | .down => does (.retrain m tag lane) (trained u l) .ok) ∧
    (Offered s m tag (.laneControl lane 1) → refused (.fence m tag lane) ∧ ∀ l : LaneId, l.val = lane.toNat →
      match (s.lane l).state with
      | .disabled => does (.fence m tag lane) u .conflict
      | .fenced => does (.fence m tag lane) u .ok
      | .up => does (.fence m tag lane) (u.fenceLane l) .ok
      | .training => does (.fence m tag lane) (u.setLane l ((s.lane l).quiet .fenced (s.lane l).retryTime)) .ok
      | .down => does (.fence m tag lane) (u.setLane l ((s.lane l).quiet .fenced none)) .ok) ∧
    (Offered s m tag (.laneControl lane 2) → refused (.unfence m tag lane) ∧ ∀ l : LaneId, l.val = lane.toNat →
      match (s.lane l).state with
      | .fenced => does (.unfence m tag lane) (trained (u.endLaneWork l) l) .ok
      | .disabled | .training | .up | .down => does (.unfence m tag lane) u .ok) ∧
    (Offered s m tag (.laneControl lane 3) → refused (.enable m tag lane) ∧ ∀ l : LaneId, l.val = lane.toNat →
      match (s.lane l).state with
      | .disabled => does (.enable m tag lane) (trained (u.setLane l { s.lane l with enabled := true }) l) .ok
      | .fenced | .training | .up | .down => does (.enable m tag lane) u .ok) ∧
    (Offered s m tag (.laneControl lane 4) → refused (.disable m tag lane) ∧ ∀ l : LaneId, l.val = lane.toNat →
      match (s.lane l).state with
      | .disabled => does (.disable m tag lane) u .ok
      | .down => does (.disable m tag lane) (disabled u l) .ok
      | .training | .up | .fenced => does (.disable m tag lane) (disabled (u.endLaneWork l) l) .ok) ∧
    ∀ action : Byte, 6 < action.toNat → Offered s m tag (.laneControl lane action) →
      exec .intakeTake s =
        .next (s.answered m (answerOf tag code .invalid [if 11 < lane.toNat then 1 else 2]))

/-- AUTO-ON and AUTO-OFF (R103): the setting, and in DOWN its effect on the retry time. A lane number above 11 is INVALID
with reason 1 and changes nothing else (R102). -/
def Obligations.AutoRetrainSetting : Prop :=
  ∀ (s : State) (m : Master) (tag lane : Byte), s.rights m = .full →
    let refused : Instr → Prop := fun i =>
      11 < lane.toNat → exec i s = .next (s.answered m (answerOf tag 0x0D .invalid [1]))
    let becomes : Instr → LaneId → Lane → Prop := fun i l x =>
      exec i s = .next ((s.answered m (answerOf tag 0x0D .ok [])).setLane l x)
    (Offered s m tag (.laneControl lane 5) → refused (.autoOn m tag lane) ∧ ∀ l : LaneId, l.val = lane.toNat →
      let x := s.lane l
      (x.state ≠ .down → becomes (.autoOn m tag lane) l { x with autoRetrain := true }) ∧
      (x.state = .down → x.retryTime = none → becomes (.autoOn m tag lane) l
        { x with autoRetrain := true, retryTime := some (s.timebase + 100000) }) ∧
      (x.state = .down → x.retryTime ≠ none → becomes (.autoOn m tag lane) l { x with autoRetrain := true })) ∧
    (Offered s m tag (.laneControl lane 6) → refused (.autoOff m tag lane) ∧ ∀ l : LaneId, l.val = lane.toNat →
      let x := s.lane l
      (x.state ≠ .down → becomes (.autoOff m tag lane) l { x with autoRetrain := false }) ∧
      (x.state = .down → becomes (.autoOff m tag lane) l { x with autoRetrain := false, retryTime := none }))

/-- A CLAIM: its parameters are checked in the order of R123, and one refused INVALID creates no record. With good
parameters it follows the checks of R124 over the members of R125, and else creates a record in the lowest-numbered free
one, HELD with its answer when the other master has nothing in flight to the members (R126 to R128), and DRAINING without
an answer when it has. The active entries of its scope are read first: each one found corrupt has its table-integrity
event and is no member (R18 to R20); over sound tables that reading changes nothing. -/
def Obligations.ClaimFollowsItsChecks : Prop :=
  ∀ (s : State) (m : Master) (tag kind number : Byte) (lease drain : BitVec 16),
    Offered s m tag (.claim kind number lease drain) →
    let becomes : State → Prop := fun t => exec (.claim m tag kind number lease drain) s = .next t
    let refused : Byte → Prop := fun reason => becomes (s.answered m (answerOf tag 0x10 .invalid [reason]))
    let outOfRange : Prop :=
      (kind = 0 ∧ (number.toNat < 1 ∨ 63 < number.toNat)) ∨ (kind = 1 ∧ 15 < number.toNat)
    (1 < kind.toNat → refused 1) ∧ (outOfRange → refused 2) ∧
    (kind.toNat ≤ 1 → ¬ outOfRange → (drain.toNat < 1 ∨ 1000 < drain.toNat) → refused 3) ∧
    (((kind = 0 ∧ 1 ≤ number.toNat ∧ number.toNat ≤ 63) ∨ (kind = 1 ∧ number.toNat ≤ 15)) →
      1 ≤ drain.toNat → drain.toNat ≤ 1000 →
      let found := (s.takenBy m).readAll
        (if kind = 0 then allTargets.filter (fun t => targetId t = number.toNat) else allTargets)
      let members := found.scopeMembers kind number
      let answers : Status → List Byte → Prop := fun status bytes =>
        becomes (found.fillSlot m (answerWith tag 0x10 status s.generation bytes))
      let writes : Prop := ∀ t ∈ members, ((found.activeEntry t).entry.access m) = .readWrite
      let heldBy : Master → Prop := fun w => ∃ t ∈ members, s.Claimed w t
      (s.hub = .setup → becomes (s.answered m (answerWith tag 0x10 .notReady s.generation []))) ∧
      (s.TablesSound → found = s.takenBy m ∧ members = s.scopeMembers kind number ∧
        ∀ a, found.fillSlot m a = s.answered m a) ∧
      (s.hub ≠ .setup →
        (members = [] → answers .empty []) ∧
        (∀ t, Least (fun t => t ∈ members ∧ ((found.activeEntry t).entry.access m) ≠ .readWrite) t →
          answers .denied [idByte t]) ∧
        (members ≠ [] → writes → ∀ t k, Least (fun t => t ∈ members ∧ s.Claimed m.other t) t →
          Least (fun k => ∃ c, s.claim k = some c ∧ c.owner = m.other ∧ t ∈ c.members) k →
          answers .conflict [idByte t, byteOf k.val]) ∧
        (members ≠ [] → writes → ¬ heldBy m.other → ∀ t k, Least (fun t => t ∈ members ∧ s.Claimed m t) t →
          Least (fun k => ∃ c, s.claim k = some c ∧ c.owner = m ∧ t ∈ c.members) k →
          answers .overlap [idByte t, byteOf k.val]) ∧
        (members ≠ [] → writes → ¬ heldBy m.other → ¬ heldBy m →
          ((∀ k, s.claim k ≠ none) → answers .busy []) ∧
          ∀ k, Least (fun k => s.claim k = none) k →
            ((∀ t ∈ members, s.inFlight m.other t = 0) →
              becomes ((found.fillSlot m (answerWith tag 0x10 .ok s.generation
                  (byteOf k.val :: byteOf members.length :: members.map idByte))).setClaim k
                (some ⟨m, members, lease,
                  .held (if lease = 0 then none
                    else some (s.timebase + BitVec.ofNat 32 (lease.toNat * 1000))), s.generation⟩))) ∧
            ((∃ t ∈ members, s.inFlight m.other t ≠ 0) →
              becomes (found.setClaim k
                (some ⟨m, members, lease,
                  .draining tag (s.timebase + BitVec.ofNat 32 (drain.toNat * 1000)), s.generation⟩))))))

/-- RENEW (the table of R133) and RELEASE (R134). -/
def Obligations.RenewAndReleaseOwnClaims : Prop :=
  ∀ (s : State) (m : Master) (tag claimId : Byte),
    (Offered s m tag (.renew claimId) →
      let becomes : State → Prop := fun t => exec (.renew m tag claimId) s = .next t
      let plain : Status → State := fun status => s.answered m (answerOf tag 0x11 status [claimId, 0])
      (7 < claimId.toNat → becomes (s.answered m (answerOf tag 0x11 .invalid [1]))) ∧
      ∀ k : ClaimId, k.val = claimId.toNat →
        ((∀ c, s.claim k = some c → c.owner ≠ m) → becomes (plain .noRecord)) ∧
        ∀ c, s.claim k = some c → c.owner = m →
          (∀ t d, c.state = .draining t d → becomes (plain .ok)) ∧
          (∀ d, c.state = .held d → c.lease = 0 →
            becomes ((plain .ok).setClaim k (some { c with state := .held none }))) ∧
          (∀ d, c.state = .held d → c.lease ≠ 0 →
            let deadline := s.timebase + BitVec.ofNat 32 (c.lease.toNat * 1000)
            becomes ((s.answered m (answerOf tag 0x11 .ok (claimId :: 1 :: bytes4 deadline))).setClaim k
              (some { c with state := .held (some deadline) })))) ∧
    (Offered s m tag (.release claimId) →
      let becomes : State → Prop := fun t => exec (.release m tag claimId) s = .next t
      (7 < claimId.toNat → becomes (s.answered m (answerOf tag 0x12 .invalid [1]))) ∧
      ∀ k : ClaimId, k.val = claimId.toNat →
        ((∀ c, s.claim k = some c → c.owner ≠ m) → becomes (s.answered m (answerOf tag 0x12 .noRecord []))) ∧
        ∀ c, s.claim k = some c → c.owner = m →
          (∀ d, c.state = .held d → becomes ((s.answered m (answerOf tag 0x12 .ok [])).setClaim k none)) ∧
          (∀ t d, c.state = .draining t d → becomes
            ((((s.takenBy m).setClaim k none).fillSlot m (answerOf t 0x10 .cancelled [])).fillSlot m
              (answerOf tag 0x12 .ok []))))

/-- FAULT-POP (R150) and FAULT-CLEAR (R152). -/
def Obligations.FaultPopAndClear : Prop :=
  ∀ (s : State) (m : Master) (tag : Byte), s.rights m = .full →
    (Offered s m tag .faultPop →
      (s.records = [] → exec (.faultPop m tag) s =
        .next (s.answered m (answerOf tag 0x16 .noRecord [byteOf s.lostCount]))) ∧
      (∀ r rest, s.records = r :: rest → exec (.faultPop m tag) s =
        .next { s.answered m (answerOf tag 0x16 .ok (faultRecordFields r ++ [byteOf s.lostCount])) with
          records := rest, lostCount := 0 })) ∧
    ∀ sources : BitVec 24, Offered s m tag (.faultClear sources) →
      ((sources.getLsbD 0 = true ∨ sources.getLsbD 23 = true) → exec (.faultClear m tag sources) s =
        .next (s.answered m (answerOf tag 0x17 .invalid [1]))) ∧
      (sources.getLsbD 0 = false → sources.getLsbD 23 = false → ∃ after : Vector SourceRecord 22,
        exec (.faultClear m tag sources) s =
          .next { s.answered m (answerOf tag 0x17 .ok []) with sources := after } ∧
        ∀ i : Fin 22, after[i] =
          if sources.getLsbD (i.val + 1) = true then { s.sources[i] with latch := false, count := 0 }
          else s.sources[i])

/-- LEVEL-WRITE (R158) replaces the levels and the floor of the named master and tests R155; ALERT-ACK (R157) frees a
BUSY window, withdraws an unsent ALERT and tests R155, and answers NO_RECORD on a FREE one. -/
def Obligations.LevelWriteAndAlertAck : Prop :=
  ∀ (s : State) (m : Master) (tag : Byte),
    (∀ master internal fabric link target floor : Byte,
      Offered s m tag (.levelWrite master internal fabric link target floor) → s.rights m = .full →
      (m = .m1 → master = 1) →
      let becomes : State → Prop := fun t =>
        exec (.levelWrite m tag master internal fabric link target floor) s = .next t
      let levelsOk : Prop := internal.toNat ≤ 3 ∧ fabric.toNat ≤ 3 ∧ link.toNat ≤ 3 ∧ target.toNat ≤ 3
      (1 < master.toNat → becomes (s.answered m (answerOf tag 0x19 .invalid [1]))) ∧
      (master.toNat ≤ 1 → ¬ levelsOk → becomes (s.answered m (answerOf tag 0x19 .invalid [2]))) ∧
      (master.toNat ≤ 1 → levelsOk → 3 < floor.toNat →
        becomes (s.answered m (answerOf tag 0x19 .invalid [3]))) ∧
      ∀ (w : Master) (i f l t fl : Fin 4), masterCode w = master → i.val = internal.toNat →
        f.val = fabric.toNat → l.val = link.toNat → t.val = target.toNat → fl.val = floor.toNat →
        becomes ((((s.takenBy m).setAlert w
          { s.alert w with levels := ⟨i, f, l, t⟩, floor := fl }).testAlert w).fillSlot m
            (answerOf tag 0x19 .ok []))) ∧
    (Offered s m tag .alertAck →
      ((s.alert m).busy = false → exec (.alertAck m tag) s =
        .next (s.answered m (answerOf tag 0x1A .noRecord []))) ∧
      ((s.alert m).busy = true → exec (.alertAck m tag) s =
        .next (((((s.takenBy m).setAlert m { s.alert m with busy := false }).setPort m
          { (s.takenBy m).port m with alertReady := none }).testAlert m).fillSlot m
            (answerOf tag 0x1A .ok []))))

/-- FABRIC-RESET (R182, R183): every context and claim is free, every queue and window empty and every enabled lane
TRAINING, every in-flight count 0, both response queues emptied but for the answer, buffers discarded with their credit
owed, alerts cleared, NOTICE pending on an UP link, HALTED becomes RUN; the configuration and the record of what happened
are kept. The Lane Engines take their parts with the others, or after them (R80): which of the two is a free value (log
33; that the twelve take them together is the model's choice there), and the second state below is the one after their parts. A NOTICE that was already pending is set anew, with the
generation now (log 26). The model's choice is also that the retrained lanes give up LEG-OUT and IDLE frames that wait for
the line, and that the first HELLO waits on a busy line (logs 9 and 13). -/
def Obligations.FabricResetClearsTraffic : Prop :=
  ∀ (s : State) (m : Master) (tag : Byte), Offered s m tag .fabricReset → s.rights m = .full →
    ∃ t u, exec (.fabricReset m tag) s = .next t ∧
      ((t.phase = .running ∧ u = t) ∨
        (t.phase = .resetting s.contexts ∧ t.lanes = s.lanes ∧
          u = { t with phase := .running, lanes := t.lanes.map (Lane.afterReset t.timebase) })) ∧
      (∀ c, t.ctx c = none) ∧ (∀ k, t.claim k = none) ∧
      (∀ i, t.record i = { s.record i with inFlightM0 := 0, inFlightM1 := 0 }) ∧
      (∀ l, u.lane l = (s.lane l).afterReset s.timebase ∧
        (u.lane l).queue = [] ∧ (∀ w, (u.lane l).slot w = .free) ∧
        (u.lane l).state = (if (s.lane l).state = .disabled then .disabled else .training) ∧
        (u.lane l).enabled = (s.lane l).enabled ∧ (u.lane l).autoRetrain = (s.lane l).autoRetrain ∧
        (u.lane l).nextSeq = (s.lane l).nextSeq ∧ (u.lane l).stations = (s.lane l).stations) ∧
      (∀ w, t.alert w = { s.alert w with pending := ⟨none, none, none, none⟩, busy := false }) ∧
      (t.port m).filled = [answerWith tag 0x1D .ok s.generation []] ∧ (t.port m.other).filled = [] ∧
      (∀ w, (t.port w).reserved = 0 ∧ (t.port w).buffer = [] ∧ (t.port w).alertReady = none ∧
        (t.port w).creditsOwed = (s.port w).creditsOwed + (s.port w).buffer.length ∧
        (t.port w).notice = (if (s.port w).link = .up then some ⟨s.generation, s.timebase⟩ else none) ∧
        (t.port w).link = (s.port w).link ∧ (t.port w).requestCredit = (s.port w).requestCredit ∧
        (t.port w).responseCredit = (s.port w).responseCredit) ∧
      t.hub = (if s.hub = .halted then .run else s.hub) ∧ t.roundRobin = m.other ∧
      t.staged = s.staged ∧ t.active = s.active ∧ t.generation = s.generation ∧
      t.stagedGroups = s.stagedGroups ∧ t.activeGroups = s.activeGroups ∧ t.classes = s.classes ∧
      t.sources = s.sources ∧ t.records = s.records ∧ t.lostCount = s.lostCount ∧
      t.nextRecord = s.nextRecord ∧ t.quotaM0 = s.quotaM0 ∧ t.quotaM1 = s.quotaM1 ∧
      t.rightsM1 = s.rightsM1 ∧ t.admission = s.admission ∧ t.timebase = s.timebase

/-- Between the parts of a fabric reset every context is FREE: a completion, a TIMEOUT with its outcome and a fall that come
from a Lane Engine are discarded, and the fault is raised all the same, without a tag (R80). An answer frees its slot, an
expired slot stays EXPIRED, a lane that is lost or restarts changes no context and no Target Status record and raises
LANE_LOST. The model's choices are that a LEG-BACK is compared with the contexts kept from before the reset (log 26) and,
in the lanes' own parts, what becomes of frames that wait for the line (logs 9 and 13). Any other
command finds the Lane Engines' parts done (R183; that it waits for them, and that the twelve go together, is log 33). -/
def Obligations.EventsBetweenResetPartsAreDiscarded : Prop :=
  ∀ (s : State) (before : Vector (Option Ctx) 32), s.phase = .resetting before → (∀ c, s.ctx c = none) →
    (∀ (l : LaneId) (f : LegBackFrame), (s.lane l).state ≠ .disabled → (s.lane l).receiver = .hunting →
      f.rest.length ≤ 1016 → legBackLengthOk f = true →
      let heard : Lane := { s.lane l with
        lastReceived := if (s.lane l).contact = true then some s.timebase else (s.lane l).lastReceived }
      let becomes : State → Prop := fun t => exec (.legBack l f) s = .next t
      (∀ w c m t d x g, Least (fun w => ∃ c m t d, (s.lane l).slot w = .issued f.seq c m t d) w →
        (s.lane l).slot w = .issued f.seq c m t d → before[c] = some x → x.leg t = some g →
        let u := s.setLane l (heard.setSlot w .free)
        let fields : FaultFields :=
          { lane := some l, target := some t, master := some m, tag := none, detail := none }
        let same : Prop := f.station.toNat = g.station.val ∧ f.op = legOpCode x.legOp
        (same → f.error = false → f.arg.toNat = x.count → becomes u) ∧
        (same → f.error = true → f.arg ≠ 0 → becomes (u.occur .targetError { fields with detail := some f.arg })) ∧
        (¬ (same ∧ ((f.error = false ∧ f.arg.toNat = x.count) ∨ (f.error = true ∧ f.arg ≠ 0))) →
          becomes (u.occur .badResponse fields))) ∧
      ((∀ w c m t d, (s.lane l).slot w ≠ .issued f.seq c m t d) →
        (∀ w m t, Least (fun w => ∃ m t, (s.lane l).slot w = .expired f.seq m t) w →
          (s.lane l).slot w = .expired f.seq m t →
          becomes ((s.setLane l (heard.setSlot w .free)).occur .lateResponse
            { FaultFields.none with lane := some l, target := some t })) ∧
        ((∀ w m t, (s.lane l).slot w ≠ .expired f.seq m t) →
          becomes ((s.setLane l heard).occur .strayResponse (.ofLane l))))) ∧
    (∀ (l : LaneId) (w : SlotId), (∀ q c m t, (s.lane l).slot w ≠ .issued q c m t s.timebase) →
      exec (.legExpiry l w) s = .next s) ∧
    (∀ (l : LaneId) (w : SlotId) q c m t, (s.lane l).slot w = .issued q c m t s.timebase →
      let u := (s.setLane l ((s.lane l).setSlot w (.expired q m t))).occur .legTimeout
        { lane := some l, target := some t, master := some m, tag := none, detail := none }
      let stalls : Prop := ∀ v, v ≠ w → ∃ p n i, (s.lane l).slot v = .expired p n i
      (stalls → exec (.legExpiry l w) s = .next (u.occur .laneStalled (.ofLane l))) ∧
      (¬ stalls → exec (.legExpiry l w) s = .next u)) ∧
    (∀ (l : LaneId) (i : Instr), (i = .laneLoss l ∨ ∃ stations, i = .deviceHello l stations) →
      ∃ t, exec i s = .next t ∧ t.contexts = s.contexts ∧ t.status = s.status ∧ t.claims = s.claims ∧
        (∀ j, j ≠ l → t.lane j = s.lane j) ∧ s.SameSettings t ∧
        ((s.lane l).contact = true → ((s.lane l).state = .up ∨ (s.lane l).state = .fenced) →
          (i = .laneLoss l → s.Arrived (s.lane l).lastReceived 1000) → (t.source .laneLost).latch = true)) ∧
    ∀ i : Instr, (∀ l f, i ≠ .legBack l f) → (∀ l w, i ≠ .legExpiry l w) → (∀ l, i ≠ .laneLoss l) →
      (∀ l stations, i ≠ .deviceHello l stations) → i ≠ .resetNRise → i ≠ .startUpHoldEnd →
      exec i s = exec i { s with phase := .running, lanes := s.lanes.map (Lane.afterReset s.timebase) }

/-! ## The Lane Engines -/

/-- The two endings of a lane's work. The lane-wide ending (R100) empties the queue, frees every slot and ends every
unfinished leg on the lane LANE_DOWN; each EXPIRED slot it frees lowers the in-flight count it recorded, too (R14). A fence
(R101) of an UP lane ends its QUEUED and PENDING legs FENCED and keeps the window, the ISSUED legs with it; of a TRAINING or
DOWN lane it ends the training or the retry; a FENCED and a DISABLED lane it leaves. A context left with no unfinished leg
is FREE, each leg ended lowers its master's in-flight count of its target (R61, R68, R72), and nothing else of a Target
Status record, no other lane, no entry, fault or setting changes. Each ACTIVE context so left builds its response (R68 to
R70), which joins the filled slots with the answers of the claims granted by the falls (R128), and nothing else does; as
many are filled as slots are reserved, of which the intake keeps one for each (R170, log 28). Their order is log 25's and
not stated. That the fence of an UP lane keeps the frames that wait for its line, while a lane that stops training or
retrying gives them up, is the model's choice (log 9). -/
def Obligations.LaneEndingsEndTheirLegs : Prop :=
  ∀ (s : State) (l : LaneId),
    let x := s.lane l
    let apart : State → Prop := fun u =>
      (∀ i, i ≠ l → u.lane i = s.lane i) ∧ u.active = s.active ∧ u.hub = s.hub ∧ u.sources = s.sources ∧
        u.records = s.records ∧ u.alertM0 = s.alertM0 ∧ u.alertM1 = s.alertM1 ∧ s.SameSettings u ∧
        ∀ t, (u.record t).health = (s.record t).health ∧ (u.record t).consecutive = (s.record t).consecutive ∧
          (u.record t).errors = (s.record t).errors
    (apart (s.endLaneWork l) ∧
      (s.endLaneWork l).lane l = { x with queue := [], window := Vector.replicate 4 .free }) ∧
    (apart (s.fenceLane l) ∧ (s.fenceLane l).lane l =
      match x.state with
      | .up => { x with state := .fenced, queue := [] }
      | .training => x.quiet .fenced x.retryTime
      | .down => x.quiet .fenced none
      | .fenced | .disabled => x) ∧
    (x.state ≠ .up → (s.fenceLane l).contexts = s.contexts ∧ (s.fenceLane l).status = s.status) ∧
    (s.LegsPlaced → s.resetDue = false →
      let onLane : Leg → Bool := fun g => g.lane == l
      let unsent : Leg → Bool := fun g => g.lane == l && g.state != .issued
      let ended : (Leg → Bool) → Master → Target → Nat := fun gone m t =>
        s.contextsWith (fun c g => c.master == m && g.target == t && g.unfinished && gone g)
      (s.LegsEnd (s.endLaneWork l) onLane .laneDown ∧ s.LegsAnswered (s.endLaneWork l) onLane .laneDown ∧
        ∀ m t, (s.endLaneWork l).inFlight m t = s.inFlight m t - (ended onLane m t + x.expiredFor m t)) ∧
      (x.state = .up → s.LegsEnd (s.fenceLane l) unsent .fenced ∧ s.LegsAnswered (s.fenceLane l) unsent .fenced ∧
        ∀ m t, (s.fenceLane l).inFlight m t = s.inFlight m t - ended unsent m t))

/-- A LEG-BACK whose number an ISSUED slot holds ends that slot's leg: OK with its data, TARGET_ERROR with its fault, or
BAD_RESPONSE with its fault when it does not match (R95, R96); the slot becomes FREE. A LEG-BACK of wrong length is
FRAME_MALFORMED (R90). One too long to be handed on, and a receiver that holds a collection, are in IdleAndBadFrames. -/
def Obligations.LegBackEndsItsLeg : Prop :=
  ∀ (s : State) (l : LaneId) (f : LegBackFrame), s.phase = .running → (s.lane l).state ≠ .disabled →
    (s.lane l).receiver = .hunting → f.rest.length ≤ 1016 →
    (legBackLengthOk f = false → exec (.legBack l f) s = .next (s.occur .frameMalformed (.ofLane l))) ∧
    (legBackLengthOk f = true → ∀ (w : SlotId) (c : CtxId) (m : Master) (t : Target) (d : Time) (x : Ctx) (g : Leg),
      Least (fun w => ∃ c m t d, (s.lane l).slot w = .issued f.seq c m t d) w →
      (s.lane l).slot w = .issued f.seq c m t d → s.ctx c = some x → x.leg t = some g →
      let heard : Lane := { s.lane l with
        lastReceived := if (s.lane l).contact = true then some s.timebase else (s.lane l).lastReceived }
      let u := s.setLane l (heard.setSlot w .free)
      let words := readWords f.rest
      let fields : FaultFields :=
        { lane := some l, target := some t, master := some m, tag := x.tag, detail := none }
      let same : Prop := f.station.toNat = g.station.val ∧ f.op = legOpCode x.legOp
      (same → f.error = false → f.arg.toNat = x.count → exec (.legBack l f) s =
        .next (u.complete ⟨c, t⟩ .ok words)) ∧
      (same → f.error = true → f.arg ≠ 0 → exec (.legBack l f) s =
        .next ((u.complete ⟨c, t⟩ (.targetError f.arg) words).occur .targetError
          { fields with detail := some f.arg })) ∧
      (¬ (same ∧ ((f.error = false ∧ f.arg.toNat = x.count) ∨ (f.error = true ∧ f.arg ≠ 0))) →
        exec (.legBack l f) s = .next ((u.complete ⟨c, t⟩ .badResponse words).occur .badResponse fields)))

/-- A LEG-BACK whose number only an EXPIRED slot holds frees the slot, lowers the in-flight count it recorded and raises
LATE_RESPONSE; one whose number no slot holds raises STRAY_RESPONSE (R97). The fall of an in-flight count lowers it by 1
(R14); where a DRAINING claim of the other master holds the target and the count of every member is now 0, the claim is
granted in the same event: HELD, its lease running from now, its CLAIM answered OK (R127, R128). -/
def Obligations.LegBackLateOrStray : Prop :=
  (∀ (s : State) (l : LaneId) (f : LegBackFrame), s.phase = .running → (s.lane l).state ≠ .disabled →
    (s.lane l).receiver = .hunting → f.rest.length ≤ 1016 → legBackLengthOk f = true → (∀ w c m t d, (s.lane l).slot w ≠ .issued f.seq c m t d) →
    let heard : Lane := { s.lane l with
      lastReceived := if (s.lane l).contact = true then some s.timebase else (s.lane l).lastReceived }
    (∀ w m t, Least (fun w => ∃ m t, (s.lane l).slot w = .expired f.seq m t) w →
      (s.lane l).slot w = .expired f.seq m t → exec (.legBack l f) s =
        .next (((s.setLane l (heard.setSlot w .free)).fall m t).occur .lateResponse
          { FaultFields.none with lane := some l, target := some t })) ∧
    ((∀ w m t, (s.lane l).slot w ≠ .expired f.seq m t) → exec (.legBack l f) s =
      .next ((s.setLane l heard).occur .strayResponse (.ofLane l)))) ∧
  ∀ (s : State) (m : Master) (t : Target),
    let fallen := s.setRecord t ((s.record t).setInFlight m (s.inFlight m t - 1))
    let drains : ClaimId → Prop := fun k =>
      ∃ c tag d, s.claim k = some c ∧ c.state = .draining tag d ∧ c.owner = m.other ∧ t ∈ c.members
    ((∀ k, ¬ drains k) → s.fall m t = fallen) ∧
    ∀ k c tag d, Least drains k → s.claim k = some c → c.state = .draining tag d →
      ((∃ v ∈ c.members, fallen.inFlight m v ≠ 0) → s.fall m t = fallen) ∧
      ((∀ v ∈ c.members, fallen.inFlight m v = 0) → s.fall m t =
        (fallen.setClaim k (some { c with
          state := .held (if c.lease = 0 then none
            else some (s.timebase + BitVec.ofNat 32 (c.lease.toNat * 1000))) })).fillSlot m.other
          (answerWith tag 0x10 .ok c.generation
            (byteOf k.val :: byteOf c.members.length :: c.members.map idByte)))

/-- A completion (R61, R64, R115, R15, R14): the counts of the context, first failure as the lowest failing target ID, and
the Target Status record. The context's last leg ends it: an ACTIVE one becomes FREE with its response last among the
filled slots (R68, R69), an ORPHAN one becomes FREE (R72). The fall of the in-flight count, which TIMEOUT has not, can
grant a claim of the other master (R127; the grant is in LegBackLateOrStray). No other record, no other context, no lane
and no setting changes. -/
def Obligations.CompletionUpdatesContextAndRecord : Prop :=
  ∀ (s : State) (c : CtxId) (t : Target) (x : Ctx) (g : Leg) (o : LegOutcome) (words : List Word),
    s.ctx c = some x → x.leg t = some g → (∀ p, g.state ≠ .done p) →
    let u := s.complete ⟨c, t⟩ o words
    (u.record t).health = (s.record t).health ∧
    (u.record t).consecutive =
      (if o = .timeout then min ((s.record t).consecutive + 1) 15
        else if o = .ok then 0 else (s.record t).consecutive) ∧
    ((∃ code, o = .targetError code) ∨ o = .timeout ∨ o = .badResponse →
      (u.record t).errors = min ((s.record t).errors + 1) 65535) ∧
    ((∀ code, o ≠ .targetError code) → o ≠ .timeout → o ≠ .badResponse →
      (u.record t).errors = (s.record t).errors) ∧
    u.inFlight x.master t = (if o = .timeout then s.inFlight x.master t else s.inFlight x.master t - 1) ∧
    u.inFlight x.master.other t = s.inFlight x.master.other t ∧
    (∀ v, v ≠ t → u.record v = s.record v) ∧ (∀ d, d ≠ c → u.ctx d = s.ctx d) ∧ u.lanes = s.lanes ∧
    u.active = s.active ∧ u.hub = s.hub ∧ u.sources = s.sources ∧ u.records = s.records ∧
    u.alertM0 = s.alertM0 ∧ u.alertM1 = s.alertM1 ∧ s.SameSettings u ∧
    (o = .timeout → u.claims = s.claims ∧ u.port x.master.other = s.port x.master.other) ∧
    (o ≠ .timeout → u.claims = (s.fall x.master t).claims ∧
      u.port x.master.other = (s.fall x.master t).port x.master.other) ∧
    (1 < x.unfinished → ∃ y, u.ctx c = some y ∧ y.unfinished = x.unfinished - 1 ∧
      y.legsOk = (if o = .ok then x.legsOk + 1 else x.legsOk) ∧
      (o = .ok → y.firstFailure = x.firstFailure) ∧
      (o ≠ .ok → y.firstFailure = match x.firstFailure with
        | some (v, p) => if t < v then some (t, o) else some (v, p)
        | none => some (t, o)) ∧
      y.accumulator = (x.endLeg t o words).accumulator ∧
      (∃ g', y.leg t = some g' ∧ g'.state = .done o)) ∧
    (x.unfinished = 1 → u.ctx c = none ∧
      ∀ tag, x.state = .active tag → 0 < (s.port x.master).reserved →
        ∃ r, (u.port x.master).filled = (s.port x.master).filled ++ [r] ∧ r.tag = tag ∧
          r.generation = some x.generation ∧
          (x.legs = [g] → (x.kind = .read ∨ x.kind = .write ∨ x.kind = .modify) →
            r.status = o.status ∧ r.summary = none))

/-- The response that the last leg of an ACTIVE context builds (R68). Unicast (R69): the leg's outcome as the status, the
words of an OK READ or MODIFY, the target code of a TARGET_ERROR. Group (R70, R32 to R36): the summary with total, legs OK,
first failure and the mismatch target; MISMATCH, FAILED, PARTIAL or OK; under LIST one record for each leg, under MATCH the
data of the lowest OK leg, against which the mismatch target is the lowest OK leg that differs, under OR and AND the
accumulator (AccumulatorCombinesOkLegs); `groupAnswer` is written out so. -/
def Obligations.LastCompletionBuildsResponse : Prop :=
  ∀ (s : State) (c : CtxId) (t : Target) (x : Ctx) (g : Leg) (o : LegOutcome) (words : List Word) (tag : Byte),
    s.LegsPlaced → s.ctx c = some x → x.leg t = some g → (∀ p, g.state ≠ .done p) → x.unfinished = 1 →
    x.state = .active tag → 0 < (s.port x.master).reserved →
    let answers : Response → Prop := fun r =>
      ((s.complete ⟨c, t⟩ o words).port x.master).filled = (s.port x.master).filled ++ [r]
    let keeps : Bool := x.kind == .read || x.kind == .modify || x.kind == .gread .matching || x.kind == .gread .list
    let legs := x.legs.map (fun h =>
      if h.target = t then { h with state := .done o, data := if o = .ok ∧ keeps = true then some words else none }
      else h)
    (x.legs = [g] → (x.kind = .read ∨ x.kind = .write ∨ x.kind = .modify) →
      answers ⟨tag, o.status, none, some x.generation, none,
        match o with
        | .ok => if x.kind = .write then .none else .words words
        | .targetError code => .fields [code]
        | _ => .none⟩) ∧
    (x.kind ≠ .read → x.kind ≠ .write → x.kind ≠ .modify →
      answers (x.groupAnswer tag legs (x.endLeg t o words).accumulator))

/-- The accumulator of a context (R66, R67): with no leg OK it is absent; under OR, word i is the OR, and under AND the
AND, of word i of the data of the legs that ended OK; under MATCH it is the data of the lowest target ID that ended OK. It
does not depend on the order in which the legs end (R63), and an ORPHAN context takes no data (R72). -/
def Obligations.AccumulatorCombinesOkLegs : Prop :=
  (∀ (x : Ctx) (t : Target) (o : LegOutcome) (words : List Word), x.state = .orphan →
    (x.endLeg t o words).accumulator = x.accumulator) ∧
  ∀ (x : Ctx) (tag : Byte) (ends : List (Target × LegOutcome × List Word)),
    x.state = .active tag → x.accumulator = none → (∀ g ∈ x.legs, g.state ≠ .done .ok) →
    (ends.map Prod.fst).Nodup → (∀ e ∈ ends, ∃ g ∈ x.legs, g.target = e.1) →
    (∀ e ∈ ends, e.2.1 = .ok → e.2.2.length = x.count) →
    let after : List (Target × LegOutcome × List Word) → Option (List Word) := fun es =>
      (es.foldl (fun y e => y.endLeg e.1 e.2.1 e.2.2) x).accumulator
    let oks := (ends.filter (fun e => e.2.1 = .ok)).map (fun e => e.2.2)
    (oks = [] → after ends = none) ∧
    (oks ≠ [] → x.kind = .gread .or → ∃ acc, after ends = some acc ∧ acc.length = x.count ∧
      ∀ i, i < x.count → acc[i]? = some (oks.foldr (fun d v => d.getD i 0 ||| v) 0)) ∧
    (oks ≠ [] → x.kind = .gread .and → ∃ acc, after ends = some acc ∧ acc.length = x.count ∧
      ∀ i, i < x.count → acc[i]? = some (oks.foldr (fun d v => d.getD i 0 &&& v) (BitVec.allOnes 32))) ∧
    (x.kind = .gread .matching → ∀ e ∈ ends, e.2.1 = .ok → (∀ f ∈ ends, f.2.1 = .ok → e.1 ≤ f.1) →
      after ends = some e.2.2) ∧
    (∀ other, ends.Perm other → after other = after ends)

/-- The expiry of an ISSUED slot's leg (R98, R116): the slot becomes EXPIRED with its number, master and target, the leg
ends TIMEOUT (DONE TIMEOUT, or its unicast context answered TIMEOUT), which raises the count and the error total and leaves
the in-flight count; the target is QUARANTINED when its threshold, not 0, is reached, a corrupt entry having its
table-integrity event instead (R18 to R20). LEG_TIMEOUT, TARGET_QUARANTINED and, with every other slot EXPIRED,
LANE_STALLED occur in that order; the last one's action may fence the lane and end queued legs (R144). A slot whose
deadline has not come is left. -/
def Obligations.LegExpiryTimesLegOut : Prop :=
  ∀ (s : State) (l : LaneId) (w : SlotId), s.phase = .running →
    ((∀ q c m t, (s.lane l).slot w ≠ .issued q c m t s.timebase) → exec (.legExpiry l w) s = .next s) ∧
    ∀ q c m t x g, (s.lane l).slot w = .issued q c m t s.timebase → s.ctx c = some x → x.leg t = some g →
      (∀ p, g.state ≠ .done p) →
      let u := (s.setLane l ((s.lane l).setSlot w (.expired q m t))).complete ⟨c, t⟩ .timeout []
      let fields : FaultFields :=
        { lane := some l, target := some t, master := some m, tag := x.tag, detail := none }
      let entry := s.activeEntry t
      let count := min ((s.record t).consecutive + 1) 15
      let reached : Prop := (s.record t).health = .healthy ∧ entry.entry.threshold ≠ 0 ∧
        entry.entry.threshold ≤ count
      let stalls : Prop := ∀ v, v ≠ w → ∃ p n i, (s.lane l).slot v = .expired p n i
      let becomes : State → Prop := fun z =>
        (stalls → exec (.legExpiry l w) s = .next (z.occur .laneStalled (.ofLane l))) ∧
        (¬ stalls → exec (.legExpiry l w) s = .next z)
      (u.lanes = (s.setLane l ((s.lane l).setSlot w (.expired q m t))).lanes ∧
        (1 < x.unfinished → ∃ y g', u.ctx c = some y ∧ y.leg t = some g' ∧ g'.state = .done .timeout) ∧
        (x.unfinished = 1 → u.ctx c = none ∧
          ∀ tag, x.state = .active tag → 0 < (s.port x.master).reserved → x.legs = [g] →
            (x.kind = .read ∨ x.kind = .write ∨ x.kind = .modify) →
            (u.port x.master).filled =
              (s.port x.master).filled ++ [⟨tag, .timeout, none, some x.generation, none, .none⟩])) ∧
      (entry.corrupt = true → becomes ((u.foundCorrupt t).occur .legTimeout fields)) ∧
      (entry.corrupt = false → ¬ reached → becomes (u.occur .legTimeout fields)) ∧
      (entry.corrupt = false → reached → becomes
        (((u.setRecord t { u.record t with health := .quarantined }).occur .legTimeout fields).occur
          .targetQuarantined { FaultFields.none with lane := some l, target := some t })) ∧
      ∃ z, exec (.legExpiry l w) s = .next z ∧ (z.lane l).slot w = .expired q m t ∧
        (∀ v, v ≠ w → (z.lane l).slot v = (s.lane l).slot v) ∧
        (z.record t).errors = min ((s.record t).errors + 1) 65535 ∧
        (¬ stalls → ∀ n, z.inFlight n t = s.inFlight n t) ∧
        (∀ i, i ≠ l → z.lane i = s.lane i) ∧ s.SameSettings z ∧ (z.source .legTimeout).latch = true ∧
        (entry.corrupt = false → (z.record t).consecutive = count ∧
          (entry.entry.threshold ≠ 0 → entry.entry.threshold ≤ count → (z.record t).health = .quarantined) ∧
          (reached → (z.source .targetQuarantined).latch = true))

/-- An issue (R94, R114): on an UP lane in a hub that is not HALTED, with a FREE slot and a queue, the head leg takes the
lowest-numbered FREE slot with the first number from next sequence number on that no slot holds, its deadline fixed by
its class now, the leg ISSUED, and its LEG-OUT on a free line. The freed queue position goes to the oldest PENDING leg for
the lane, which becomes QUEUED at the tail (R92). Otherwise nothing is issued. -/
def Obligations.IssueTakesHeadOfQueue : Prop :=
  ∀ (s : State) (l : LaneId), s.phase = .running →
    let x := s.lane l
    ((x.state ≠ .up ∨ s.hub = .halted ∨ (∀ w, x.slot w ≠ .free) ∨ x.queue = []) →
      exec (.issue l) s = .next s) ∧
    ∀ r rest w c g q, x.state = .up → s.hub ≠ .halted → x.queue = r :: rest →
      Least (fun w => x.slot w = .free) w → s.ctx r.ctx = some c → c.leg r.target = some g →
      (∃ n : Fin 4, Least (fun n : Fin 4 =>
        x.nextSeq + BitVec.ofNat 8 n.val ∉ x.heldSeqs) n ∧ q = x.nextSeq + BitVec.ofNat 8 n.val) →
      ∃ u, exec (.issue l) s = .next u ∧
        (u.lane l).slot w = .issued q r.ctx c.master r.target
          (s.timebase + BitVec.ofNat 32 ((s.classes[g.deadline]).mantissa * 2 ^ (s.classes[g.deadline]).scale)) ∧
        (∀ v, v ≠ w → (u.lane l).slot v = x.slot v) ∧ (u.lane l).nextSeq = q + 1 ∧
        (s.NonePending l → (u.lane l).queue = rest) ∧
        (s.LegsPlaced → ∀ d t, s.OldestPending l d t →
          (u.lane l).queue = rest ++ [⟨d, t⟩] ∧ u.HasLeg d t l .queued) ∧
        (∃ c' g', u.ctx r.ctx = some c' ∧ c'.leg r.target = some g' ∧ g'.state = .issued) ∧
        (x.line = none → (u.lane l).line = some (.legOut ⟨q, g.station, c.legOp, g.addr, c.count⟩)) ∧
        u.status = s.status ∧ u.portM0 = s.portM0 ∧ u.portM1 = s.portM1 ∧ u.claims = s.claims ∧
        u.hub = s.hub ∧ u.active = s.active ∧ u.sources = s.sources ∧ u.records = s.records ∧
        u.alertM0 = s.alertM0 ∧ u.alertM1 = s.alertM1 ∧ (∀ i, i ≠ l → u.lane i = s.lane i) ∧ s.SameSettings u

/-- A device HELLO at a receiver that hunts (R86, R84): in TRAINING a station count 1 to 4 brings the lane UP, another raises FRAME_MALFORMED; in
DOWN and in FENCED with contact NO it is discarded; in DISABLED it is ignored. With contact YES it is a loss (R89): the
lane holds nothing any more and LANE_LOST occurs; an UP lane with auto-retrain on trains with this HELLO as its answer,
with auto-retrain off it is DOWN, a FENCED lane stays FENCED with contact NO. A source whose action is ISOLATE then
fences the lane (R144). The lane's legs end as its ending of work says (R100, LaneEndingsEndTheirLegs), after which the
lane goes where R89 says and LANE_LOST occurs; nothing of the faults' own actions touches a context, a Target Status record,
a claim or a response slot. The model's choices are that a training HELLO that waits is kept when the lane comes UP while
a restart gives up other waiting frames (log 9), that a first HELLO waits on a busy line (log 13), and that the faults follow
the lane's own changes (log 24). -/
def Obligations.DeviceHelloTrainsLane : Prop :=
  ∀ (s : State) (l : LaneId) (stations : Byte), s.phase = .running → (s.lane l).receiver = .hunting →
    let x := s.lane l
    let good : Prop := 1 ≤ stations.toNat ∧ stations.toNat ≤ 4
    let isolates : Source → Prop := fun y => (s.source y).action = .isolate
    let v := s.endLaneWork l
    let trained := (v.lane l).startedTraining s.timebase
    (x.contact = false → x.state = .training → good → exec (.deviceHello l stations) s =
      .next (s.setLane l { x with
        stations := stations.toNat, state := .up, contact := true,
        lastReceived := some s.timebase, lastSent := x.helloTime, hellosSent := 0, helloTime := none })) ∧
    (x.contact = false → x.state = .training → ¬ good → exec (.deviceHello l stations) s =
      .next (s.occur .frameMalformed (.ofLane l))) ∧
    (x.contact = false → (x.state = .down ∨ x.state = .fenced) → exec (.deviceHello l stations) s = .next s) ∧
    (x.contact = false → x.state = .disabled → exec (.deviceHello l stations) s = .next s) ∧
    (x.contact = true → (x.state = .up ∨ x.state = .fenced) →
      ∃ t, exec (.deviceHello l stations) s = .next t ∧ (t.lane l).Idle ∧ (t.source .laneLost).latch = true ∧
        (∀ i, i ≠ l → t.lane i = s.lane i) ∧ t.active = s.active ∧ s.SameSettings t ∧
        (¬ isolates .laneLost ∨ s.LegsPlaced → v.EndedAs t) ∧
        (x.state = .up → x.autoRetrain = true → good →
          t = (v.setLane l { trained with
            stations := stations.toNat, state := .up, contact := true, lastReceived := some s.timebase,
            lastSent := some s.timebase, hellosSent := 0, helloTime := none }).occur .laneLost (.ofLane l) ∧
          (t.lane l).contact = true ∧ (t.lane l).stations = stations.toNat ∧
          (¬ isolates .laneLost → (t.lane l).state = .up) ∧ (isolates .laneLost → (t.lane l).state = .fenced)) ∧
        (x.state = .up → x.autoRetrain = true → ¬ good →
          t = ((v.setLane l trained).occur .laneLost (.ofLane l)).occur .frameMalformed (.ofLane l) ∧
          (t.lane l).contact = false ∧ (t.source .frameMalformed).latch = true ∧
          (¬ isolates .laneLost → ¬ isolates .frameMalformed → (t.lane l).state = .training) ∧
          (isolates .laneLost ∨ isolates .frameMalformed → (t.lane l).state = .fenced)) ∧
        (x.state = .up → x.autoRetrain = false →
          t = (v.setLane l ((v.lane l).quiet .down none)).occur .laneLost (.ofLane l) ∧
          (t.lane l).contact = false ∧ (t.lane l).retryTime = none ∧
          (¬ isolates .laneLost → (t.lane l).state = .down) ∧ (isolates .laneLost → (t.lane l).state = .fenced)) ∧
        (x.state = .fenced →
          t = (v.setLane l ((v.lane l).quiet .fenced x.retryTime)).occur .laneLost (.ofLane l) ∧
          (t.lane l).contact = false ∧ (t.lane l).state = .fenced))

/-- The timers of a lane: a further HELLO each 200 microseconds up to 50 (R85), failure into DOWN with a retry time when
auto-retrain is on, and into FENCED where the fault's action is ISOLATE (R87, R144), training at the retry time (R87), an
IDLE 100 microseconds or more after last sent (R88, log 4). Its transmitter, when it has finished a frame, takes the next
one that waits, which sets last sent while contact is YES (R94, R88); that the frame is finished is the command itself
(log 5). On a busy line a HELLO or an IDLE waits, and last sent is set when the IDLE is due, not when it goes (log 13). A lane that
leaves TRAINING for DOWN or FENCED, or trains again, gives up the frames that wait for its line (the model's choice, log
9). -/
def Obligations.LaneTimersTrainAndKeepAlive : Prop :=
  ∀ (s : State) (l : LaneId), s.phase = .running →
    let x := s.lane l
    (x.state = .training → x.hellosSent < 50 → s.Arrived x.helloTime 200 →
      exec (.laneHelloInterval l) s = .next (s.setLane l { x with
        hellosSent := x.hellosSent + 1, helloTime := some s.timebase, line := some (x.line.getD .hello),
        waiting := if x.line = none then x.waiting else x.waiting ++ [.hello],
        lastSent := if x.line = none ∧ x.contact = true then some s.timebase else x.lastSent })) ∧
    (x.state = .training → x.hellosSent = 50 → s.Arrived x.helloTime 200 →
      ∃ t, exec (.laneTrainingFailure l) s = .next t ∧ (t.source .laneTrainFail).latch = true ∧
        (∀ i, i ≠ l → t.lane i = s.lane i) ∧ t.active = s.active ∧ s.SameSettings t ∧
        ((s.source .laneTrainFail).action ≠ .isolate → t.lane l =
          x.quiet .down (if x.autoRetrain = true then some (s.timebase + 100000) else none)) ∧
        ((s.source .laneTrainFail).action = .isolate → t.lane l = x.quiet .fenced none)) ∧
    (x.state = .down → x.retryTime = some s.timebase → exec (.laneRetry l) s =
      .next (s.setLane l (x.startedTraining s.timebase))) ∧
    (x.contact = true → ∀ u, x.lastSent = some u → 100 ≤ (s.timebase - u).toNat →
      exec (.laneKeepalive l) s = .next (s.setLane l { x with
        lastSent := some s.timebase, line := some (x.line.getD .idle),
        waiting := if x.line = none then x.waiting else x.waiting ++ [.idle] })) ∧
    ((x.contact = false ∨ ∀ u, x.lastSent = some u → (s.timebase - u).toNat < 100) →
      exec (.laneKeepalive l) s = .next s) ∧
    (x.waiting = [] → exec (.laneTransmitterFree l) s = .next (s.setLane l { x with line := none })) ∧
    ∀ f rest, x.waiting = f :: rest → exec (.laneTransmitterFree l) s =
      .next (s.setLane l { x with
        line := some f, waiting := rest,
        lastSent := if x.contact = true then some s.timebase else x.lastSent })

/-- Lane loss after 1,000 microseconds without a valid frame (R88, R100): the lane holds nothing any more and goes to
TRAINING, DOWN or FENCED with contact NO, and LANE_LOST occurs, which fences the lane where its action is ISOLATE
(R144). The lane's legs end as its ending of work says (R100, LaneEndingsEndTheirLegs); LANE_LOST and its action then touch
no context, Target Status record, claim or response slot. The model's choices are what becomes of frames that wait for the
line (log 9), of a first HELLO on a busy line (log 13), and that the fault follows the lane's own changes (log 24). -/
def Obligations.LaneLossEndsLaneWork : Prop :=
  ∀ (s : State) (l : LaneId), s.phase = .running →
    let x := s.lane l
    ((x.contact = false ∨ ¬ s.Arrived x.lastReceived 1000) → exec (.laneLoss l) s = .next s) ∧
    (x.contact = true → s.Arrived x.lastReceived 1000 →
      ∃ t, exec (.laneLoss l) s = .next t ∧
        (let v := s.endLaneWork l
         let lost : Lane :=
          match x.state, x.autoRetrain with
          | .up, true => (v.lane l).startedTraining s.timebase
          | .up, false => (v.lane l).quiet .down none
          | w, _ => (v.lane l).quiet w x.retryTime
         t = (v.setLane l lost).occur .laneLost (.ofLane l) ∧ v.EndedAs t) ∧
        (t.lane l).Idle ∧ (t.lane l).contact = false ∧
        (t.lane l).nextSeq = x.nextSeq ∧ (t.lane l).stations = x.stations ∧ (t.source .laneLost).latch = true ∧
        (∀ i, i ≠ l → t.lane i = s.lane i) ∧ t.active = s.active ∧ s.SameSettings t ∧
        ((s.source .laneLost).action ≠ .isolate →
          (x.state = .up → x.autoRetrain = true → (t.lane l).state = .training) ∧
          (x.state = .up → x.autoRetrain = false → (t.lane l).state = .down ∧ (t.lane l).retryTime = none)) ∧
        ((s.source .laneLost).action = .isolate → x.state = .up → (t.lane l).state = .fenced) ∧
        (x.state = .fenced → (t.lane l).state = .fenced))

/-! ## Claims' timers, faults and alerts -/

/-- The drain deadline of a DRAINING record frees it, answers its CLAIM TIMEOUT and raises CLAIM_DRAIN_TIMEOUT (R129); the
lease deadline of a HELD record frees it and raises CLAIM_EXPIRED (R132). -/
def Obligations.ClaimTimersFreeRecords : Prop :=
  ∀ (s : State) (k : ClaimId) (c : Claim), s.phase = .running → s.claim k = some c →
    let fields : FaultFields :=
      { FaultFields.none with master := some c.owner, detail := some (byteOf k.val) }
    (∀ tag, c.state = .draining tag s.timebase → exec (.drainDeadline k) s =
      .next (((s.setClaim k none).fillSlot c.owner (answerOf tag 0x10 .timeout [])).occur
        .claimDrainTimeout fields)) ∧
    (c.state = .held (some s.timebase) → exec (.leaseExpiry k) s =
      .next ((s.setClaim k none).occur .claimExpired fields))

/-- An occurrence (R140, R141) sets the latch and raises the count to at most 255; with an action other than IGNORE it
stores a record at the tail when fewer than 16 are held, and else drops it into the lost count, on which RECORDS_LOST
occurs with its own latch, count and action, but no record (R142). The action then pends the class for each master whose
level for it is above 0, with the test of R155 after it (R143), fences the lane of a LINK source or quarantines the target
of a TARGET source on ISOLATE (R144, R117), and turns RUN into HALTED on HALT (R145). -/
def Obligations.OccurrenceLatchesAndRecords : Prop :=
  ∀ (s : State) (x : Source) (f : FaultFields), x ≠ .recordsLost →
    let pend : Source → Option (BitVec 16) → State → Master → State := fun y q u m =>
      if 0 < (u.alert m).levels.get y.cls then
        (u.setAlert m { u.alert m with
          pending := (u.alert m).pending.set y.cls (some ⟨y, q⟩) }).testAlert m
      else u
    let acts : Action → Source → FaultFields → Option (BitVec 16) → State → State := fun a y g q u =>
      let p := pend y q (pend y q u .m0) .m1
      match a with
      | .ignore | .record => u
      | .alert => p
      | .isolate =>
        match y.cls, g.lane, g.target with
        | .link, some l, _ => p.fenceLane l
        | .target, _, some t => p.setRecord t { p.record t with health := .quarantined }
        | _, _, _ => p
      | .halt => { p with hub := if p.hub = .run then .halted else p.hub }
    let raised : Source → SourceRecord := fun y => ⟨true, min ((s.source y).count + 1) 255, (s.source y).action⟩
    let action := (s.source x).action
    let latched := s.setSource x (raised x)
    let t := s.occur x f
    (action = .ignore → t = latched) ∧
    (action ≠ .ignore → s.records.length < 16 →
      t = acts action x f (some s.nextRecord) { latched with
        records := s.records ++ [⟨s.nextRecord, s.timebase, x, f⟩], nextRecord := s.nextRecord + 1 }) ∧
    (action ≠ .ignore → 16 ≤ s.records.length →
      t = acts action x f none
        (acts (s.source .recordsLost).action .recordsLost .none none
          { latched.setSource .recordsLost (raised .recordsLost) with lostCount := min (s.lostCount + 1) 255 })) ∧
    (t.source x).latch = true ∧ (t.source x).count = min ((s.source x).count + 1) 255 ∧
    (t.source x).action = (s.source x).action ∧
    (action ≠ .ignore → s.records.length < 16 →
      t.records = s.records ++ [⟨s.nextRecord, s.timebase, x, f⟩] ∧ t.nextRecord = s.nextRecord + 1 ∧
      t.lostCount = s.lostCount) ∧
    (action ≠ .ignore → 16 ≤ s.records.length →
      t.records = s.records ∧ t.nextRecord = s.nextRecord ∧ t.lostCount = min (s.lostCount + 1) 255 ∧
      (t.source .recordsLost).latch = true) ∧
    (action = .halt → s.hub = .run → t.hub = .halted) ∧
    (action ≠ .ignore → action ≠ .record → ∀ m, 0 < (s.alert m).levels.get x.cls →
      ((s.alert m).busy = true → (t.alert m).pending.get x.cls =
        some ⟨x, if s.records.length < 16 then some s.nextRecord else none⟩))

/-- The test of R155: with the window FREE and the link UP, of the pending classes whose level is above the floor the one
of highest level is made into an ALERT, a tie going to the first of INTERNAL, FABRIC, LINK, TARGET; otherwise nothing
is made ready. -/
def Obligations.HighestClassIsMadeReady : Prop :=
  ∀ (s : State) (m : Master),
    let a := s.alert m
    let sendable : FaultClass → Prop := fun c => a.pending.get c ≠ none ∧ a.floor < a.levels.get c
    ((a.busy = true ∨ (s.port m).link ≠ .up ∨ ∀ c, ¬ sendable c) → s.testAlert m = s) ∧
    (a.busy = false → (s.port m).link = .up → ∀ c p, sendable c → a.pending.get c = some p →
      (∀ d, sendable d → a.levels.get d < a.levels.get c ∨
        (a.levels.get d = a.levels.get c ∧ (classCode c).toNat ≤ (classCode d).toNat)) →
      s.testAlert m = (s.setAlert m { a with pending := a.pending.set c none, busy := true }).setPort m
        { s.port m with alertReady := some ⟨c, p.source, p.sequence, s.timebase⟩ })

/-! ## Encodings -/

/-- A HUB request carries every operation with every parameter: reading what is written gives the operation back
(section 11.3, R42). Every well-formed unicast and group request, written by the layout of section 11.3, is read back as
it stands (R42). -/
def Obligations.RequestsReadBack : Prop :=
  (∀ (tag : Byte) (op : HubOp), readRequest (hubRequest tag op) = some (.hub op)) ∧
  ∀ (tag : Byte) (dest count : Nat) (addr : Addr) (ws : List Word) (setMask clearMask : Word),
    1 ≤ count → count ≤ 8 → ws.length = count →
    let raw : Byte → Nat → Nat → Payload → RawRequest := fun kind combine n data =>
      ⟨tag, kind, byteOf dest, requestBody combine n addr data⟩
    (1 ≤ dest → dest ≤ 63 →
      readRequest (raw 0 0 count .none) = some (.unicast ⟨.read, dest, addr, count, .none⟩) ∧
      readRequest (raw 1 0 count (.words ws)) = some (.unicast ⟨.write, dest, addr, count, .words ws⟩) ∧
      readRequest (raw 2 0 1 (.masks setMask clearMask)) =
        some (.unicast ⟨.modify, dest, addr, 1, .masks setMask clearMask⟩)) ∧
    (dest ≤ 15 →
      readRequest (raw 3 0 count .none) = some (.group ⟨.gread .or, dest, addr, count, .none⟩) ∧
      readRequest (raw 3 1 count .none) = some (.group ⟨.gread .and, dest, addr, count, .none⟩) ∧
      readRequest (raw 3 2 count .none) = some (.group ⟨.gread .matching, dest, addr, count, .none⟩) ∧
      readRequest (raw 3 3 count .none) = some (.group ⟨.gread .list, dest, addr, count, .none⟩) ∧
      readRequest (raw 4 0 count (.words ws)) = some (.group ⟨.gwrite, dest, addr, count, .words ws⟩) ∧
      readRequest (raw 5 0 1 (.masks setMask clearMask)) =
        some (.group ⟨.gmodify, dest, addr, 1, .masks setMask clearMask⟩))

/-- A frame of 1 to 1,021 bytes put on the line with its CRC, and a FILL after it, is handed on as it was sent; one of no
byte or of more than 1,021 is one bad frame. A collection that the receiver held counts as bad before it, and the receiver
hunts after it (R185, R186). At a running part's hunting receiver these symbols do what the frame's own command does. -/
def Obligations.LineCarriesFrames : Prop :=
  (∀ (s : State) (frame : List Byte), s.phase = .running →
    (∀ m, (s.port m).receiver = .hunting →
      exec (.upBadCrcFrame m (lineSymbols frame)) s = exec (upCommand m frame) s) ∧
    ∀ l, (s.lane l).receiver = .hunting →
      exec (.laneBadCrcFrame l (lineSymbols frame)) s = exec (laneCommand l frame) s) ∧
  ∀ (r : Receiver) (frame : List Byte),
    let held : List FrameEnd := if r = .hunting then [] else [.badCrc]
    (1 ≤ frame.length → frame.length ≤ 1021 →
      receiveSymbols r (lineSymbols frame ++ [.fill]) = (.hunting, held ++ [.handedOn frame])) ∧
    ((frame.length = 0 ∨ 1021 < frame.length) →
      receiveSymbols r (lineSymbols frame ++ [.fill]) = (.hunting, held ++ [.badCrc]))

/-! ## Bounds that every step keeps -/

/-- Full reset meets every bound. -/
def Obligations.BoundsHoldAtReset : Prop :=
  State.reset.QuotasFit ∧ State.reset.RecordsConsecutive ∧ State.reset.SlotsFit ∧ State.reset.CreditsFit ∧
    State.reset.ResponseCreditFits ∧ State.reset.QueuesFit ∧ State.reset.WindowsGuard ∧ State.reset.ClaimsApart ∧
    State.reset.LegsPlaced

/-- The quotas never sum to more than 32 (R55), and a lane queue never holds more than 16 legs (R91, R93). -/
def Obligations.StepsKeepQuotasAndQueuesFit : Prop :=
  ∀ s t : State, step s = .next t →
    (s.QuotasFit → t.QuotasFit) ∧ (s.QueuesFit → t.QueuesFit)

/-- The record queue never holds more than 16 records, and their sequences stay consecutive (R149); an ALERT is ready for
a master only while its window is BUSY (R156). -/
def Obligations.StepsKeepRecordsAndWindows : Prop :=
  ∀ s t : State, step s = .next t →
    (s.RecordsConsecutive → t.RecordsConsecutive) ∧ (s.WindowsGuard → t.WindowsGuard)

/-- Reserved plus filled response slots never exceed 24 for a master, nor its response credit 16 (R161, R169, R170). -/
def Obligations.StepsKeepResponseBounds : Prop :=
  ∀ s t : State, step s = .next t →
    (s.SlotsFit → t.SlotsFit) ∧ (s.ResponseCreditFits → t.ResponseCreditFits)

/-- Request credit, buffer and credits owed of an UP link always make 4 (R161), and all three are 0 on another link; no
link is UP before the start-up hold has ended (R184), which the accounting rests on when training starts. -/
def Obligations.StepsKeepRequestCredit : Prop :=
  ∀ s t : State, step s = .next t → s.CreditsFit → t.CreditsFit

/-- No target ID is in the member set of more than one claim record (R124). -/
def Obligations.StepsKeepClaimsApart : Prop :=
  ∀ s t : State, step s = .next t → s.ClaimsApart → t.ClaimsApart

/-- Every leg stands where R60 says: a QUEUED leg once on its lane's queue, an ISSUED leg in one slot of its lane's window,
and no queue and no window names another leg; the counts of every context are those of its legs (R62, R64, R67), and
between the parts of a fabric reset every context is FREE (R80). -/
def Obligations.StepsKeepLegsPlaced : Prop :=
  ∀ s t : State, step s = .next t → s.LegsPlaced → t.LegsPlaced

end Slice0Obligations
end

