-- ==== Sys2Proof/Laws/State.lean ====
section
/-! SUPPORT. One lemma for each field of State under each replacement of one record (all true by rfl, or by the two
cases of the master), and what reading back a replaced record gives. -/

namespace Sys2Proof.Machine

variable (s : State)

/-! ## State.setLane -/

@[simp] theorem State.setLane_phase (l : LaneId) (x : Lane) : (s.setLane l x).phase = s.phase := rfl
@[simp] theorem State.setLane_timebase (l : LaneId) (x : Lane) : (s.setLane l x).timebase = s.timebase := rfl
@[simp] theorem State.setLane_hub (l : LaneId) (x : Lane) : (s.setLane l x).hub = s.hub := rfl
@[simp] theorem State.setLane_rightsM1 (l : LaneId) (x : Lane) : (s.setLane l x).rightsM1 = s.rightsM1 := rfl
@[simp] theorem State.setLane_quotaM0 (l : LaneId) (x : Lane) : (s.setLane l x).quotaM0 = s.quotaM0 := rfl
@[simp] theorem State.setLane_quotaM1 (l : LaneId) (x : Lane) : (s.setLane l x).quotaM1 = s.quotaM1 := rfl
@[simp] theorem State.setLane_roundRobin (l : LaneId) (x : Lane) : (s.setLane l x).roundRobin = s.roundRobin := rfl
@[simp] theorem State.setLane_admission (l : LaneId) (x : Lane) : (s.setLane l x).admission = s.admission := rfl
@[simp] theorem State.setLane_staged (l : LaneId) (x : Lane) : (s.setLane l x).staged = s.staged := rfl
@[simp] theorem State.setLane_active (l : LaneId) (x : Lane) : (s.setLane l x).active = s.active := rfl
@[simp] theorem State.setLane_generation (l : LaneId) (x : Lane) : (s.setLane l x).generation = s.generation := rfl
@[simp] theorem State.setLane_stagedGroups (l : LaneId) (x : Lane) : (s.setLane l x).stagedGroups = s.stagedGroups := rfl
@[simp] theorem State.setLane_activeGroups (l : LaneId) (x : Lane) : (s.setLane l x).activeGroups = s.activeGroups := rfl
@[simp] theorem State.setLane_status (l : LaneId) (x : Lane) : (s.setLane l x).status = s.status := rfl
@[simp] theorem State.setLane_contexts (l : LaneId) (x : Lane) : (s.setLane l x).contexts = s.contexts := rfl
@[simp] theorem State.setLane_classes (l : LaneId) (x : Lane) : (s.setLane l x).classes = s.classes := rfl
@[simp] theorem State.setLane_claims (l : LaneId) (x : Lane) : (s.setLane l x).claims = s.claims := rfl
@[simp] theorem State.setLane_sources (l : LaneId) (x : Lane) : (s.setLane l x).sources = s.sources := rfl
@[simp] theorem State.setLane_records (l : LaneId) (x : Lane) : (s.setLane l x).records = s.records := rfl
@[simp] theorem State.setLane_lostCount (l : LaneId) (x : Lane) : (s.setLane l x).lostCount = s.lostCount := rfl
@[simp] theorem State.setLane_nextRecord (l : LaneId) (x : Lane) : (s.setLane l x).nextRecord = s.nextRecord := rfl
@[simp] theorem State.setLane_alertM0 (l : LaneId) (x : Lane) : (s.setLane l x).alertM0 = s.alertM0 := rfl
@[simp] theorem State.setLane_alertM1 (l : LaneId) (x : Lane) : (s.setLane l x).alertM1 = s.alertM1 := rfl
@[simp] theorem State.setLane_portM0 (l : LaneId) (x : Lane) : (s.setLane l x).portM0 = s.portM0 := rfl
@[simp] theorem State.setLane_portM1 (l : LaneId) (x : Lane) : (s.setLane l x).portM1 = s.portM1 := rfl
@[simp] theorem State.setLane_fabricResets (l : LaneId) (x : Lane) : (s.setLane l x).fabricResets = s.fabricResets := rfl
@[simp] theorem State.setLane_pending (l : LaneId) (x : Lane) : (s.setLane l x).pending = s.pending := rfl

/-! ## State.setCtx -/

@[simp] theorem State.setCtx_phase (c : CtxId) (x : Option Ctx) : (s.setCtx c x).phase = s.phase := rfl
@[simp] theorem State.setCtx_timebase (c : CtxId) (x : Option Ctx) : (s.setCtx c x).timebase = s.timebase := rfl
@[simp] theorem State.setCtx_hub (c : CtxId) (x : Option Ctx) : (s.setCtx c x).hub = s.hub := rfl
@[simp] theorem State.setCtx_rightsM1 (c : CtxId) (x : Option Ctx) : (s.setCtx c x).rightsM1 = s.rightsM1 := rfl
@[simp] theorem State.setCtx_quotaM0 (c : CtxId) (x : Option Ctx) : (s.setCtx c x).quotaM0 = s.quotaM0 := rfl
@[simp] theorem State.setCtx_quotaM1 (c : CtxId) (x : Option Ctx) : (s.setCtx c x).quotaM1 = s.quotaM1 := rfl
@[simp] theorem State.setCtx_roundRobin (c : CtxId) (x : Option Ctx) : (s.setCtx c x).roundRobin = s.roundRobin := rfl
@[simp] theorem State.setCtx_admission (c : CtxId) (x : Option Ctx) : (s.setCtx c x).admission = s.admission := rfl
@[simp] theorem State.setCtx_staged (c : CtxId) (x : Option Ctx) : (s.setCtx c x).staged = s.staged := rfl
@[simp] theorem State.setCtx_active (c : CtxId) (x : Option Ctx) : (s.setCtx c x).active = s.active := rfl
@[simp] theorem State.setCtx_generation (c : CtxId) (x : Option Ctx) : (s.setCtx c x).generation = s.generation := rfl
@[simp] theorem State.setCtx_stagedGroups (c : CtxId) (x : Option Ctx) : (s.setCtx c x).stagedGroups = s.stagedGroups := rfl
@[simp] theorem State.setCtx_activeGroups (c : CtxId) (x : Option Ctx) : (s.setCtx c x).activeGroups = s.activeGroups := rfl
@[simp] theorem State.setCtx_status (c : CtxId) (x : Option Ctx) : (s.setCtx c x).status = s.status := rfl
@[simp] theorem State.setCtx_lanes (c : CtxId) (x : Option Ctx) : (s.setCtx c x).lanes = s.lanes := rfl
@[simp] theorem State.setCtx_classes (c : CtxId) (x : Option Ctx) : (s.setCtx c x).classes = s.classes := rfl
@[simp] theorem State.setCtx_claims (c : CtxId) (x : Option Ctx) : (s.setCtx c x).claims = s.claims := rfl
@[simp] theorem State.setCtx_sources (c : CtxId) (x : Option Ctx) : (s.setCtx c x).sources = s.sources := rfl
@[simp] theorem State.setCtx_records (c : CtxId) (x : Option Ctx) : (s.setCtx c x).records = s.records := rfl
@[simp] theorem State.setCtx_lostCount (c : CtxId) (x : Option Ctx) : (s.setCtx c x).lostCount = s.lostCount := rfl
@[simp] theorem State.setCtx_nextRecord (c : CtxId) (x : Option Ctx) : (s.setCtx c x).nextRecord = s.nextRecord := rfl
@[simp] theorem State.setCtx_alertM0 (c : CtxId) (x : Option Ctx) : (s.setCtx c x).alertM0 = s.alertM0 := rfl
@[simp] theorem State.setCtx_alertM1 (c : CtxId) (x : Option Ctx) : (s.setCtx c x).alertM1 = s.alertM1 := rfl
@[simp] theorem State.setCtx_portM0 (c : CtxId) (x : Option Ctx) : (s.setCtx c x).portM0 = s.portM0 := rfl
@[simp] theorem State.setCtx_portM1 (c : CtxId) (x : Option Ctx) : (s.setCtx c x).portM1 = s.portM1 := rfl
@[simp] theorem State.setCtx_fabricResets (c : CtxId) (x : Option Ctx) : (s.setCtx c x).fabricResets = s.fabricResets := rfl
@[simp] theorem State.setCtx_pending (c : CtxId) (x : Option Ctx) : (s.setCtx c x).pending = s.pending := rfl

/-! ## State.setRecord -/

@[simp] theorem State.setRecord_phase (t : Target) (x : TargetRecord) : (s.setRecord t x).phase = s.phase := rfl
@[simp] theorem State.setRecord_timebase (t : Target) (x : TargetRecord) : (s.setRecord t x).timebase = s.timebase := rfl
@[simp] theorem State.setRecord_hub (t : Target) (x : TargetRecord) : (s.setRecord t x).hub = s.hub := rfl
@[simp] theorem State.setRecord_rightsM1 (t : Target) (x : TargetRecord) : (s.setRecord t x).rightsM1 = s.rightsM1 := rfl
@[simp] theorem State.setRecord_quotaM0 (t : Target) (x : TargetRecord) : (s.setRecord t x).quotaM0 = s.quotaM0 := rfl
@[simp] theorem State.setRecord_quotaM1 (t : Target) (x : TargetRecord) : (s.setRecord t x).quotaM1 = s.quotaM1 := rfl
@[simp] theorem State.setRecord_roundRobin (t : Target) (x : TargetRecord) : (s.setRecord t x).roundRobin = s.roundRobin := rfl
@[simp] theorem State.setRecord_admission (t : Target) (x : TargetRecord) : (s.setRecord t x).admission = s.admission := rfl
@[simp] theorem State.setRecord_staged (t : Target) (x : TargetRecord) : (s.setRecord t x).staged = s.staged := rfl
@[simp] theorem State.setRecord_active (t : Target) (x : TargetRecord) : (s.setRecord t x).active = s.active := rfl
@[simp] theorem State.setRecord_generation (t : Target) (x : TargetRecord) : (s.setRecord t x).generation = s.generation := rfl
@[simp] theorem State.setRecord_stagedGroups (t : Target) (x : TargetRecord) : (s.setRecord t x).stagedGroups = s.stagedGroups := rfl
@[simp] theorem State.setRecord_activeGroups (t : Target) (x : TargetRecord) : (s.setRecord t x).activeGroups = s.activeGroups := rfl
@[simp] theorem State.setRecord_contexts (t : Target) (x : TargetRecord) : (s.setRecord t x).contexts = s.contexts := rfl
@[simp] theorem State.setRecord_lanes (t : Target) (x : TargetRecord) : (s.setRecord t x).lanes = s.lanes := rfl
@[simp] theorem State.setRecord_classes (t : Target) (x : TargetRecord) : (s.setRecord t x).classes = s.classes := rfl
@[simp] theorem State.setRecord_claims (t : Target) (x : TargetRecord) : (s.setRecord t x).claims = s.claims := rfl
@[simp] theorem State.setRecord_sources (t : Target) (x : TargetRecord) : (s.setRecord t x).sources = s.sources := rfl
@[simp] theorem State.setRecord_records (t : Target) (x : TargetRecord) : (s.setRecord t x).records = s.records := rfl
@[simp] theorem State.setRecord_lostCount (t : Target) (x : TargetRecord) : (s.setRecord t x).lostCount = s.lostCount := rfl
@[simp] theorem State.setRecord_nextRecord (t : Target) (x : TargetRecord) : (s.setRecord t x).nextRecord = s.nextRecord := rfl
@[simp] theorem State.setRecord_alertM0 (t : Target) (x : TargetRecord) : (s.setRecord t x).alertM0 = s.alertM0 := rfl
@[simp] theorem State.setRecord_alertM1 (t : Target) (x : TargetRecord) : (s.setRecord t x).alertM1 = s.alertM1 := rfl
@[simp] theorem State.setRecord_portM0 (t : Target) (x : TargetRecord) : (s.setRecord t x).portM0 = s.portM0 := rfl
@[simp] theorem State.setRecord_portM1 (t : Target) (x : TargetRecord) : (s.setRecord t x).portM1 = s.portM1 := rfl
@[simp] theorem State.setRecord_fabricResets (t : Target) (x : TargetRecord) : (s.setRecord t x).fabricResets = s.fabricResets := rfl
@[simp] theorem State.setRecord_pending (t : Target) (x : TargetRecord) : (s.setRecord t x).pending = s.pending := rfl

/-! ## State.setClaim -/

@[simp] theorem State.setClaim_phase (k : ClaimId) (x : Option Claim) : (s.setClaim k x).phase = s.phase := rfl
@[simp] theorem State.setClaim_timebase (k : ClaimId) (x : Option Claim) : (s.setClaim k x).timebase = s.timebase := rfl
@[simp] theorem State.setClaim_hub (k : ClaimId) (x : Option Claim) : (s.setClaim k x).hub = s.hub := rfl
@[simp] theorem State.setClaim_rightsM1 (k : ClaimId) (x : Option Claim) : (s.setClaim k x).rightsM1 = s.rightsM1 := rfl
@[simp] theorem State.setClaim_quotaM0 (k : ClaimId) (x : Option Claim) : (s.setClaim k x).quotaM0 = s.quotaM0 := rfl
@[simp] theorem State.setClaim_quotaM1 (k : ClaimId) (x : Option Claim) : (s.setClaim k x).quotaM1 = s.quotaM1 := rfl
@[simp] theorem State.setClaim_roundRobin (k : ClaimId) (x : Option Claim) : (s.setClaim k x).roundRobin = s.roundRobin := rfl
@[simp] theorem State.setClaim_admission (k : ClaimId) (x : Option Claim) : (s.setClaim k x).admission = s.admission := rfl
@[simp] theorem State.setClaim_staged (k : ClaimId) (x : Option Claim) : (s.setClaim k x).staged = s.staged := rfl
@[simp] theorem State.setClaim_active (k : ClaimId) (x : Option Claim) : (s.setClaim k x).active = s.active := rfl
@[simp] theorem State.setClaim_generation (k : ClaimId) (x : Option Claim) : (s.setClaim k x).generation = s.generation := rfl
@[simp] theorem State.setClaim_stagedGroups (k : ClaimId) (x : Option Claim) : (s.setClaim k x).stagedGroups = s.stagedGroups := rfl
@[simp] theorem State.setClaim_activeGroups (k : ClaimId) (x : Option Claim) : (s.setClaim k x).activeGroups = s.activeGroups := rfl
@[simp] theorem State.setClaim_status (k : ClaimId) (x : Option Claim) : (s.setClaim k x).status = s.status := rfl
@[simp] theorem State.setClaim_contexts (k : ClaimId) (x : Option Claim) : (s.setClaim k x).contexts = s.contexts := rfl
@[simp] theorem State.setClaim_lanes (k : ClaimId) (x : Option Claim) : (s.setClaim k x).lanes = s.lanes := rfl
@[simp] theorem State.setClaim_classes (k : ClaimId) (x : Option Claim) : (s.setClaim k x).classes = s.classes := rfl
@[simp] theorem State.setClaim_sources (k : ClaimId) (x : Option Claim) : (s.setClaim k x).sources = s.sources := rfl
@[simp] theorem State.setClaim_records (k : ClaimId) (x : Option Claim) : (s.setClaim k x).records = s.records := rfl
@[simp] theorem State.setClaim_lostCount (k : ClaimId) (x : Option Claim) : (s.setClaim k x).lostCount = s.lostCount := rfl
@[simp] theorem State.setClaim_nextRecord (k : ClaimId) (x : Option Claim) : (s.setClaim k x).nextRecord = s.nextRecord := rfl
@[simp] theorem State.setClaim_alertM0 (k : ClaimId) (x : Option Claim) : (s.setClaim k x).alertM0 = s.alertM0 := rfl
@[simp] theorem State.setClaim_alertM1 (k : ClaimId) (x : Option Claim) : (s.setClaim k x).alertM1 = s.alertM1 := rfl
@[simp] theorem State.setClaim_portM0 (k : ClaimId) (x : Option Claim) : (s.setClaim k x).portM0 = s.portM0 := rfl
@[simp] theorem State.setClaim_portM1 (k : ClaimId) (x : Option Claim) : (s.setClaim k x).portM1 = s.portM1 := rfl
@[simp] theorem State.setClaim_fabricResets (k : ClaimId) (x : Option Claim) : (s.setClaim k x).fabricResets = s.fabricResets := rfl
@[simp] theorem State.setClaim_pending (k : ClaimId) (x : Option Claim) : (s.setClaim k x).pending = s.pending := rfl

/-! ## State.setActive -/

@[simp] theorem State.setActive_phase (t : Target) (x : ActiveEntry) : (s.setActive t x).phase = s.phase := rfl
@[simp] theorem State.setActive_timebase (t : Target) (x : ActiveEntry) : (s.setActive t x).timebase = s.timebase := rfl
@[simp] theorem State.setActive_hub (t : Target) (x : ActiveEntry) : (s.setActive t x).hub = s.hub := rfl
@[simp] theorem State.setActive_rightsM1 (t : Target) (x : ActiveEntry) : (s.setActive t x).rightsM1 = s.rightsM1 := rfl
@[simp] theorem State.setActive_quotaM0 (t : Target) (x : ActiveEntry) : (s.setActive t x).quotaM0 = s.quotaM0 := rfl
@[simp] theorem State.setActive_quotaM1 (t : Target) (x : ActiveEntry) : (s.setActive t x).quotaM1 = s.quotaM1 := rfl
@[simp] theorem State.setActive_roundRobin (t : Target) (x : ActiveEntry) : (s.setActive t x).roundRobin = s.roundRobin := rfl
@[simp] theorem State.setActive_admission (t : Target) (x : ActiveEntry) : (s.setActive t x).admission = s.admission := rfl
@[simp] theorem State.setActive_staged (t : Target) (x : ActiveEntry) : (s.setActive t x).staged = s.staged := rfl
@[simp] theorem State.setActive_generation (t : Target) (x : ActiveEntry) : (s.setActive t x).generation = s.generation := rfl
@[simp] theorem State.setActive_stagedGroups (t : Target) (x : ActiveEntry) : (s.setActive t x).stagedGroups = s.stagedGroups := rfl
@[simp] theorem State.setActive_activeGroups (t : Target) (x : ActiveEntry) : (s.setActive t x).activeGroups = s.activeGroups := rfl
@[simp] theorem State.setActive_status (t : Target) (x : ActiveEntry) : (s.setActive t x).status = s.status := rfl
@[simp] theorem State.setActive_contexts (t : Target) (x : ActiveEntry) : (s.setActive t x).contexts = s.contexts := rfl
@[simp] theorem State.setActive_lanes (t : Target) (x : ActiveEntry) : (s.setActive t x).lanes = s.lanes := rfl
@[simp] theorem State.setActive_classes (t : Target) (x : ActiveEntry) : (s.setActive t x).classes = s.classes := rfl
@[simp] theorem State.setActive_claims (t : Target) (x : ActiveEntry) : (s.setActive t x).claims = s.claims := rfl
@[simp] theorem State.setActive_sources (t : Target) (x : ActiveEntry) : (s.setActive t x).sources = s.sources := rfl
@[simp] theorem State.setActive_records (t : Target) (x : ActiveEntry) : (s.setActive t x).records = s.records := rfl
@[simp] theorem State.setActive_lostCount (t : Target) (x : ActiveEntry) : (s.setActive t x).lostCount = s.lostCount := rfl
@[simp] theorem State.setActive_nextRecord (t : Target) (x : ActiveEntry) : (s.setActive t x).nextRecord = s.nextRecord := rfl
@[simp] theorem State.setActive_alertM0 (t : Target) (x : ActiveEntry) : (s.setActive t x).alertM0 = s.alertM0 := rfl
@[simp] theorem State.setActive_alertM1 (t : Target) (x : ActiveEntry) : (s.setActive t x).alertM1 = s.alertM1 := rfl
@[simp] theorem State.setActive_portM0 (t : Target) (x : ActiveEntry) : (s.setActive t x).portM0 = s.portM0 := rfl
@[simp] theorem State.setActive_portM1 (t : Target) (x : ActiveEntry) : (s.setActive t x).portM1 = s.portM1 := rfl
@[simp] theorem State.setActive_fabricResets (t : Target) (x : ActiveEntry) : (s.setActive t x).fabricResets = s.fabricResets := rfl
@[simp] theorem State.setActive_pending (t : Target) (x : ActiveEntry) : (s.setActive t x).pending = s.pending := rfl

/-! ## State.setStaged -/

@[simp] theorem State.setStaged_phase (t : Target) (x : DirEntry) : (s.setStaged t x).phase = s.phase := rfl
@[simp] theorem State.setStaged_timebase (t : Target) (x : DirEntry) : (s.setStaged t x).timebase = s.timebase := rfl
@[simp] theorem State.setStaged_hub (t : Target) (x : DirEntry) : (s.setStaged t x).hub = s.hub := rfl
@[simp] theorem State.setStaged_rightsM1 (t : Target) (x : DirEntry) : (s.setStaged t x).rightsM1 = s.rightsM1 := rfl
@[simp] theorem State.setStaged_quotaM0 (t : Target) (x : DirEntry) : (s.setStaged t x).quotaM0 = s.quotaM0 := rfl
@[simp] theorem State.setStaged_quotaM1 (t : Target) (x : DirEntry) : (s.setStaged t x).quotaM1 = s.quotaM1 := rfl
@[simp] theorem State.setStaged_roundRobin (t : Target) (x : DirEntry) : (s.setStaged t x).roundRobin = s.roundRobin := rfl
@[simp] theorem State.setStaged_admission (t : Target) (x : DirEntry) : (s.setStaged t x).admission = s.admission := rfl
@[simp] theorem State.setStaged_active (t : Target) (x : DirEntry) : (s.setStaged t x).active = s.active := rfl
@[simp] theorem State.setStaged_generation (t : Target) (x : DirEntry) : (s.setStaged t x).generation = s.generation := rfl
@[simp] theorem State.setStaged_stagedGroups (t : Target) (x : DirEntry) : (s.setStaged t x).stagedGroups = s.stagedGroups := rfl
@[simp] theorem State.setStaged_activeGroups (t : Target) (x : DirEntry) : (s.setStaged t x).activeGroups = s.activeGroups := rfl
@[simp] theorem State.setStaged_status (t : Target) (x : DirEntry) : (s.setStaged t x).status = s.status := rfl
@[simp] theorem State.setStaged_contexts (t : Target) (x : DirEntry) : (s.setStaged t x).contexts = s.contexts := rfl
@[simp] theorem State.setStaged_lanes (t : Target) (x : DirEntry) : (s.setStaged t x).lanes = s.lanes := rfl
@[simp] theorem State.setStaged_classes (t : Target) (x : DirEntry) : (s.setStaged t x).classes = s.classes := rfl
@[simp] theorem State.setStaged_claims (t : Target) (x : DirEntry) : (s.setStaged t x).claims = s.claims := rfl
@[simp] theorem State.setStaged_sources (t : Target) (x : DirEntry) : (s.setStaged t x).sources = s.sources := rfl
@[simp] theorem State.setStaged_records (t : Target) (x : DirEntry) : (s.setStaged t x).records = s.records := rfl
@[simp] theorem State.setStaged_lostCount (t : Target) (x : DirEntry) : (s.setStaged t x).lostCount = s.lostCount := rfl
@[simp] theorem State.setStaged_nextRecord (t : Target) (x : DirEntry) : (s.setStaged t x).nextRecord = s.nextRecord := rfl
@[simp] theorem State.setStaged_alertM0 (t : Target) (x : DirEntry) : (s.setStaged t x).alertM0 = s.alertM0 := rfl
@[simp] theorem State.setStaged_alertM1 (t : Target) (x : DirEntry) : (s.setStaged t x).alertM1 = s.alertM1 := rfl
@[simp] theorem State.setStaged_portM0 (t : Target) (x : DirEntry) : (s.setStaged t x).portM0 = s.portM0 := rfl
@[simp] theorem State.setStaged_portM1 (t : Target) (x : DirEntry) : (s.setStaged t x).portM1 = s.portM1 := rfl
@[simp] theorem State.setStaged_fabricResets (t : Target) (x : DirEntry) : (s.setStaged t x).fabricResets = s.fabricResets := rfl
@[simp] theorem State.setStaged_pending (t : Target) (x : DirEntry) : (s.setStaged t x).pending = s.pending := rfl

/-! ## State.setSource -/

@[simp] theorem State.setSource_phase (a : Source) (x : SourceRecord) : (s.setSource a x).phase = s.phase := rfl
@[simp] theorem State.setSource_timebase (a : Source) (x : SourceRecord) : (s.setSource a x).timebase = s.timebase := rfl
@[simp] theorem State.setSource_hub (a : Source) (x : SourceRecord) : (s.setSource a x).hub = s.hub := rfl
@[simp] theorem State.setSource_rightsM1 (a : Source) (x : SourceRecord) : (s.setSource a x).rightsM1 = s.rightsM1 := rfl
@[simp] theorem State.setSource_quotaM0 (a : Source) (x : SourceRecord) : (s.setSource a x).quotaM0 = s.quotaM0 := rfl
@[simp] theorem State.setSource_quotaM1 (a : Source) (x : SourceRecord) : (s.setSource a x).quotaM1 = s.quotaM1 := rfl
@[simp] theorem State.setSource_roundRobin (a : Source) (x : SourceRecord) : (s.setSource a x).roundRobin = s.roundRobin := rfl
@[simp] theorem State.setSource_admission (a : Source) (x : SourceRecord) : (s.setSource a x).admission = s.admission := rfl
@[simp] theorem State.setSource_staged (a : Source) (x : SourceRecord) : (s.setSource a x).staged = s.staged := rfl
@[simp] theorem State.setSource_active (a : Source) (x : SourceRecord) : (s.setSource a x).active = s.active := rfl
@[simp] theorem State.setSource_generation (a : Source) (x : SourceRecord) : (s.setSource a x).generation = s.generation := rfl
@[simp] theorem State.setSource_stagedGroups (a : Source) (x : SourceRecord) : (s.setSource a x).stagedGroups = s.stagedGroups := rfl
@[simp] theorem State.setSource_activeGroups (a : Source) (x : SourceRecord) : (s.setSource a x).activeGroups = s.activeGroups := rfl
@[simp] theorem State.setSource_status (a : Source) (x : SourceRecord) : (s.setSource a x).status = s.status := rfl
@[simp] theorem State.setSource_contexts (a : Source) (x : SourceRecord) : (s.setSource a x).contexts = s.contexts := rfl
@[simp] theorem State.setSource_lanes (a : Source) (x : SourceRecord) : (s.setSource a x).lanes = s.lanes := rfl
@[simp] theorem State.setSource_classes (a : Source) (x : SourceRecord) : (s.setSource a x).classes = s.classes := rfl
@[simp] theorem State.setSource_claims (a : Source) (x : SourceRecord) : (s.setSource a x).claims = s.claims := rfl
@[simp] theorem State.setSource_records (a : Source) (x : SourceRecord) : (s.setSource a x).records = s.records := rfl
@[simp] theorem State.setSource_lostCount (a : Source) (x : SourceRecord) : (s.setSource a x).lostCount = s.lostCount := rfl
@[simp] theorem State.setSource_nextRecord (a : Source) (x : SourceRecord) : (s.setSource a x).nextRecord = s.nextRecord := rfl
@[simp] theorem State.setSource_alertM0 (a : Source) (x : SourceRecord) : (s.setSource a x).alertM0 = s.alertM0 := rfl
@[simp] theorem State.setSource_alertM1 (a : Source) (x : SourceRecord) : (s.setSource a x).alertM1 = s.alertM1 := rfl
@[simp] theorem State.setSource_portM0 (a : Source) (x : SourceRecord) : (s.setSource a x).portM0 = s.portM0 := rfl
@[simp] theorem State.setSource_portM1 (a : Source) (x : SourceRecord) : (s.setSource a x).portM1 = s.portM1 := rfl
@[simp] theorem State.setSource_fabricResets (a : Source) (x : SourceRecord) : (s.setSource a x).fabricResets = s.fabricResets := rfl
@[simp] theorem State.setSource_pending (a : Source) (x : SourceRecord) : (s.setSource a x).pending = s.pending := rfl

/-! ## State.setPort -/

@[simp] theorem State.setPort_phase (m : Master) (x : Port) : (s.setPort m x).phase = s.phase := by
  cases m <;> rfl
@[simp] theorem State.setPort_timebase (m : Master) (x : Port) : (s.setPort m x).timebase = s.timebase := by
  cases m <;> rfl
@[simp] theorem State.setPort_hub (m : Master) (x : Port) : (s.setPort m x).hub = s.hub := by
  cases m <;> rfl
@[simp] theorem State.setPort_rightsM1 (m : Master) (x : Port) : (s.setPort m x).rightsM1 = s.rightsM1 := by
  cases m <;> rfl
@[simp] theorem State.setPort_quotaM0 (m : Master) (x : Port) : (s.setPort m x).quotaM0 = s.quotaM0 := by
  cases m <;> rfl
@[simp] theorem State.setPort_quotaM1 (m : Master) (x : Port) : (s.setPort m x).quotaM1 = s.quotaM1 := by
  cases m <;> rfl
@[simp] theorem State.setPort_roundRobin (m : Master) (x : Port) : (s.setPort m x).roundRobin = s.roundRobin := by
  cases m <;> rfl
@[simp] theorem State.setPort_admission (m : Master) (x : Port) : (s.setPort m x).admission = s.admission := by
  cases m <;> rfl
@[simp] theorem State.setPort_staged (m : Master) (x : Port) : (s.setPort m x).staged = s.staged := by
  cases m <;> rfl
@[simp] theorem State.setPort_active (m : Master) (x : Port) : (s.setPort m x).active = s.active := by
  cases m <;> rfl
@[simp] theorem State.setPort_generation (m : Master) (x : Port) : (s.setPort m x).generation = s.generation := by
  cases m <;> rfl
@[simp] theorem State.setPort_stagedGroups (m : Master) (x : Port) : (s.setPort m x).stagedGroups = s.stagedGroups := by
  cases m <;> rfl
@[simp] theorem State.setPort_activeGroups (m : Master) (x : Port) : (s.setPort m x).activeGroups = s.activeGroups := by
  cases m <;> rfl
@[simp] theorem State.setPort_status (m : Master) (x : Port) : (s.setPort m x).status = s.status := by
  cases m <;> rfl
@[simp] theorem State.setPort_contexts (m : Master) (x : Port) : (s.setPort m x).contexts = s.contexts := by
  cases m <;> rfl
@[simp] theorem State.setPort_lanes (m : Master) (x : Port) : (s.setPort m x).lanes = s.lanes := by
  cases m <;> rfl
@[simp] theorem State.setPort_classes (m : Master) (x : Port) : (s.setPort m x).classes = s.classes := by
  cases m <;> rfl
@[simp] theorem State.setPort_claims (m : Master) (x : Port) : (s.setPort m x).claims = s.claims := by
  cases m <;> rfl
@[simp] theorem State.setPort_sources (m : Master) (x : Port) : (s.setPort m x).sources = s.sources := by
  cases m <;> rfl
@[simp] theorem State.setPort_records (m : Master) (x : Port) : (s.setPort m x).records = s.records := by
  cases m <;> rfl
@[simp] theorem State.setPort_lostCount (m : Master) (x : Port) : (s.setPort m x).lostCount = s.lostCount := by
  cases m <;> rfl
@[simp] theorem State.setPort_nextRecord (m : Master) (x : Port) : (s.setPort m x).nextRecord = s.nextRecord := by
  cases m <;> rfl
@[simp] theorem State.setPort_alertM0 (m : Master) (x : Port) : (s.setPort m x).alertM0 = s.alertM0 := by
  cases m <;> rfl
@[simp] theorem State.setPort_alertM1 (m : Master) (x : Port) : (s.setPort m x).alertM1 = s.alertM1 := by
  cases m <;> rfl
@[simp] theorem State.setPort_fabricResets (m : Master) (x : Port) : (s.setPort m x).fabricResets = s.fabricResets := by
  cases m <;> rfl
@[simp] theorem State.setPort_pending (m : Master) (x : Port) : (s.setPort m x).pending = s.pending := by
  cases m <;> rfl

/-! ## State.setAlert -/

@[simp] theorem State.setAlert_phase (m : Master) (x : AlertState) : (s.setAlert m x).phase = s.phase := by
  cases m <;> rfl
@[simp] theorem State.setAlert_timebase (m : Master) (x : AlertState) : (s.setAlert m x).timebase = s.timebase := by
  cases m <;> rfl
@[simp] theorem State.setAlert_hub (m : Master) (x : AlertState) : (s.setAlert m x).hub = s.hub := by
  cases m <;> rfl
@[simp] theorem State.setAlert_rightsM1 (m : Master) (x : AlertState) : (s.setAlert m x).rightsM1 = s.rightsM1 := by
  cases m <;> rfl
@[simp] theorem State.setAlert_quotaM0 (m : Master) (x : AlertState) : (s.setAlert m x).quotaM0 = s.quotaM0 := by
  cases m <;> rfl
@[simp] theorem State.setAlert_quotaM1 (m : Master) (x : AlertState) : (s.setAlert m x).quotaM1 = s.quotaM1 := by
  cases m <;> rfl
@[simp] theorem State.setAlert_roundRobin (m : Master) (x : AlertState) : (s.setAlert m x).roundRobin = s.roundRobin := by
  cases m <;> rfl
@[simp] theorem State.setAlert_admission (m : Master) (x : AlertState) : (s.setAlert m x).admission = s.admission := by
  cases m <;> rfl
@[simp] theorem State.setAlert_staged (m : Master) (x : AlertState) : (s.setAlert m x).staged = s.staged := by
  cases m <;> rfl
@[simp] theorem State.setAlert_active (m : Master) (x : AlertState) : (s.setAlert m x).active = s.active := by
  cases m <;> rfl
@[simp] theorem State.setAlert_generation (m : Master) (x : AlertState) : (s.setAlert m x).generation = s.generation := by
  cases m <;> rfl
@[simp] theorem State.setAlert_stagedGroups (m : Master) (x : AlertState) : (s.setAlert m x).stagedGroups = s.stagedGroups := by
  cases m <;> rfl
@[simp] theorem State.setAlert_activeGroups (m : Master) (x : AlertState) : (s.setAlert m x).activeGroups = s.activeGroups := by
  cases m <;> rfl
@[simp] theorem State.setAlert_status (m : Master) (x : AlertState) : (s.setAlert m x).status = s.status := by
  cases m <;> rfl
@[simp] theorem State.setAlert_contexts (m : Master) (x : AlertState) : (s.setAlert m x).contexts = s.contexts := by
  cases m <;> rfl
@[simp] theorem State.setAlert_lanes (m : Master) (x : AlertState) : (s.setAlert m x).lanes = s.lanes := by
  cases m <;> rfl
@[simp] theorem State.setAlert_classes (m : Master) (x : AlertState) : (s.setAlert m x).classes = s.classes := by
  cases m <;> rfl
@[simp] theorem State.setAlert_claims (m : Master) (x : AlertState) : (s.setAlert m x).claims = s.claims := by
  cases m <;> rfl
@[simp] theorem State.setAlert_sources (m : Master) (x : AlertState) : (s.setAlert m x).sources = s.sources := by
  cases m <;> rfl
@[simp] theorem State.setAlert_records (m : Master) (x : AlertState) : (s.setAlert m x).records = s.records := by
  cases m <;> rfl
@[simp] theorem State.setAlert_lostCount (m : Master) (x : AlertState) : (s.setAlert m x).lostCount = s.lostCount := by
  cases m <;> rfl
@[simp] theorem State.setAlert_nextRecord (m : Master) (x : AlertState) : (s.setAlert m x).nextRecord = s.nextRecord := by
  cases m <;> rfl
@[simp] theorem State.setAlert_portM0 (m : Master) (x : AlertState) : (s.setAlert m x).portM0 = s.portM0 := by
  cases m <;> rfl
@[simp] theorem State.setAlert_portM1 (m : Master) (x : AlertState) : (s.setAlert m x).portM1 = s.portM1 := by
  cases m <;> rfl
@[simp] theorem State.setAlert_fabricResets (m : Master) (x : AlertState) : (s.setAlert m x).fabricResets = s.fabricResets := by
  cases m <;> rfl
@[simp] theorem State.setAlert_pending (m : Master) (x : AlertState) : (s.setAlert m x).pending = s.pending := by
  cases m <;> rfl

/-! ## Reading one record after replacing another -/

@[simp] theorem State.ctx_setLane (l : LaneId) (x : Lane) (i : CtxId) :
    (s.setLane l x).ctx i = s.ctx i := rfl
@[simp] theorem State.record_setLane (l : LaneId) (x : Lane) (i : Target) :
    (s.setLane l x).record i = s.record i := rfl
@[simp] theorem State.claim_setLane (l : LaneId) (x : Lane) (i : ClaimId) :
    (s.setLane l x).claim i = s.claim i := rfl
@[simp] theorem State.activeEntry_setLane (l : LaneId) (x : Lane) (i : Target) :
    (s.setLane l x).activeEntry i = s.activeEntry i := rfl
@[simp] theorem State.stagedEntry_setLane (l : LaneId) (x : Lane) (i : Target) :
    (s.setLane l x).stagedEntry i = s.stagedEntry i := rfl
@[simp] theorem State.source_setLane (l : LaneId) (x : Lane) (i : Source) :
    (s.setLane l x).source i = s.source i := rfl
@[simp] theorem State.port_setLane (l : LaneId) (x : Lane) (i : Master) :
    (s.setLane l x).port i = s.port i := by
  cases i <;> rfl
@[simp] theorem State.alert_setLane (l : LaneId) (x : Lane) (i : Master) :
    (s.setLane l x).alert i = s.alert i := by
  cases i <;> rfl
@[simp] theorem State.lane_setCtx (c : CtxId) (x : Option Ctx) (i : LaneId) :
    (s.setCtx c x).lane i = s.lane i := rfl
@[simp] theorem State.record_setCtx (c : CtxId) (x : Option Ctx) (i : Target) :
    (s.setCtx c x).record i = s.record i := rfl
@[simp] theorem State.claim_setCtx (c : CtxId) (x : Option Ctx) (i : ClaimId) :
    (s.setCtx c x).claim i = s.claim i := rfl
@[simp] theorem State.activeEntry_setCtx (c : CtxId) (x : Option Ctx) (i : Target) :
    (s.setCtx c x).activeEntry i = s.activeEntry i := rfl
@[simp] theorem State.stagedEntry_setCtx (c : CtxId) (x : Option Ctx) (i : Target) :
    (s.setCtx c x).stagedEntry i = s.stagedEntry i := rfl
@[simp] theorem State.source_setCtx (c : CtxId) (x : Option Ctx) (i : Source) :
    (s.setCtx c x).source i = s.source i := rfl
@[simp] theorem State.port_setCtx (c : CtxId) (x : Option Ctx) (i : Master) :
    (s.setCtx c x).port i = s.port i := by
  cases i <;> rfl
@[simp] theorem State.alert_setCtx (c : CtxId) (x : Option Ctx) (i : Master) :
    (s.setCtx c x).alert i = s.alert i := by
  cases i <;> rfl
@[simp] theorem State.lane_setRecord (t : Target) (x : TargetRecord) (i : LaneId) :
    (s.setRecord t x).lane i = s.lane i := rfl
@[simp] theorem State.ctx_setRecord (t : Target) (x : TargetRecord) (i : CtxId) :
    (s.setRecord t x).ctx i = s.ctx i := rfl
@[simp] theorem State.claim_setRecord (t : Target) (x : TargetRecord) (i : ClaimId) :
    (s.setRecord t x).claim i = s.claim i := rfl
@[simp] theorem State.activeEntry_setRecord (t : Target) (x : TargetRecord) (i : Target) :
    (s.setRecord t x).activeEntry i = s.activeEntry i := rfl
@[simp] theorem State.stagedEntry_setRecord (t : Target) (x : TargetRecord) (i : Target) :
    (s.setRecord t x).stagedEntry i = s.stagedEntry i := rfl
@[simp] theorem State.source_setRecord (t : Target) (x : TargetRecord) (i : Source) :
    (s.setRecord t x).source i = s.source i := rfl
@[simp] theorem State.port_setRecord (t : Target) (x : TargetRecord) (i : Master) :
    (s.setRecord t x).port i = s.port i := by
  cases i <;> rfl
@[simp] theorem State.alert_setRecord (t : Target) (x : TargetRecord) (i : Master) :
    (s.setRecord t x).alert i = s.alert i := by
  cases i <;> rfl
@[simp] theorem State.lane_setClaim (k : ClaimId) (x : Option Claim) (i : LaneId) :
    (s.setClaim k x).lane i = s.lane i := rfl
@[simp] theorem State.ctx_setClaim (k : ClaimId) (x : Option Claim) (i : CtxId) :
    (s.setClaim k x).ctx i = s.ctx i := rfl
@[simp] theorem State.record_setClaim (k : ClaimId) (x : Option Claim) (i : Target) :
    (s.setClaim k x).record i = s.record i := rfl
@[simp] theorem State.activeEntry_setClaim (k : ClaimId) (x : Option Claim) (i : Target) :
    (s.setClaim k x).activeEntry i = s.activeEntry i := rfl
@[simp] theorem State.stagedEntry_setClaim (k : ClaimId) (x : Option Claim) (i : Target) :
    (s.setClaim k x).stagedEntry i = s.stagedEntry i := rfl
@[simp] theorem State.source_setClaim (k : ClaimId) (x : Option Claim) (i : Source) :
    (s.setClaim k x).source i = s.source i := rfl
@[simp] theorem State.port_setClaim (k : ClaimId) (x : Option Claim) (i : Master) :
    (s.setClaim k x).port i = s.port i := by
  cases i <;> rfl
@[simp] theorem State.alert_setClaim (k : ClaimId) (x : Option Claim) (i : Master) :
    (s.setClaim k x).alert i = s.alert i := by
  cases i <;> rfl
@[simp] theorem State.lane_setActive (t : Target) (x : ActiveEntry) (i : LaneId) :
    (s.setActive t x).lane i = s.lane i := rfl
@[simp] theorem State.ctx_setActive (t : Target) (x : ActiveEntry) (i : CtxId) :
    (s.setActive t x).ctx i = s.ctx i := rfl
@[simp] theorem State.record_setActive (t : Target) (x : ActiveEntry) (i : Target) :
    (s.setActive t x).record i = s.record i := rfl
@[simp] theorem State.claim_setActive (t : Target) (x : ActiveEntry) (i : ClaimId) :
    (s.setActive t x).claim i = s.claim i := rfl
@[simp] theorem State.stagedEntry_setActive (t : Target) (x : ActiveEntry) (i : Target) :
    (s.setActive t x).stagedEntry i = s.stagedEntry i := rfl
@[simp] theorem State.source_setActive (t : Target) (x : ActiveEntry) (i : Source) :
    (s.setActive t x).source i = s.source i := rfl
@[simp] theorem State.port_setActive (t : Target) (x : ActiveEntry) (i : Master) :
    (s.setActive t x).port i = s.port i := by
  cases i <;> rfl
@[simp] theorem State.alert_setActive (t : Target) (x : ActiveEntry) (i : Master) :
    (s.setActive t x).alert i = s.alert i := by
  cases i <;> rfl
@[simp] theorem State.lane_setStaged (t : Target) (x : DirEntry) (i : LaneId) :
    (s.setStaged t x).lane i = s.lane i := rfl
@[simp] theorem State.ctx_setStaged (t : Target) (x : DirEntry) (i : CtxId) :
    (s.setStaged t x).ctx i = s.ctx i := rfl
@[simp] theorem State.record_setStaged (t : Target) (x : DirEntry) (i : Target) :
    (s.setStaged t x).record i = s.record i := rfl
@[simp] theorem State.claim_setStaged (t : Target) (x : DirEntry) (i : ClaimId) :
    (s.setStaged t x).claim i = s.claim i := rfl
@[simp] theorem State.activeEntry_setStaged (t : Target) (x : DirEntry) (i : Target) :
    (s.setStaged t x).activeEntry i = s.activeEntry i := rfl
@[simp] theorem State.source_setStaged (t : Target) (x : DirEntry) (i : Source) :
    (s.setStaged t x).source i = s.source i := rfl
@[simp] theorem State.port_setStaged (t : Target) (x : DirEntry) (i : Master) :
    (s.setStaged t x).port i = s.port i := by
  cases i <;> rfl
@[simp] theorem State.alert_setStaged (t : Target) (x : DirEntry) (i : Master) :
    (s.setStaged t x).alert i = s.alert i := by
  cases i <;> rfl
@[simp] theorem State.lane_setSource (a : Source) (x : SourceRecord) (i : LaneId) :
    (s.setSource a x).lane i = s.lane i := rfl
@[simp] theorem State.ctx_setSource (a : Source) (x : SourceRecord) (i : CtxId) :
    (s.setSource a x).ctx i = s.ctx i := rfl
@[simp] theorem State.record_setSource (a : Source) (x : SourceRecord) (i : Target) :
    (s.setSource a x).record i = s.record i := rfl
@[simp] theorem State.claim_setSource (a : Source) (x : SourceRecord) (i : ClaimId) :
    (s.setSource a x).claim i = s.claim i := rfl
@[simp] theorem State.activeEntry_setSource (a : Source) (x : SourceRecord) (i : Target) :
    (s.setSource a x).activeEntry i = s.activeEntry i := rfl
@[simp] theorem State.stagedEntry_setSource (a : Source) (x : SourceRecord) (i : Target) :
    (s.setSource a x).stagedEntry i = s.stagedEntry i := rfl
@[simp] theorem State.port_setSource (a : Source) (x : SourceRecord) (i : Master) :
    (s.setSource a x).port i = s.port i := by
  cases i <;> rfl
@[simp] theorem State.alert_setSource (a : Source) (x : SourceRecord) (i : Master) :
    (s.setSource a x).alert i = s.alert i := by
  cases i <;> rfl
@[simp] theorem State.lane_setPort (m : Master) (x : Port) (i : LaneId) :
    (s.setPort m x).lane i = s.lane i := by
  cases m <;> rfl
@[simp] theorem State.ctx_setPort (m : Master) (x : Port) (i : CtxId) :
    (s.setPort m x).ctx i = s.ctx i := by
  cases m <;> rfl
@[simp] theorem State.record_setPort (m : Master) (x : Port) (i : Target) :
    (s.setPort m x).record i = s.record i := by
  cases m <;> rfl
@[simp] theorem State.claim_setPort (m : Master) (x : Port) (i : ClaimId) :
    (s.setPort m x).claim i = s.claim i := by
  cases m <;> rfl
@[simp] theorem State.activeEntry_setPort (m : Master) (x : Port) (i : Target) :
    (s.setPort m x).activeEntry i = s.activeEntry i := by
  cases m <;> rfl
@[simp] theorem State.stagedEntry_setPort (m : Master) (x : Port) (i : Target) :
    (s.setPort m x).stagedEntry i = s.stagedEntry i := by
  cases m <;> rfl
@[simp] theorem State.source_setPort (m : Master) (x : Port) (i : Source) :
    (s.setPort m x).source i = s.source i := by
  cases m <;> rfl
@[simp] theorem State.alert_setPort (m : Master) (x : Port) (i : Master) :
    (s.setPort m x).alert i = s.alert i := by
  cases m <;> cases i <;> rfl
@[simp] theorem State.lane_setAlert (m : Master) (x : AlertState) (i : LaneId) :
    (s.setAlert m x).lane i = s.lane i := by
  cases m <;> rfl
@[simp] theorem State.ctx_setAlert (m : Master) (x : AlertState) (i : CtxId) :
    (s.setAlert m x).ctx i = s.ctx i := by
  cases m <;> rfl
@[simp] theorem State.record_setAlert (m : Master) (x : AlertState) (i : Target) :
    (s.setAlert m x).record i = s.record i := by
  cases m <;> rfl
@[simp] theorem State.claim_setAlert (m : Master) (x : AlertState) (i : ClaimId) :
    (s.setAlert m x).claim i = s.claim i := by
  cases m <;> rfl
@[simp] theorem State.activeEntry_setAlert (m : Master) (x : AlertState) (i : Target) :
    (s.setAlert m x).activeEntry i = s.activeEntry i := by
  cases m <;> rfl
@[simp] theorem State.stagedEntry_setAlert (m : Master) (x : AlertState) (i : Target) :
    (s.setAlert m x).stagedEntry i = s.stagedEntry i := by
  cases m <;> rfl
@[simp] theorem State.source_setAlert (m : Master) (x : AlertState) (i : Source) :
    (s.setAlert m x).source i = s.source i := by
  cases m <;> rfl
@[simp] theorem State.port_setAlert (m : Master) (x : AlertState) (i : Master) :
    (s.setAlert m x).port i = s.port i := by
  cases m <;> cases i <;> rfl

/-! ## The parts of a fabric reset at the lanes: nothing is due on the running part (R80) -/

@[simp] theorem State.resetDue_running (h : s.phase = .running) : s.resetDue = false := by
  simp [State.resetDue, h]

@[simp] theorem State.settle_running (h : s.phase = .running) : s.settle = s := by
  simp [State.settle, h]

@[simp] theorem State.sentCtx_running (h : s.phase = .running) (c : CtxId) : s.sentCtx c = s.ctx c := by
  simp [State.sentCtx, h]

/-! ## Reading back what was replaced -/

@[simp] theorem State.lane_setLane_same (l : LaneId) (x : Lane) : (s.setLane l x).lane l = x := by
  simp [State.lane, State.setLane]

theorem State.lane_setLane (l : LaneId) (x : Lane) (i : LaneId) :
    (s.setLane l x).lane i = if i = l then x else s.lane i := by
  by_cases h : i = l
  · subst h; simp
  · have h2 : (l : Nat) ≠ i := fun e => h (Fin.ext e.symm)
    simp [State.lane, State.setLane, h, h2]

@[simp] theorem State.ctx_setCtx_same (c : CtxId) (x : Option Ctx) : (s.setCtx c x).ctx c = x := by
  simp [State.ctx, State.setCtx]

theorem State.ctx_setCtx (c : CtxId) (x : Option Ctx) (i : CtxId) :
    (s.setCtx c x).ctx i = if i = c then x else s.ctx i := by
  by_cases h : i = c
  · subst h; simp
  · have h2 : (c : Nat) ≠ i := fun e => h (Fin.ext e.symm)
    simp [State.ctx, State.setCtx, h, h2]

@[simp] theorem State.record_setRecord_same (t : Target) (x : TargetRecord) : (s.setRecord t x).record t = x := by
  simp [State.record, State.setRecord]

theorem State.record_setRecord (t : Target) (x : TargetRecord) (i : Target) :
    (s.setRecord t x).record i = if i = t then x else s.record i := by
  by_cases h : i = t
  · subst h; simp
  · have h2 : (t : Nat) ≠ i := fun e => h (Fin.ext e.symm)
    simp [State.record, State.setRecord, h, h2]

@[simp] theorem State.claim_setClaim_same (k : ClaimId) (x : Option Claim) : (s.setClaim k x).claim k = x := by
  simp [State.claim, State.setClaim]

theorem State.claim_setClaim (k : ClaimId) (x : Option Claim) (i : ClaimId) :
    (s.setClaim k x).claim i = if i = k then x else s.claim i := by
  by_cases h : i = k
  · subst h; simp
  · have h2 : (k : Nat) ≠ i := fun e => h (Fin.ext e.symm)
    simp [State.claim, State.setClaim, h, h2]

@[simp] theorem State.activeEntry_setActive_same (t : Target) (x : ActiveEntry) : (s.setActive t x).activeEntry t = x := by
  simp [State.activeEntry, State.setActive]

theorem State.activeEntry_setActive (t : Target) (x : ActiveEntry) (i : Target) :
    (s.setActive t x).activeEntry i = if i = t then x else s.activeEntry i := by
  by_cases h : i = t
  · subst h; simp
  · have h2 : (t : Nat) ≠ i := fun e => h (Fin.ext e.symm)
    simp [State.activeEntry, State.setActive, h, h2]

@[simp] theorem State.stagedEntry_setStaged_same (t : Target) (x : DirEntry) : (s.setStaged t x).stagedEntry t = x := by
  simp [State.stagedEntry, State.setStaged]

theorem State.stagedEntry_setStaged (t : Target) (x : DirEntry) (i : Target) :
    (s.setStaged t x).stagedEntry i = if i = t then x else s.stagedEntry i := by
  by_cases h : i = t
  · subst h; simp
  · have h2 : (t : Nat) ≠ i := fun e => h (Fin.ext e.symm)
    simp [State.stagedEntry, State.setStaged, h, h2]

@[simp] theorem State.port_setPort_same (m : Master) (x : Port) : (s.setPort m x).port m = x := by
  cases m <;> rfl

@[simp] theorem State.port_setPort_other (m : Master) (x : Port) :
    (s.setPort m x).port m.other = s.port m.other := by
  cases m <;> rfl

/-- Of two updates of one port the second stands. -/
@[simp] theorem State.setPort_setPort (m : Master) (x y : Port) : (s.setPort m x).setPort m y = s.setPort m y := by
  cases m <;> rfl

theorem State.port_setPort (m : Master) (x : Port) (i : Master) :
    (s.setPort m x).port i = if i = m then x else s.port i := by
  cases m <;> cases i <;> rfl

@[simp] theorem State.alert_setAlert_same (m : Master) (x : AlertState) : (s.setAlert m x).alert m = x := by
  cases m <;> rfl

@[simp] theorem State.alert_setAlert_other (m : Master) (x : AlertState) :
    (s.setAlert m x).alert m.other = s.alert m.other := by
  cases m <;> rfl

theorem State.alert_setAlert (m : Master) (x : AlertState) (i : Master) :
    (s.setAlert m x).alert i = if i = m then x else s.alert i := by
  cases m <;> cases i <;> rfl

/-- Of two updates of one lane the second stands. -/
@[simp] theorem State.setLane_setLane (l : LaneId) (x y : Lane) : (s.setLane l x).setLane l y = s.setLane l y := by
  simp [State.setLane]

theorem Source.index_inj (a b : Source) (h : a.index = b.index) : a = b := by
  cases a <;> cases b <;> first | rfl | exact absurd h (by decide)

@[simp] theorem State.source_setSource_same (a : Source) (x : SourceRecord) : (s.setSource a x).source a = x := by
  simp [State.source, State.setSource]

theorem State.source_setSource (a : Source) (x : SourceRecord) (i : Source) :
    (s.setSource a x).source i = if i = a then x else s.source i := by
  by_cases h : i = a
  · subst h; simp
  · have h2 : (a.index : Nat) ≠ i.index := fun e => h (Source.index_inj _ _ (Fin.ext e.symm))
    simp [State.source, State.setSource, h, h2]

end Sys2Proof.Machine
end

