-- ==== Sys2Proof/Laws/Tracker.lean ====
section
/-! SUPPORT. What the ending of a leg leaves alone: a response into its slot, a fall, a grant, a completion and an
ending of a lane's work change contexts, Target Status records, claims and response slots, and nothing else. -/

namespace Sys2Proof.Machine

/-- The fields that no leg, no lane and no fault changes. -/
structure Fixed where
  phase        : Phase
  timebase     : Time
  rightsM1     : Rights
  quotaM0      : Nat
  quotaM1      : Nat
  roundRobin   : Master
  admission    : BitVec 32
  staged       : Vector DirEntry 63
  generation   : BitVec 16
  stagedGroups : Vector GroupEntry 15
  activeGroups : Vector GroupEntry 15
  classes      : Vector DeadlineClass 4
  fabricResets : Nat
  pending      : List Instr

def State.fixed (s : State) : Fixed :=
  ⟨s.phase, s.timebase, s.rightsM1, s.quotaM0, s.quotaM1, s.roundRobin, s.admission, s.staged, s.generation,
    s.stagedGroups, s.activeGroups, s.classes, s.fabricResets, s.pending⟩

/-- What the ending of a leg leaves alone, besides most of the ports. -/
structure Outside where
  fixed      : Fixed
  hub        : HubState
  active     : Vector ActiveEntry 63
  lanes      : Vector Lane 12
  sources    : Vector SourceRecord 22
  records    : List FaultRecord
  lostCount  : Nat
  nextRecord : BitVec 16
  alertM0    : AlertState
  alertM1    : AlertState

def State.outside (s : State) : Outside :=
  ⟨s.fixed, s.hub, s.active, s.lanes, s.sources, s.records, s.lostCount, s.nextRecord, s.alertM0, s.alertM1⟩

/-- A port without its response slots. -/
def Port.rest (p : Port) : Port := { p with reserved := 0, filled := [] }

/-- Who owns a claim record and what it covers. -/
def State.scopeOf (s : State) (k : ClaimId) : Option (Master × List Target) :=
  (s.claim k).map (fun c => (c.owner, c.members))

/-- The two states agree but for contexts, Target Status records, the states of claims and response slots, and each
master has as many slots reserved or filled. -/
structure LegFrame (s t : State) : Prop where
  outside : t.outside = s.outside
  rest    : ∀ m, (t.port m).rest = (s.port m).rest
  slots   : ∀ m, (t.port m).slotsUsed = (s.port m).slotsUsed
  scopes  : ∀ k, t.scopeOf k = s.scopeOf k

theorem LegFrame.refl (s : State) : LegFrame s s := ⟨rfl, fun _ => rfl, fun _ => rfl, fun _ => rfl⟩

theorem LegFrame.trans {s t u : State} (h : LegFrame s t) (k : LegFrame t u) : LegFrame s u :=
  ⟨k.outside.trans h.outside, fun m => (k.rest m).trans (h.rest m), fun m => (k.slots m).trans (h.slots m),
    fun i => (k.scopes i).trans (h.scopes i)⟩

theorem Port.fill_rest (p : Port) (r : Response) : (p.fill r).rest = p.rest := by
  unfold Port.fill; split <;> rfl

theorem Port.fill_slotsUsed (p : Port) (r : Response) : (p.fill r).slotsUsed = p.slotsUsed := by
  unfold Port.fill; split
  · rfl
  · simp [Port.slotsUsed]; omega

theorem fillSlot_frame (s : State) (m : Master) (r : Response) : LegFrame s (s.fillSlot m r) := by
  refine ⟨by cases m <;> rfl, fun i => ?_, fun i => ?_, fun k => by simp [State.scopeOf, State.fillSlot,
    State.modifyPort]⟩ <;>
    · simp only [State.fillSlot, State.modifyPort, State.port_setPort]
      split
      · subst i; simp [Port.fill_rest, Port.fill_slotsUsed]
      · rfl

theorem setCtx_frame (s : State) (c : CtxId) (x : Option Ctx) : LegFrame s (s.setCtx c x) :=
  ⟨rfl, fun m => by simp, fun m => by simp, fun _ => rfl⟩

theorem setRecord_frame (s : State) (t : Target) (x : TargetRecord) : LegFrame s (s.setRecord t x) :=
  ⟨rfl, fun m => by simp, fun m => by simp, fun _ => rfl⟩

theorem setClaim_frame (s : State) (k : ClaimId) (x : Option Claim)
    (h : x.map (fun c => (c.owner, c.members)) = s.scopeOf k) : LegFrame s (s.setClaim k x) := by
  refine ⟨rfl, fun m => by simp, fun m => by simp, fun i => ?_⟩
  unfold State.scopeOf
  rw [State.claim_setClaim]
  split
  · subst i; exact h
  · rfl

theorem grantClaim_frame (s : State) (k : ClaimId) : LegFrame s (s.grantClaim k) := by
  unfold State.grantClaim
  split
  · rename_i c hc
    split
    · exact (setClaim_frame s k _ (by simp [State.scopeOf, hc])).trans (fillSlot_frame _ _ _)
    · exact .refl s
  · exact .refl s

theorem reexamine_frame (s : State) (m : Master) (t : Target) : LegFrame s (s.reexamine m t) := by
  unfold State.reexamine
  split
  · split
    · split
      · exact grantClaim_frame _ _
      · exact .refl s
    · exact .refl s
  · exact .refl s

theorem fall_frame (s : State) (m : Master) (t : Target) : LegFrame s (s.fall m t) :=
  (setRecord_frame _ _ _).trans (reexamine_frame _ _ _)

theorem rise_frame (s : State) (m : Master) (t : Target) : LegFrame s (s.rise m t) :=
  setRecord_frame _ _ _

theorem takeOutcome_frame (s : State) (m : Master) (t : Target) (o : LegOutcome) :
    LegFrame s (s.takeOutcome m t o) := by
  unfold State.takeOutcome
  dsimp only
  split
  · exact setRecord_frame _ _ _
  · exact (setRecord_frame _ _ _).trans (fall_frame _ _ _)

theorem endContext_frame (s : State) (c : CtxId) (x : Ctx) : LegFrame s (s.endContext c x) := by
  unfold State.endContext
  split
  · exact (setCtx_frame _ _ _).trans (fillSlot_frame _ _ _)
  · exact setCtx_frame _ _ _

/-- The completion of a leg (R61) leaves everything else alone. -/
theorem complete_frame (s : State) (r : LegRef) (o : LegOutcome) (ws : List Word) :
    LegFrame s (s.complete r o ws) := by
  unfold State.complete
  split
  · split
    · split
      · dsimp only
        split
        · exact ((setCtx_frame _ _ _).trans (takeOutcome_frame _ _ _ _)).trans (endContext_frame _ _ _)
        · exact (setCtx_frame _ _ _).trans (takeOutcome_frame _ _ _ _)
      · exact .refl s
    · exact .refl s
  · exact .refl s

theorem completeAll_frame (rs : List LegRef) (o : LegOutcome) (s : State) : LegFrame s (s.completeAll rs o) := by
  induction rs generalizing s with
  | nil => exact .refl s
  | cons r rs ih => exact (complete_frame s r o []).trans (ih _)

theorem slotFreed_frame (s : State) (m : Master) (t : Target) : LegFrame s (s.slotFreed m t) := by
  unfold State.slotFreed
  split
  · exact .refl s
  · exact fall_frame s m t

theorem fallAll_frame (ps : List (Master × Target)) (s : State) : LegFrame s (s.fallAll ps) := by
  induction ps generalizing s with
  | nil => exact .refl s
  | cons p ps ih => exact (slotFreed_frame s p.1 p.2).trans (ih _)

/-! ## The endings of a lane's work -/

/-- What an ending of a lane's work leaves alone: as `LegFrame`, but for the one lane. -/
structure LaneFrameOf (l : LaneId) (s t : State) : Prop where
  fixed  : t.fixed = s.fixed
  hub    : t.hub = s.hub
  active : t.active = s.active
  faults : (t.sources, t.records, t.lostCount, t.nextRecord) = (s.sources, s.records, s.lostCount, s.nextRecord)
  alerts : (t.alertM0, t.alertM1) = (s.alertM0, s.alertM1)
  lanes  : ∀ i, i ≠ l → t.lane i = s.lane i
  rest   : ∀ m, (t.port m).rest = (s.port m).rest
  slots  : ∀ m, (t.port m).slotsUsed = (s.port m).slotsUsed
  scopes : ∀ k, t.scopeOf k = s.scopeOf k

theorem LaneFrameOf.refl (l : LaneId) (s : State) : LaneFrameOf l s s :=
  ⟨rfl, rfl, rfl, rfl, rfl, fun _ _ => rfl, fun _ => rfl, fun _ => rfl, fun _ => rfl⟩

theorem LaneFrameOf.trans {l : LaneId} {s t u : State} (h : LaneFrameOf l s t) (k : LaneFrameOf l t u) :
    LaneFrameOf l s u :=
  ⟨k.fixed.trans h.fixed, k.hub.trans h.hub, k.active.trans h.active, k.faults.trans h.faults,
    k.alerts.trans h.alerts, fun i hi => (k.lanes i hi).trans (h.lanes i hi),
    fun m => (k.rest m).trans (h.rest m), fun m => (k.slots m).trans (h.slots m),
    fun i => (k.scopes i).trans (h.scopes i)⟩

theorem LegFrame.lane {s t : State} (h : LegFrame s t) (l : LaneId) : t.lane l = s.lane l := by
  have e : t.lanes = s.lanes := congrArg Outside.lanes h.outside
  simp [State.lane, e]

theorem LegFrame.toLane {s t : State} (h : LegFrame s t) (l : LaneId) : LaneFrameOf l s t where
  fixed := congrArg Outside.fixed h.outside
  hub := congrArg Outside.hub h.outside
  active := congrArg Outside.active h.outside
  faults := congrArg (fun o => (o.sources, o.records, o.lostCount, o.nextRecord)) h.outside
  alerts := congrArg (fun o => (o.alertM0, o.alertM1)) h.outside
  lanes := fun i _ => h.lane i
  rest := h.rest
  slots := h.slots
  scopes := h.scopes

theorem setLane_frame (s : State) (l : LaneId) (x : Lane) : LaneFrameOf l s (s.setLane l x) :=
  ⟨rfl, rfl, rfl, rfl, rfl, fun i hi => by simp [State.lane_setLane, hi], fun m => by simp, fun m => by simp,
    fun _ => rfl⟩

theorem endLaneWork_frame (s : State) (l : LaneId) : LaneFrameOf l s (s.endLaneWork l) :=
  (setLane_frame s l _).trans
    ((((completeAll_frame _ _ _).trans (fallAll_frame _ _)).trans (completeAll_frame _ _ _)).toLane l)

theorem fenceLane_frame (s : State) (l : LaneId) : LaneFrameOf l s (s.fenceLane l) := by
  unfold State.fenceLane
  dsimp only
  split
  · exact (setLane_frame s l _).trans ((completeAll_frame _ _ _).toLane l)
  · exact setLane_frame s l _
  · exact setLane_frame s l _
  · exact .refl l s
  · exact .refl l s

theorem trainLane_frame (s : State) (l : LaneId) : LaneFrameOf l s (s.trainLane l) := setLane_frame s l _

/-- A lane-wide ending leaves the lane with no queue and every slot FREE, and its other items as they were
(R100). -/
theorem endLaneWork_lane (s : State) (l : LaneId) :
    (s.endLaneWork l).lane l = { s.lane l with queue := [], window := emptyWindow } := by
  have h := (((completeAll_frame (s.lane l).issuedLegs .laneDown
    (s.setLane l { s.lane l with queue := [], window := emptyWindow })).trans
      (fallAll_frame (s.lane l).expiredPlaces _)).trans
        (completeAll_frame ((s.lane l).queue ++ s.pendingFor l) .laneDown _)).lane l
  simpa [State.endLaneWork] using h

end Sys2Proof.Machine
end

