-- ==== Sys2Proof/Laws/Faults.lean ====
section
/-! SUPPORT. What an occurrence (R140) and a table-integrity event (R19) leave alone, and the bounds they keep. -/

namespace Sys2Proof.Machine

/-- A port without its response slots and its ALERT ready. -/
def Port.outer (p : Port) : Port := { p with reserved := 0, filled := [], alertReady := none }

theorem Port.outer_of_rest {p q : Port} (h : p.rest = q.rest) : p.outer = q.outer := by
  have e := congrArg (fun x : Port => { x with alertReady := none }) h
  exact e

/-- What an occurrence leaves alone and keeps. -/
structure FaultFrame (s t : State) : Prop where
  fixed   : t.fixed = s.fixed
  outer   : ∀ m, (t.port m).outer = (s.port m).outer
  slots   : ∀ m, (t.port m).slotsUsed = (s.port m).slotsUsed
  queues  : ∀ l, (t.lane l).queue = (s.lane l).queue ∨ (t.lane l).queue = []
  scopes  : ∀ k, t.scopeOf k = s.scopeOf k
  records : s.RecordsConsecutive → t.RecordsConsecutive
  windows : s.WindowsGuard → t.WindowsGuard

theorem FaultFrame.refl (s : State) : FaultFrame s s :=
  ⟨rfl, fun _ => rfl, fun _ => rfl, fun _ => .inl rfl, fun _ => rfl, id, id⟩

theorem FaultFrame.trans {s t u : State} (h : FaultFrame s t) (k : FaultFrame t u) : FaultFrame s u where
  fixed := k.fixed.trans h.fixed
  outer := fun m => (k.outer m).trans (h.outer m)
  slots := fun m => (k.slots m).trans (h.slots m)
  queues := fun l => by
    rcases k.queues l with e | e
    · rw [e]; exact h.queues l
    · exact .inr e
  scopes := fun i => (k.scopes i).trans (h.scopes i)
  records := fun r => k.records (h.records r)
  windows := fun w => k.windows (h.windows w)

/-- Where the fixed fields are the same, the settings are. -/
theorem sameSettings_of_fixed {s t : State} (h : t.fixed = s.fixed) : s.SameSettings t := by
  simpa [State.fixed, State.SameSettings] using h

/-- The bounds that speak of the records only carry over where the collector is as it was. -/
theorem recordsConsecutive_of_eq {s t : State} (hr : t.records = s.records) (hn : t.nextRecord = s.nextRecord)
    (h : s.RecordsConsecutive) : t.RecordsConsecutive := by
  unfold State.RecordsConsecutive at *
  rw [hn]
  refine ⟨by rw [hr]; exact h.1, fun i hi => ?_⟩
  have hi' : i < s.records.length := by rw [← hr]; exact hi
  have e := h.2 i hi'
  simpa [hr] using e

theorem windowsGuard_of_eq {s t : State} (hp : ∀ m, (t.port m).alertReady = (s.port m).alertReady)
    (ha : ∀ m, (t.alert m).busy = (s.alert m).busy) (h : s.WindowsGuard) : t.WindowsGuard := by
  intro m hm
  rw [ha]; rw [hp] at hm
  exact h m hm

theorem LaneFrameOf.toFault {l : LaneId} {s t : State} (h : LaneFrameOf l s t)
    (hq : (t.lane l).queue = (s.lane l).queue ∨ (t.lane l).queue = []) : FaultFrame s t where
  fixed := h.fixed
  outer := fun m => Port.outer_of_rest (h.rest m)
  slots := h.slots
  queues := fun i => by
    by_cases e : i = l
    · subst e; exact hq
    · rw [h.lanes i e]; exact .inl rfl
  scopes := h.scopes
  records := by
    have e := h.faults
    simp only [Prod.mk.injEq] at e
    exact recordsConsecutive_of_eq e.2.1 e.2.2.2
  windows := by
    have e := h.alerts
    simp only [Prod.mk.injEq] at e
    refine windowsGuard_of_eq (fun m => ?_) (fun m => ?_)
    · show (t.port m).rest.alertReady = (s.port m).rest.alertReady
      rw [h.rest m]
    · cases m
      · exact congrArg AlertState.busy e.1
      · exact congrArg AlertState.busy e.2

theorem fenceLane_queue (s : State) (l : LaneId) :
    ((s.fenceLane l).lane l).queue = (s.lane l).queue ∨ ((s.fenceLane l).lane l).queue = [] := by
  unfold State.fenceLane
  dsimp only
  split
  · right; rw [(completeAll_frame _ _ _).lane l]; simp
  · left; simp [Lane.goSilent, Lane.dropContact]
  · left; simp [Lane.goSilent, Lane.dropContact]
  · left; rfl
  · left; rfl

theorem LegFrame.toFault {s t : State} (h : LegFrame s t) : FaultFrame s t :=
  (h.toLane 0).toFault (by rw [h.lane 0]; exact .inl rfl)

theorem testAlert_frame (s : State) (m : Master) : FaultFrame s (s.testAlert m) := by
  unfold State.testAlert
  dsimp only
  split
  · split
    · split
      · refine ⟨?_, fun i => ?_, fun i => ?_, fun l => .inl ?_, fun k => ?_, ?_, ?_⟩
        · cases m <;> rfl
        · cases m <;> cases i <;> rfl
        · cases m <;> cases i <;> rfl
        · cases m <;> rfl
        · cases m <;> rfl
        · refine recordsConsecutive_of_eq ?_ ?_ <;> cases m <;> rfl
        · intro w i hi
          by_cases e : i = m
          · subst e; simp [State.modifyPort]
          · have hp := w i
            simp only [State.modifyPort, State.port_setPort, State.alert_setPort, State.port_setAlert,
              State.alert_setAlert, e, if_false] at hi ⊢
            exact hp hi
      · exact .refl s
    · exact .refl s
  · exact .refl s

theorem pendFor_frame (s : State) (m : Master) (c : FaultClass) (p : Pended) : FaultFrame s (s.pendFor m c p) := by
  unfold State.pendFor
  dsimp only
  split
  · refine FaultFrame.trans ⟨?_, fun i => ?_, fun i => ?_, fun l => .inl ?_, fun k => ?_, ?_, ?_⟩
      (testAlert_frame _ m)
    · cases m <;> rfl
    · simp
    · simp
    · simp
    · cases m <;> rfl
    · refine recordsConsecutive_of_eq ?_ ?_ <;> cases m <;> rfl
    · refine windowsGuard_of_eq (fun i => by simp) (fun i => ?_)
      cases m <;> cases i <;> rfl
  · exact .refl s

theorem alertStep_frame (s : State) (x : Source) (q : Option (BitVec 16)) : FaultFrame s (s.alertStep x q) :=
  (pendFor_frame _ _ _ _).trans (pendFor_frame _ _ _ _)

theorem haltStep_frame (s : State) : FaultFrame s s.haltStep := by
  unfold State.haltStep
  split
  · exact ⟨rfl, fun m => by cases m <;> rfl, fun m => by cases m <;> rfl, fun _ => .inl rfl, fun _ => rfl, id,
      windowsGuard_of_eq (fun m => by cases m <;> rfl) (fun m => by cases m <;> rfl)⟩
  · exact .refl s

theorem isolateStep_frame (s : State) (x : Source) (f : FaultFields) : FaultFrame s (s.isolateStep x f) := by
  unfold State.isolateStep
  split
  · exact (fenceLane_frame _ _).toFault (fenceLane_queue _ _)
  · exact (setRecord_frame _ _ _).toFault
  · exact .refl s

theorem latch_frame (s : State) (x : Source) : FaultFrame s (s.latch x) :=
  ⟨rfl, fun m => by simp [State.latch], fun m => by simp [State.latch], fun _ => .inl rfl, fun _ => rfl, id,
    windowsGuard_of_eq (fun m => by cases m <;> rfl) (fun m => by cases m <;> rfl)⟩

theorem act_frame (s : State) (a : Action) (x : Source) (f : FaultFields) (q : Option (BitVec 16)) :
    FaultFrame s (s.act a x f q) := by
  have h : FaultFrame s (if a.alerts then s.alertStep x q else s) := by
    split
    · exact alertStep_frame _ _ _
    · exact .refl s
  unfold State.act
  dsimp only
  split
  · exact h.trans (isolateStep_frame _ _ _)
  · exact h.trans (haltStep_frame _)
  · exact h

theorem recordsLost_frame (s : State) : FaultFrame s s.recordsLost :=
  (latch_frame s .recordsLost).trans (act_frame _ _ _ _ _)

/-- A record stored at the tail keeps the queue consecutive (R141, R149). -/
theorem append_consecutive (s t : State) (r : FaultRecord) (hs : r.sequence = s.nextRecord)
    (hl : s.records.length < 16) (hr : t.records = s.records ++ [r]) (hn : t.nextRecord = s.nextRecord + 1)
    (h : s.RecordsConsecutive) : t.RecordsConsecutive := by
  obtain ⟨_, h2⟩ := h
  have hlen : t.records.length = s.records.length + 1 := by simp [hr]
  refine ⟨by omega, fun i hi => ?_⟩
  have key : ∀ (a : BitVec 16) (n : Nat), a + 1 - BitVec.ofNat 16 (n + 1) = a - BitVec.ofNat 16 n := by
    intro a n
    have e : BitVec.ofNat 16 (n + 1) = BitVec.ofNat 16 n + 1 := by simp [BitVec.ofNat_add]
    rw [e, BitVec.sub_eq_add_neg, BitVec.sub_eq_add_neg, BitVec.neg_add, BitVec.sub_eq_add_neg]
    rw [BitVec.add_assoc, ← BitVec.add_assoc 1, BitVec.add_comm 1, BitVec.add_assoc (-_) 1,
      BitVec.add_right_neg, BitVec.add_zero]
  by_cases c : i < s.records.length
  · have e : t.records[i] = s.records[i] := by simp [hr, List.getElem_append_left c]
    rw [e, h2 i c, hn, hlen]
    have : s.records.length + 1 - i = (s.records.length - i) + 1 := by omega
    rw [this, key]
  · have ei : i = s.records.length := by omega
    subst ei
    have e : t.records[s.records.length] = r := by simp [hr]
    rw [e, hs, hn, hlen]
    have : s.records.length + 1 - s.records.length = 0 + 1 := by omega
    rw [this, key]
    simp

theorem recordStep_frame (s : State) (x : Source) (f : FaultFields) : FaultFrame s (s.recordStep x f).1 := by
  unfold State.recordStep
  split
  · rename_i hl
    exact ⟨rfl, fun m => by cases m <;> rfl, fun m => by cases m <;> rfl, fun _ => .inl rfl, fun _ => rfl,
      append_consecutive s _ _ rfl hl rfl rfl, windowsGuard_of_eq (fun m => by cases m <;> rfl) (fun m => by cases m <;> rfl)⟩
  · have h : FaultFrame s { s with lostCount := min (s.lostCount + 1) 255 } :=
      ⟨rfl, fun m => by cases m <;> rfl, fun m => by cases m <;> rfl, fun _ => .inl rfl, fun _ => rfl, id,
        windowsGuard_of_eq (fun m => by cases m <;> rfl) (fun m => by cases m <;> rfl)⟩
    exact h.trans (recordsLost_frame _)

/-- An occurrence (R140): what it leaves alone and keeps. -/
theorem occur_frame (s : State) (x : Source) (f : FaultFields) : FaultFrame s (s.occur x f) := by
  unfold State.occur
  dsimp only
  split
  · exact latch_frame s x
  · exact ((latch_frame s x).trans (recordStep_frame _ _ _)).trans (act_frame _ _ _ _ _)

/-! ## The active table is changed by no occurrence -/

theorem testAlert_active (s : State) (m : Master) : (s.testAlert m).active = s.active := by
  unfold State.testAlert
  dsimp only
  split
  · split
    · split
      · cases m <;> rfl
      · rfl
    · rfl
  · rfl

theorem pendFor_active (s : State) (m : Master) (c : FaultClass) (p : Pended) :
    (s.pendFor m c p).active = s.active := by
  unfold State.pendFor
  dsimp only
  split
  · rw [testAlert_active]; simp
  · rfl

theorem haltStep_active (s : State) : s.haltStep.active = s.active := by
  unfold State.haltStep
  split <;> rfl

theorem act_active (s : State) (a : Action) (x : Source) (f : FaultFields) (q : Option (BitVec 16)) :
    (s.act a x f q).active = s.active := by
  have h : (if a.alerts then s.alertStep x q else s).active = s.active := by
    split
    · simp [State.alertStep, pendFor_active]
    · rfl
  unfold State.act
  dsimp only
  split
  · refine Eq.trans ?_ h
    unfold State.isolateStep
    split
    · exact (fenceLane_frame _ _).active
    · rfl
    · rfl
  · refine Eq.trans ?_ h
    exact haltStep_active _
  · exact h

theorem recordStep_active (s : State) (x : Source) (f : FaultFields) : (s.recordStep x f).1.active = s.active := by
  unfold State.recordStep
  split
  · rfl
  · simp [State.recordsLost, act_active, State.latch]

theorem occur_active (s : State) (x : Source) (f : FaultFields) : (s.occur x f).active = s.active := by
  unfold State.occur
  dsimp only
  split
  · simp [State.latch]
  · rw [act_active, recordStep_active]; simp [State.latch]

/-! ## Readers of the active table -/

theorem setActive_frame (s : State) (t : Target) (e : ActiveEntry) : FaultFrame s (s.setActive t e) :=
  ⟨rfl, fun m => by simp, fun m => by simp, fun _ => .inl rfl, fun _ => rfl, id,
    windowsGuard_of_eq (fun m => by cases m <;> rfl) (fun m => by cases m <;> rfl)⟩

theorem tableIntegrity_frame (s : State) (t : Target) : FaultFrame s (s.tableIntegrity t) :=
  ((setActive_frame s t _).trans (setRecord_frame _ _ _).toFault).trans (occur_frame _ _ _)

theorem readActive_frame (s : State) (t : Target) : FaultFrame s (s.readActive t).1 := by
  unfold State.readActive
  split
  · exact tableIntegrity_frame s t
  · exact .refl s

theorem scanActive_frame (ts : List Target) (s : State) : FaultFrame s (s.scanActive ts).1 := by
  induction ts generalizing s with
  | nil => exact .refl s
  | cons t ts ih => exact (readActive_frame s t).trans (ih _)

theorem groupMembers_frame (s : State) (g : Nat) : FaultFrame s (s.groupMembers g).1 := by
  unfold State.groupMembers
  generalize allTargets = ts
  exact scanActive_frame ts s

/-- A read of an entry that agrees with its check changes nothing (R18). -/
theorem readActive_sound (s : State) (t : Target) (h : (s.activeEntry t).corrupt = false) :
    s.readActive t = (s, (s.activeEntry t).entry) := by
  simp [State.readActive, h]

/-- A scan of entries that all agree with their checks changes nothing, and gives the PRESENT ones (R27). -/
theorem scanActive_sound (s : State) (ts : List Target) (h : ∀ t ∈ ts, (s.activeEntry t).corrupt = false) :
    s.scanActive ts =
      (s, ts.filterMap (fun t =>
        if (s.activeEntry t).entry.present then some (t, (s.activeEntry t).entry) else none)) := by
  induction ts with
  | nil => rfl
  | cons t ts ih =>
    have e := ih (fun u hu => h u (List.mem_cons_of_mem _ hu))
    simp only [State.scanActive, readActive_sound s t (h t List.mem_cons_self), e]
    split <;> simp_all

end Sys2Proof.Machine
end

