-- ==== Sys2Proof/Laws/Completion.lean ====
section
/-! SUPPORT. What a grant, a fall and an outcome do to the contexts, the Target Status records and the ports (R14, R61,
R127, R128). -/

namespace Sys2Proof.Machine

/-- A grant leaves the records and the contexts (R128). -/
theorem grantClaim_keeps (s : State) (k : ClaimId) :
    (s.grantClaim k).status = s.status ∧ (s.grantClaim k).contexts = s.contexts := by
  unfold State.grantClaim
  split
  · rename_i c hc
    split
    · cases hw : c.owner <;> exact ⟨rfl, rfl⟩
    · exact ⟨rfl, rfl⟩
  · exact ⟨rfl, rfl⟩

theorem reexamine_keeps (s : State) (m : Master) (t : Target) :
    (s.reexamine m t).status = s.status ∧ (s.reexamine m t).contexts = s.contexts := by
  unfold State.reexamine
  split
  · split
    · split
      · exact grantClaim_keeps _ _
      · exact ⟨rfl, rfl⟩
    · exact ⟨rfl, rfl⟩
  · exact ⟨rfl, rfl⟩

/-- A claim that waits for this master's count is the other master's: its grant leaves this master's port. -/
theorem reexamine_port (s : State) (m : Master) (t : Target) : (s.reexamine m t).port m = s.port m := by
  unfold State.reexamine
  split
  · rename_i k hk
    split
    · rename_i c hc
      split
      · have h := List.find?_some hk
        rw [hc] at h
        simp only [Claim.drainsOn] at h
        unfold State.grantClaim
        rw [hc]
        split at h
        · rename_i hs
          simp only [hs]
          simp at h
          rw [h.1]
          cases m <;> rfl
        · simp at h
      · rfl
    · rfl
  · rfl

theorem fall_contexts (s : State) (m : Master) (t : Target) : (s.fall m t).contexts = s.contexts :=
  (reexamine_keeps _ m t).2

theorem fall_port (s : State) (m : Master) (t : Target) : (s.fall m t).port m = s.port m := by
  unfold State.fall
  rw [reexamine_port]
  simp

/-- A fall lowers one count of one record (R14). -/
theorem fall_record (s : State) (m : Master) (t v : Target) :
    (s.fall m t).record v =
      if v = t then (s.record t).setInFlight m (s.inFlight m t - 1) else s.record v := by
  have h : (s.fall m t).record v = (s.setRecord t ((s.record t).setInFlight m (s.inFlight m t - 1))).record v := by
    unfold State.fall State.record
    rw [(reexamine_keeps _ m t).1]
  rw [h, State.record_setRecord]

theorem takeOutcome_contexts (s : State) (m : Master) (t : Target) (o : LegOutcome) :
    (s.takeOutcome m t o).contexts = s.contexts := by
  unfold State.takeOutcome
  dsimp only
  split
  · rfl
  · rw [fall_contexts]; rfl

theorem takeOutcome_port (s : State) (m : Master) (t : Target) (o : LegOutcome) :
    (s.takeOutcome m t o).port m = s.port m := by
  unfold State.takeOutcome
  dsimp only
  split
  · simp
  · rw [fall_port]; simp

/-- The Target Status record after an outcome: its count, its error total and, but for TIMEOUT, its in-flight count
(R61, R14). -/
theorem takeOutcome_record (s : State) (m : Master) (t v : Target) (o : LegOutcome) :
    (s.takeOutcome m t o).record v =
      if v = t then
        ({ s.record t with
            consecutive := nextConsecutive o (s.record t).consecutive
            errors := nextErrors o (s.record t).errors } : TargetRecord).setInFlight m
          (if o = .timeout then s.inFlight m t else s.inFlight m t - 1)
      else s.record v := by
  unfold State.takeOutcome
  dsimp only
  split
  · rw [State.record_setRecord]
    split
    · rename_i h; cases m <;> rfl
    · rfl
  · rw [fall_record]
    split
    · have e : ∀ r, (s.setRecord t r).record t = r := by intro r; rw [State.record_setRecord]; simp
      unfold State.inFlight
      rw [e]
      cases m <;> rfl
    · rename_i h; rw [State.record_setRecord, if_neg h]

theorem endContext_record (s : State) (c : CtxId) (x : Ctx) (v : Target) :
    (s.endContext c x).record v = s.record v := by
  unfold State.endContext
  split <;> simp [State.fillSlot, State.modifyPort]

end Sys2Proof.Machine
end

