-- ==== Sys2Proof/Laws/Intake.lean ====
section
/-! SUPPORT. The take (R38, R39), the answer of a management operation in its slot (R170), and the hand-over of a HUB
request to the Management Unit (R44, R176). -/

namespace Sys2Proof.Machine

/-- On the running part an event comes about. -/
theorem happens_running (f : State → State) (s : State) (h : s.phase = .running) : happens f s = .next (f s) := by
  simp [happens, whenRunning, h]

/-- On the running part a Lane Engine's event comes about. -/
theorem happensAtLane_running (f : State → State) (s : State) (h : s.phase = .running) :
    happensAtLane f s = .next (f s) := by
  simp [happensAtLane, whenRunning, h]

/-- In full reset and through the start-up hold it does not (R184). -/
theorem happens_held (f : State → State) (s : State) (h : s.Asleep) : happens f s = .next s := by
  rcases h with h | ⟨n, h⟩ <;> simp [happens, whenRunning, State.settle, State.resetDue, h]

theorem happensAtLane_held (f : State → State) (s : State) (h : s.Asleep) : happensAtLane f s = .next s := by
  rcases h with h | ⟨n, h⟩ <;> simp [happensAtLane, whenRunning, State.settle, State.resetDue, h]

/-- Between the parts of a fabric reset a Lane Engine's event comes about before the lane's own part (R80). -/
theorem happensAtLane_resetting (f : State → State) (s : State) (cs : Vector (Option Ctx) 32)
    (h : s.phase = .resetting cs) : happensAtLane f s = .next (f s) := by
  simp [happensAtLane, State.resetDue, h]

/-- Any other event comes after the Lane Engines' parts (R183). -/
theorem happens_resetting (f : State → State) (s : State) (cs : Vector (Option Ctx) 32)
    (h : s.phase = .resetting cs) : happens f s = .next (f { s.resetLanes with phase := .running }) := by
  simp [happens, whenRunning, State.settle, State.resetDue, h]

theorem takeRequest_port (s : State) (m : Master) : (s.takeRequest m).port m = (s.port m).take := by
  cases m <;> rfl

theorem takeRequest_otherPort (s : State) (m : Master) : (s.takeRequest m).port m.other = s.port m.other := by
  cases m <;> rfl

theorem takeRequest_contexts (s : State) (m : Master) : (s.takeRequest m).contexts = s.contexts := by
  cases m <;> rfl

theorem takeRequest_claims (s : State) (m : Master) : (s.takeRequest m).claims = s.claims := by
  cases m <;> rfl

/-- A take changes no tag (R43). -/
theorem tagInUse_takeRequest (s : State) (m w : Master) (tag : Byte) :
    (s.takeRequest m).tagInUse w tag = s.tagInUse w tag := by
  simp [State.tagInUse, State.usedContexts, State.ctx, takeRequest_contexts, takeRequest_claims]

/-- A take changes no management rights (R179). -/
theorem mayManage_takeRequest (s : State) (m w : Master) (op : HubOp) :
    (s.takeRequest m).mayManage w op = s.mayManage w op := by
  cases m <;> cases op <;> rfl

/-- An answer filled at the request's own take (R170): the reserved slots are as before the take. -/
theorem fillSlot_takeRequest (s : State) (m : Master) (r : Response) :
    (s.takeRequest m).fillSlot m r = s.answered m r := by
  cases m <;> rfl

/-- The request that is next to be taken is the one offered. -/
theorem intakeEvent_of_nextTake (s : State) (m : Master) (r : RawRequest) (h : s.nextTake = some (m, r)) :
    intakeEvent s = (s.takeRequest m).admitRequest m r := by
  simp [intakeEvent, h]

/-- A HUB request whose tag is free goes to the Management Unit (R44). -/
theorem admit_hub (s : State) (m : Master) (r : RawRequest) (op : HubOp) (hr : readRequest r = some (.hub op))
    (ht : s.tagInUse m r.tag = false) : s.admitRequest m r = manage m r.tag op s := by
  simp [State.admitRequest, hr, ht, State.admitAsked]

/-- The row of a management operation, where its request is next to be taken and its tag is free. -/
theorem hubEvent_of_next (s : State) (m : Master) (r : RawRequest) (op : HubOp) (h : s.nextTake = some (m, r))
    (hr : readRequest r = some (.hub op)) (ht : s.tagInUse m r.tag = false) :
    hubEvent m r.tag op s = manage m r.tag op (s.takeRequest m) := by
  have e : s.offers m r.tag op = true := by simp [State.offers, h, hr]
  simp only [hubEvent, e, if_true]
  rw [intakeEvent_of_nextTake s m r h, admit_hub _ m r op hr (by rw [tagInUse_takeRequest]; exact ht)]

/-- The Management Unit carries an operation out when the rights check passes (R176, R179). -/
theorem manage_passes (s : State) (m : Master) (tag : Byte) (op : HubOp) (h : s.mayManage m op = true) :
    manage m tag op s = perform m tag op s := by
  simp [manage, h]

/-- The Management Unit refuses an operation when the rights check fails (R179). -/
theorem manage_fails (s : State) (m : Master) (tag : Byte) (op : HubOp) (h : s.mayManage m op = false) :
    manage m tag op s =
      (s.fillSlot m (deniedAnswer tag)).occur .rightsViolation
        { FaultFields.none with master := some m, tag := some tag, detail := some (opcode op) } := by
  simp [manage, h]

/-! ## The taken state and the answers of the operations -/

theorem takeRequest_takenBy (s : State) (m : Master) : s.takeRequest m = s.takenBy m := by cases m <;> rfl

theorem fillSlot_takenBy (s : State) (m : Master) (r : Response) : (s.takenBy m).fillSlot m r = s.answered m r := by
  cases m <;> rfl

/-- An operation's answer in the slot of its own take (R176, R188). -/
theorem answer_takenBy (s : State) (m : Master) (tag code : Byte) (status : Status)
    (generation : Option (BitVec 16)) (bytes : List Byte) :
    (s.takenBy m).answer m tag code status generation bytes =
      s.answered m ⟨tag, status, some code, generation, none,
        if bytes = [] then .none else .fields bytes⟩ := by
  cases m <;> rfl

/-- The rights check is the table of R179. -/
theorem mayManage_iff (s : State) (m : Master) (op : HubOp) : s.mayManage m op = true ↔ Allowed s m op := by
  cases op <;> simp [State.mayManage, Allowed, needOf, State.rights] <;> cases m <;> simp [Rights.reads] <;>
    cases s.rightsM1 <;> simp

theorem insertByAge_congr {s t : State} (h : t.admission = s.admission) (c : CtxId × Ctx)
    (ds : List (CtxId × Ctx)) : insertByAge t c ds = insertByAge s c ds := by
  induction ds with
  | nil => rfl
  | cons d ds ih => simp only [insertByAge, State.age, h, ih]; rfl

/-- The PENDING legs depend on the contexts and the admission counter only (R59). -/
theorem pendingFor_congr {s t : State} {l : LaneId} (h : t.contexts = s.contexts)
    (a : t.admission = s.admission) : t.pendingFor l = s.pendingFor l := by
  have e : t.usedContexts = s.usedContexts := by simp [State.usedContexts, State.ctx, h]
  have e2 : t.byAge = s.byAge := by
    simp only [State.byAge, e]
    congr
    funext acc c
    exact insertByAge_congr a _ _
  simp only [State.pendingFor, e2]

/-! ## The words of the statements and what the model computes -/

/-- The tag is found in use where it is held (R43). -/
theorem tagInUse_iff (s : State) (m : Master) (tag : Byte) : s.tagInUse m tag = true ↔ s.HoldsTag m tag := by
  simp only [State.tagInUse, State.HoldsTag, Bool.or_eq_true, List.any_eq_true]
  apply or_congr
  · constructor
    · rintro ⟨⟨c, x⟩, h1, h2⟩
      simp [State.usedContexts] at h1
      simp at h2
      refine ⟨c, x, h1, h2.1, ?_⟩
      have h3 := h2.2
      simp only [Ctx.tag] at h3
      split at h3 <;> simp_all
    · rintro ⟨c, x, h1, h2, h3⟩
      exact ⟨(c, x), by simp [State.usedContexts, h1], by simp [h2, Ctx.tag, h3]⟩
  · constructor
    · rintro ⟨k, h1, h2⟩
      cases k with
      | none => simp at h2
      | some c =>
        simp only [Claim.holdsTag] at h2
        rw [Vector.mem_toList_iff, Vector.mem_iff_getElem] at h1
        obtain ⟨i, hi, e⟩ := h1
        split at h2
        · rename_i t d hs
          simp at h2
          exact ⟨⟨i, hi⟩, c, d, e, h2.1, by rw [hs, h2.2]⟩
        · simp at h2
    · rintro ⟨k, c, d, h1, h2, h3⟩
      refine ⟨some c, ?_, by simp [Claim.holdsTag, h3, h2]⟩
      rw [← h1]; simp [State.claim]

/-- The access passes where it suffices (R46). -/
theorem passes_iff (a : Access) (k : Kind) : a.passes k = true ↔ Suffices a k := by
  cases a <;> cases k <;> simp [Access.passes, Kind.writes, Suffices]

/-- A record over the target is found where there is one (R124). -/
theorem claimOver_isSome_iff (s : State) (w : Master) (t : Target) :
    (s.claimOver w t).isSome = true ↔ s.Claimed w t := by
  simp only [State.claimOver, List.find?_isSome, State.Claimed]
  constructor
  · rintro ⟨k, _, h⟩
    cases hc : s.claim k with
    | none => simp [hc] at h
    | some c => simp [hc] at h; exact ⟨k, c, hc, h⟩
  · rintro ⟨k, c, h1, h2, h3⟩
    exact ⟨k, List.mem_finRange k, by simp [h1, h2, h3]⟩

theorem mem_usedContexts (s : State) (c : CtxId) (x : Ctx) : (c, x) ∈ s.usedContexts ↔ s.ctx c = some x := by
  simp [State.usedContexts]

theorem mem_insertByAge (s : State) (c : CtxId × Ctx) (ds : List (CtxId × Ctx)) (d : CtxId × Ctx) :
    d ∈ insertByAge s c ds ↔ d = c ∨ d ∈ ds := by
  induction ds with
  | nil => simp [insertByAge]
  | cons a as ih =>
    simp only [insertByAge]
    split
    · simp
    · simp [ih]; tauto

theorem mem_byAge (s : State) (d : CtxId × Ctx) : d ∈ s.byAge ↔ d ∈ s.usedContexts := by
  have h : ∀ l acc : List (CtxId × Ctx),
      d ∈ l.foldl (fun acc c => insertByAge s c acc) acc ↔ d ∈ l ∨ d ∈ acc := by
    intro l
    induction l with
    | nil => simp
    | cons a as ih => intro acc; simp [ih, mem_insertByAge]; tauto
  simp [State.byAge, h]

/-- No leg waits PENDING for the lane where the set is empty (R51, R59). -/
theorem pendingFor_eq_nil_iff (s : State) (l : LaneId) : s.pendingFor l = [] ↔ s.NonePending l := by
  simp only [State.pendingFor, List.flatMap_eq_nil_iff, State.NonePending]
  constructor
  · intro h c x g hx hg hl hp
    have h2 := h (c, x) ((mem_byAge _ _).2 ((mem_usedContexts _ _ _).2 hx))
    simp at h2
    exact h2 g hg hp hl
  · rintro h ⟨c, x⟩ hm
    have hx := (mem_usedContexts _ _ _).1 ((mem_byAge _ _).1 hm)
    simp
    intro g hg hp hl
    exact h c x g hx hg hl hp

/-- A search in number order finds the least. -/
theorem find?_of_least {n : Nat} (p : Fin n → Bool) (i : Fin n) (h : Least (fun t => p t = true) i) :
    (List.finRange n).find? p = some i := by
  rw [List.find?_eq_some_iff_getElem]
  refine ⟨h.1, i.val, by simp, by simp, fun j hj => ?_⟩
  have h2 := h.2 ⟨j, by omega⟩ (by simpa [Fin.lt_def] using hj)
  simpa using h2

theorem least_congr {n : Nat} {p q : Fin n → Prop} (h : ∀ i, p i ↔ q i) (i : Fin n) : Least p i ↔ Least q i := by
  unfold Least; simp [h]

end Sys2Proof.Machine
end

