-- ==== Sys2Proof/Laws/Lanes.lean ====
section
/-! SUPPORT. The lane and link states that the statements name, as the model's operations make them, and what reading
active entries does (R18 to R20). -/

namespace Sys2Proof.Machine

/-! ## Lanes and links (R84, R85, R107, R163) -/

/-- A frame that is no LEG-OUT waits last (R94). -/
theorem enqueueFrame_append (f : LaneFrame) (hf : ∀ g, f ≠ .legOut g) (fs : List LaneFrame) :
    enqueueFrame f fs = fs ++ [f] := by
  induction fs with
  | nil => rfl
  | cons g gs ih => cases f <;> cases g <;> simp_all [enqueueFrame]

theorem enterTraining_eq (now : Time) (x : Lane) : x.enterTraining now = x.startedTraining now := by
  cases h : x.line <;>
    simp [Lane.enterTraining, Lane.send, Lane.dropContact, Lane.startedTraining, h, enqueueFrame_append]

theorem trainLane_eq (s : State) (l : LaneId) :
    s.trainLane l = s.setLane l ((s.lane l).startedTraining s.timebase) := by
  simp [State.trainLane, State.modifyLane, enterTraining_eq]

theorem goSilent_eq (v : LaneState) (x : Lane) : { x.goSilent with state := v } = x.quiet v x.retryTime := rfl

theorem enterDown_eq (retry : Option Time) (x : Lane) : x.enterDown retry = x.quiet .down retry := rfl

theorem enterDisabled_eq (x : Lane) :
    { x.enterDisabled with enabled := false } =
      { x.quiet .disabled none with enabled := false, receiver := .hunting } := rfl

theorem fabricReset_eq (now : Time) (x : Lane) : x.fabricReset now = x.afterReset now := by
  simp only [Lane.fabricReset, Lane.afterReset, enterTraining_eq, emptyWindow]

/-- The parts of a fabric reset that are due, at the lanes (R107). -/
theorem settle_resetting (s : State) (before : Vector (Option Ctx) 32) (h : s.phase = .resetting before) :
    s.settle = { s with phase := .running, lanes := s.lanes.map (Lane.afterReset s.timebase) } := by
  have e : Lane.fabricReset s.timebase = Lane.afterReset s.timebase := funext (fabricReset_eq _)
  simp [State.settle, State.resetDue, h, State.resetLanes, e]

theorem Port.enterTraining_eq (now : Time) (p : Port) : p.enterTraining now = p.startedTraining now := by
  cases h : p.line <;> simp [Port.enterTraining, Port.sendTrainingHello, Port.startedTraining, h]

/-! ## Reading active entries (R18 to R20) -/

theorem tableIntegrity_eq (s : State) (t : Target) : s.tableIntegrity t = s.foundCorrupt t := rfl

/-- A read leaves one sound entry: the one read, which is what the reader sees. -/
theorem readActive_eq (s : State) (t : Target) :
    s.readActive t =
      (let u := if (s.activeEntry t).corrupt then s.foundCorrupt t else s
       (u, (u.activeEntry t).entry)) := by
  unfold State.readActive
  split
  · have h : (s.foundCorrupt t).active = (s.setActive t ⟨.absent, false⟩).active := occur_active _ _ _
    have e : ((s.foundCorrupt t).activeEntry t).entry = .absent := by
      have := State.activeEntry_setActive s t ⟨.absent, false⟩ t
      simp only [State.activeEntry] at this ⊢
      rw [h, this]; simp
    simp [tableIntegrity_eq, e]
  · rfl

/-- A read of one entry leaves the others. -/
theorem foundCorrupt_activeEntry (s : State) (t u : Target) :
    (s.foundCorrupt t).activeEntry u = if u = t then ⟨.absent, false⟩ else s.activeEntry u := by
  have h : (s.foundCorrupt t).active = (s.setActive t ⟨.absent, false⟩).active := occur_active _ _ _
  have := State.activeEntry_setActive s t ⟨.absent, false⟩ u
  simp only [State.activeEntry] at this ⊢
  rw [h, this]

theorem readAll_cons (s : State) (t : Target) (ts : List Target) :
    s.readAll (t :: ts) = (if (s.activeEntry t).corrupt then s.foundCorrupt t else s).readAll ts := rfl

theorem readAll_activeEntry (ts : List Target) (s : State) (u : Target) (h : u ∉ ts) :
    (s.readAll ts).activeEntry u = s.activeEntry u := by
  induction ts generalizing s with
  | nil => rfl
  | cons t ts ih =>
    simp only [List.mem_cons, not_or] at h
    rw [readAll_cons, ih _ h.2]
    split
    · rw [foundCorrupt_activeEntry, if_neg h.1]
    · rfl

/-- A scan is a reading of its entries, after which it gives the PRESENT ones (R27, R125). -/
theorem scanActive_eq (ts : List Target) (s : State) (h : ts.Nodup) :
    s.scanActive ts = (s.readAll ts, ts.filterMap (fun t =>
      let e := ((s.readAll ts).activeEntry t).entry
      if e.present then some (t, e) else none)) := by
  induction ts generalizing s with
  | nil => rfl
  | cons t ts ih =>
    have hn := List.nodup_cons.1 h
    simp only [State.scanActive, readActive_eq, ih _ hn.2, readAll_cons, List.filterMap_cons,
      readAll_activeEntry _ _ _ hn.1]
    split <;> (split <;> simp)

/-- Reading sound entries changes nothing. -/
theorem readAll_sound (ts : List Target) (s : State) (h : s.TablesSound) : s.readAll ts = s := by
  induction ts with
  | nil => rfl
  | cons t ts ih => rw [readAll_cons, h t]; exact ih

end Sys2Proof.Machine
end

