-- ==== Sys2Proof/Laws/Occurrence.lean ====
section
/-! SUPPORT. What an occurrence (R140) does to the lanes, the sources and the Target Status records: its alert step
touches only alerts, its ISOLATE step fences one lane or quarantines one target, its record step may make RECORDS_LOST
occur. -/

namespace Sys2Proof.Machine

/-! ## The alert step touches alerts only -/

/-- The two states agree but for the alert states and the ports. -/
def OnlyAlerts (s t : State) : Prop :=
  t = { s with alertM0 := t.alertM0, alertM1 := t.alertM1, portM0 := t.portM0, portM1 := t.portM1 }

theorem OnlyAlerts.refl (s : State) : OnlyAlerts s s := rfl

theorem OnlyAlerts.trans {s t u : State} (h : OnlyAlerts s t) (k : OnlyAlerts t u) : OnlyAlerts s u := by
  unfold OnlyAlerts at *
  rw [h] at k
  exact k

theorem setAlert_only (s : State) (m : Master) (a : AlertState) : OnlyAlerts s (s.setAlert m a) := by
  cases m <;> rfl

theorem setPort_only (s : State) (m : Master) (p : Port) : OnlyAlerts s (s.setPort m p) := by
  cases m <;> rfl

theorem testAlert_only (s : State) (m : Master) : OnlyAlerts s (s.testAlert m) := by
  unfold State.testAlert
  dsimp only
  split
  · split
    · split
      · exact (setAlert_only _ _ _).trans (setPort_only _ _ _)
      · exact .refl s
    · exact .refl s
  · exact .refl s

theorem pendFor_only (s : State) (m : Master) (c : FaultClass) (p : Pended) : OnlyAlerts s (s.pendFor m c p) := by
  unfold State.pendFor
  dsimp only
  split
  · exact (setAlert_only _ _ _).trans (testAlert_only _ _)
  · exact .refl s

theorem alertStep_only (s : State) (x : Source) (q : Option (BitVec 16)) : OnlyAlerts s (s.alertStep x q) :=
  (pendFor_only _ _ _ _).trans (pendFor_only _ _ _ _)

theorem OnlyAlerts.lane {s t : State} (h : OnlyAlerts s t) (l : LaneId) : t.lane l = s.lane l := by
  rw [h]; rfl

theorem OnlyAlerts.record {s t : State} (h : OnlyAlerts s t) (i : Target) : t.record i = s.record i := by
  rw [h]; rfl

theorem OnlyAlerts.source {s t : State} (h : OnlyAlerts s t) (x : Source) : t.source x = s.source x := by
  rw [h]; rfl

theorem alertsIf_only (s : State) (a : Action) (x : Source) (q : Option (BitVec 16)) :
    OnlyAlerts s (if a.alerts then s.alertStep x q else s) := by
  split
  · exact alertStep_only _ _ _
  · exact .refl s

/-! ## The fence and the lane it fences -/

/-- What a fence makes of a lane (R101). -/
def Lane.whenFenced (x : Lane) : Lane :=
  match x.state with
  | .up => { x with state := .fenced, queue := [] }
  | .training => { x.goSilent with state := .fenced }
  | .down => { x.goSilent with state := .fenced, retryTime := none }
  | .fenced => x
  | .disabled => x

theorem fenceLane_lane (s : State) (l : LaneId) : (s.fenceLane l).lane l = (s.lane l).whenFenced := by
  unfold State.fenceLane Lane.whenFenced
  dsimp only
  cases hx : (s.lane l).state
  · rfl
  · simp
  · dsimp only; rw [(completeAll_frame _ _ _).lane l]; simp
  · rfl
  · simp

/-- The lanes after the steps of an action: one is fenced by ISOLATE on a LINK source, no other changes (R144). -/
theorem act_lane (s : State) (a : Action) (x : Source) (f : FaultFields) (q : Option (BitVec 16)) (l : LaneId) :
    (s.act a x f q).lane l =
      if a = .isolate ∧ x.cls = .link ∧ f.lane = some l then (s.lane l).whenFenced else s.lane l := by
  have h := alertsIf_only s a x q
  unfold State.act
  dsimp only
  generalize (if a.alerts then s.alertStep x q else s) = u at h
  cases a
  case isolate =>
    simp only [State.isolateStep, true_and]
    split
    · rename_i i hc hl
      by_cases e : i = l
      · subst e; rw [fenceLane_lane, h.lane]; simp [hc, hl]
      · rw [(fenceLane_frame u i).lanes l (fun q => e q.symm), h.lane]; simp [hl, e]
    · rename_i i hc _
      have e : (u.quarantine i).lane l = u.lane l := rfl
      rw [e, h.lane]; simp [hc]
    · rename_i n1 _
      rw [h.lane, if_neg (fun c => n1 l c.1 c.2)]
  case halt =>
    have e : u.haltStep.lane l = u.lane l := by unfold State.haltStep; split <;> rfl
    simp [e, h.lane]
  all_goals simp [h.lane]

theorem recordsLost_lane (s : State) (l : LaneId) : s.recordsLost.lane l = s.lane l := by
  simp [State.recordsLost, act_lane, FaultFields.none, State.latch]

theorem recordStep_lane (s : State) (x : Source) (f : FaultFields) (l : LaneId) :
    (s.recordStep x f).1.lane l = s.lane l := by
  unfold State.recordStep
  split
  · rfl
  · exact recordsLost_lane _ l

/-- The lanes after an occurrence: ISOLATE on a LINK source fences the lane of its fields, no other lane changes
(R144). -/
theorem occur_lane (s : State) (x : Source) (f : FaultFields) (l : LaneId) :
    (s.occur x f).lane l =
      if (s.source x).action = .isolate ∧ x.cls = .link ∧ f.lane = some l then (s.lane l).whenFenced
      else s.lane l := by
  unfold State.occur
  dsimp only
  split
  · rename_i h; simp [h, State.latch]
  · rw [act_lane, recordStep_lane]; simp [State.latch]

/-! ## Sources -/

theorem fenceLane_source (s : State) (l : LaneId) (y : Source) : (s.fenceLane l).source y = s.source y := by
  have h := congrArg Prod.fst (fenceLane_frame s l).faults
  simp only at h
  simp [State.source, h]

theorem act_source (s : State) (a : Action) (x : Source) (f : FaultFields) (q : Option (BitVec 16)) (y : Source) :
    (s.act a x f q).source y = s.source y := by
  have h := alertsIf_only s a x q
  unfold State.act
  dsimp only
  generalize (if a.alerts then s.alertStep x q else s) = u at h
  split
  · unfold State.isolateStep
    split
    · rw [fenceLane_source, h.source]
    · exact h.source y
    · exact h.source y
  · have e : u.haltStep.source y = u.source y := by unfold State.haltStep; split <;> rfl
    rw [e, h.source]
  · exact h.source y

/-- The source that occurs is latched and counted; the others stay, but for RECORDS_LOST (R140, R142). -/
theorem occur_source (s : State) (x : Source) (f : FaultFields) (y : Source) (hy : y ≠ .recordsLost) :
    (s.occur x f).source y =
      if y = x then { s.source x with latch := true, count := min ((s.source x).count + 1) 255 }
      else s.source y := by
  have h1 : (s.latch x).source y =
      if y = x then { s.source x with latch := true, count := min ((s.source x).count + 1) 255 }
      else s.source y := by
    simp [State.latch, State.source_setSource]
  have h2 : ((s.latch x).recordStep x f).1.source y = (s.latch x).source y := by
    unfold State.recordStep
    split
    · rfl
    · show State.source (State.recordsLost { s.latch x with lostCount := _ }) y = _
      unfold State.recordsLost
      rw [act_source]
      unfold State.latch
      rw [State.source_setSource, if_neg hy]
      rfl
  unfold State.occur
  dsimp only
  split
  · exact h1
  · rw [act_source, h2, h1]

/-- No occurrence changes an action (R140). -/
theorem occur_action (s : State) (x : Source) (f : FaultFields) (y : Source) :
    ((s.occur x f).source y).action = (s.source y).action := by
  have hl : ∀ (u : State) (z : Source), ((u.latch z).source y).action = (u.source y).action := by
    intro u z
    simp only [State.latch, State.source_setSource]
    split
    · rename_i e; rw [e]
    · rfl
  have h2 : (((s.latch x).recordStep x f).1.source y).action = ((s.latch x).source y).action := by
    unfold State.recordStep
    split
    · rfl
    · show (State.source (State.recordsLost { s.latch x with lostCount := _ }) y).action = _
      unfold State.recordsLost
      rw [act_source, hl]
      rfl
  unfold State.occur
  dsimp only
  split
  · exact hl s x
  · rw [act_source, h2, hl]

/-! ## Target Status records -/

/-- The counts of an outcome that is neither OK, TARGET_ERROR, TIMEOUT nor BAD_RESPONSE leave health, count and error
total (R15, R115). -/
theorem completeAll_fenced_record (rs : List LegRef) (s : State) (t : Target) :
    ((s.completeAll rs .fenced).record t).health = (s.record t).health ∧
      ((s.completeAll rs .fenced).record t).consecutive = (s.record t).consecutive ∧
      ((s.completeAll rs .fenced).record t).errors = (s.record t).errors := by
  have gr : ∀ (u : State) (k : ClaimId), (u.grantClaim k).record t = u.record t := by
    intro u k
    unfold State.grantClaim
    split
    · split
      · simp [State.fillSlot, State.modifyPort]
      · rfl
    · rfl
  have re : ∀ (u : State) (m : Master) (i : Target), (u.reexamine m i).record t = u.record t := by
    intro u m i
    unfold State.reexamine
    split
    · split
      · split
        · exact gr _ _
        · rfl
      · rfl
    · rfl
  have fa : ∀ (u : State) (m : Master) (i : Target),
      ((u.fall m i).record t).health = (u.record t).health ∧
        ((u.fall m i).record t).consecutive = (u.record t).consecutive ∧
        ((u.fall m i).record t).errors = (u.record t).errors := by
    intro u m i
    simp only [State.fall, re, State.record_setRecord]
    split
    · rename_i e; subst e; cases m <;> exact ⟨rfl, rfl, rfl⟩
    · exact ⟨rfl, rfl, rfl⟩
  have co : ∀ (u : State) (r : LegRef),
      ((u.complete r .fenced []).record t).health = (u.record t).health ∧
        ((u.complete r .fenced []).record t).consecutive = (u.record t).consecutive ∧
        ((u.complete r .fenced []).record t).errors = (u.record t).errors := by
    intro u r
    have en : ∀ (v : State) (c : CtxId) (x : Ctx), (v.endContext c x).record t = v.record t := by
      intro v c x
      unfold State.endContext
      split <;> simp [State.fillSlot, State.modifyPort]
    have ta : ∀ (v : State) (m : Master) (i : Target),
        ((v.takeOutcome m i .fenced).record t).health = (v.record t).health ∧
          ((v.takeOutcome m i .fenced).record t).consecutive = (v.record t).consecutive ∧
          ((v.takeOutcome m i .fenced).record t).errors = (v.record t).errors := by
      intro v m i
      have h := fa (v.setRecord i (v.record i)) m i
      have e : v.setRecord i (v.record i) = v := by simp [State.setRecord, State.record]
      rw [e] at h
      simpa [State.takeOutcome, nextConsecutive, nextErrors, e] using h
    unfold State.complete
    split
    · split
      · split
        · dsimp only
          split
          · rw [en]; exact ta _ _ _
          · exact ta _ _ _
        · exact ⟨rfl, rfl, rfl⟩
      · exact ⟨rfl, rfl, rfl⟩
    · exact ⟨rfl, rfl, rfl⟩
  induction rs generalizing s with
  | nil => exact ⟨rfl, rfl, rfl⟩
  | cons r rs ih =>
    have h1 := ih (s.complete r .fenced [])
    have h2 := co s r
    exact ⟨h1.1.trans h2.1, h1.2.1.trans h2.2.1, h1.2.2.trans h2.2.2⟩

theorem fenceLane_record (s : State) (l : LaneId) (t : Target) :
    ((s.fenceLane l).record t).health = (s.record t).health ∧
      ((s.fenceLane l).record t).consecutive = (s.record t).consecutive ∧
      ((s.fenceLane l).record t).errors = (s.record t).errors := by
  unfold State.fenceLane
  dsimp only
  split
  · exact completeAll_fenced_record _ _ _
  all_goals exact ⟨rfl, rfl, rfl⟩

/-- An occurrence leaves the count and the error total of a target, and makes no quarantined target HEALTHY. -/
theorem occur_record (s : State) (x : Source) (f : FaultFields) (t : Target) :
    ((s.occur x f).record t).consecutive = (s.record t).consecutive ∧
      ((s.occur x f).record t).errors = (s.record t).errors ∧
      ((s.record t).health = .quarantined → ((s.occur x f).record t).health = .quarantined) := by
  have ac : ∀ (u : State) (a : Action) (y : Source) (g : FaultFields) (q : Option (BitVec 16)),
      ((u.act a y g q).record t).consecutive = (u.record t).consecutive ∧
        ((u.act a y g q).record t).errors = (u.record t).errors ∧
        ((u.record t).health = .quarantined → ((u.act a y g q).record t).health = .quarantined) := by
    intro u a y g q
    have h := alertsIf_only u a y q
    unfold State.act
    dsimp only
    generalize (if a.alerts then u.alertStep y q else u) = v at h
    have e := h.record t
    split
    · unfold State.isolateStep
      split
      · rename_i l _ _
        have k := fenceLane_record v l t
        rw [e] at k
        exact ⟨k.2.1, k.2.2, fun c => k.1.trans c⟩
      · rename_i i _
        simp only [State.quarantine, State.record_setRecord]
        split
        · rename_i c; subst c; simp [e]
        · simp [e]
      · simp [e]
    · have e2 : v.haltStep.record t = v.record t := by unfold State.haltStep; split <;> rfl
      simp [e2, e]
    · simp [e]
  have rs : (((s.latch x).recordStep x f).1.record t).consecutive = (s.record t).consecutive ∧
      (((s.latch x).recordStep x f).1.record t).errors = (s.record t).errors ∧
      ((s.record t).health = .quarantined →
        (((s.latch x).recordStep x f).1.record t).health = .quarantined) := by
    unfold State.recordStep
    split
    · exact ⟨rfl, rfl, id⟩
    · exact ac _ _ _ _ _
  unfold State.occur
  dsimp only
  split
  · exact ⟨rfl, rfl, id⟩
  · have k := ac ((s.latch x).recordStep x f).1 (s.source x).action x f ((s.latch x).recordStep x f).2
    exact ⟨k.1.trans rs.1, k.2.1.trans rs.2.1, fun c => k.2.2 (rs.2.2 c)⟩

/-- An occurrence that fences no lane leaves every in-flight count. -/
theorem occur_inFlight (s : State) (x : Source) (f : FaultFields) (m : Master) (t : Target)
    (h : ¬ ((s.source x).action = .isolate ∧ x.cls = .link ∧ f.lane.isSome = true)) :
    (s.occur x f).inFlight m t = s.inFlight m t := by
  have ac : ∀ (u : State) (a : Action) (y : Source) (g : FaultFields) (q : Option (BitVec 16)),
      ¬ (a = .isolate ∧ y.cls = .link ∧ g.lane.isSome = true) →
        (u.act a y g q).inFlight m t = u.inFlight m t := by
    intro u a y g q hn
    have h := alertsIf_only u a y q
    unfold State.act
    dsimp only
    generalize (if a.alerts then u.alertStep y q else u) = v at h
    have e := h.record t
    split
    · unfold State.isolateStep
      split
      · rename_i l hc hl
        exact absurd ⟨rfl, hc, by rw [hl]; rfl⟩ hn
      · rename_i i _
        simp only [State.inFlight, State.quarantine, State.record_setRecord]
        split
        · rename_i c; subst c; rw [e]; cases m <;> rfl
        · rw [e]
      · simp [State.inFlight, e]
    · have e2 : v.haltStep.record t = v.record t := by unfold State.haltStep; split <;> rfl
      simp [State.inFlight, e2, e]
    · simp [State.inFlight, e]
  have rs : ((s.latch x).recordStep x f).1.inFlight m t = s.inFlight m t := by
    unfold State.recordStep
    split
    · rfl
    · refine ac _ _ _ _ _ ?_
      simp [FaultFields.none]
  unfold State.occur
  dsimp only
  split
  · rfl
  · rw [ac _ _ _ _ _ h, rs]

end Sys2Proof.Machine
end

