-- ==== Sys2Proof/Laws/Operands.lean ====
section
/-! SUPPORT. Fields of several bytes: what is written is read back (R185). -/

namespace Sys2Proof.Machine

theorem pair_bytes (x : BitVec 16) : pair (x.extractLsb' 8 8) (x.extractLsb' 0 8) = x := by
  unfold pair
  rw [BitVec.extractLsb'_append_extractLsb'_eq_extractLsb' (by rfl)]
  exact BitVec.extractLsb'_eq_self

theorem triple_bytes (x : BitVec 24) :
    triple (x.extractLsb' 16 8) (x.extractLsb' 8 8) (x.extractLsb' 0 8) = x := by
  unfold triple
  rw [BitVec.extractLsb'_append_extractLsb'_eq_extractLsb' (by rfl),
    BitVec.extractLsb'_append_extractLsb'_eq_extractLsb' (by rfl)]
  exact BitVec.extractLsb'_eq_self

theorem wordOf_bytes (x : Word) :
    wordOf (x.extractLsb' 24 8) (x.extractLsb' 16 8) (x.extractLsb' 8 8) (x.extractLsb' 0 8) = x := by
  unfold wordOf
  rw [BitVec.extractLsb'_append_extractLsb'_eq_extractLsb' (by rfl),
    BitVec.extractLsb'_append_extractLsb'_eq_extractLsb' (by rfl),
    BitVec.extractLsb'_append_extractLsb'_eq_extractLsb' (by rfl)]
  exact BitVec.extractLsb'_eq_self

/-- Words written out are read back. -/
theorem readWords_flatMap (ws : List Word) : readWords (ws.flatMap bytes4) = ws := by
  induction ws with
  | nil => rfl
  | cons w ws ih => simp [List.flatMap_cons, bytes4, readWords, wordOf_bytes, ih]

theorem length_flatMap_bytes4 (ws : List Word) : (ws.flatMap bytes4).length = 4 * ws.length := by
  induction ws with
  | nil => rfl
  | cons w ws ih =>
    rw [List.flatMap_cons, List.length_append, ih]
    simp [bytes4]; omega

/-! ## Numbers read from a parameter -/

/-- The target of its own ID. -/
theorem targetOf_targetId (t : Target) (n : Nat) (h : targetId t = n) : targetOf n = some t := by
  subst h; simp [targetOf, targetId]

theorem targetOf_none (n : Nat) (h : n < 1 ∨ 63 < n) : targetOf n = none := by
  simp [targetOf]; omega

theorem finOf_val {k : Nat} (t : Fin k) (n : Nat) (h : t.val = n) : finOf k n = some t := by
  subst h; simp [finOf]

theorem finOf_lt {k n : Nat} (h : n < k) : finOf k n = some ⟨n, h⟩ := by simp [finOf, h]

theorem finOf_none (k n : Nat) (h : k ≤ n) : finOf k n = none := by
  simp [finOf]; omega

end Sys2Proof.Machine
end

