-- ==== Sys2Proof/Laws/Placement.lean ====
section
/-! SUPPORT. Everything the placement of a request's legs can do (R51, R52). -/

namespace Sys2Proof.Machine

/-- The leg waits or the lane is full: a further leg for the lane waits too (R51). -/
def State.Blocked (s : State) (l : LaneId) : Prop := s.pendingFor l ≠ [] ∨ 16 ≤ (s.lane l).queue.length

/-- The references that a placed leg list puts at the tail of a lane's queue. -/
def queuedOn (c : CtxId) (legs : List Leg) (l : LaneId) : List LegRef :=
  (legs.filter (fun g => g.lane = l ∧ g.state = .queued)).map (fun g => ⟨c, g.target⟩)

/-- A leg of the list and the same leg placed: DONE legs stay, a leg to be sent is QUEUED or stays PENDING. -/
def PlacedAs (g h : Leg) : Prop :=
  (g.unfinished = false ∧ h = g) ∨ (g.unfinished = true ∧ (h = { g with state := .queued } ∨ h = g))

/-- What placement leaves as it was, and how it changes queues and counts. -/
structure Placed (s u : State) (m : Master) (c : CtxId) (legs out : List Leg) : Prop where
  pairs : List.Forall₂ PlacedAs legs out
  lanes : ∀ l, u.lane l = { s.lane l with queue := (s.lane l).queue ++ queuedOn c out l }
  records : ∀ t, u.record t =
    (s.record t).setInFlight m (s.inFlight m t + legs.countP (fun g => g.unfinished && g.target == t))
  waits : ∀ g ∈ out, g.state = .pending → u.Blocked g.lane
  enters : ∀ g ∈ out, g.state = .queued → s.pendingFor g.lane = [] ∧ (s.lane g.lane).queue.length < 16
  inOrder : out.Pairwise (fun a b => a.lane = b.lane → b.state = .queued → a.state ≠ .pending)
  rest : u = { s with lanes := u.lanes, status := u.status }

theorem setInFlight_inFlight (r : TargetRecord) (m : Master) : r.setInFlight m (r.inFlight m) = r := by
  cases m <;> rfl

theorem setInFlight_setInFlight (r : TargetRecord) (m : Master) (a b : Nat) :
    (r.setInFlight m a).setInFlight m b = r.setInFlight m b := by cases m <;> rfl

theorem inFlight_setInFlight (r : TargetRecord) (m : Master) (a : Nat) : (r.setInFlight m a).inFlight m = a := by
  cases m <;> rfl

theorem record_rise (s : State) (m : Master) (t v : Target) :
    (s.rise m t).record v = if t = v then (s.record v).setInFlight m (s.inFlight m v + 1) else s.record v := by
  simp only [State.rise, State.record_setRecord]
  by_cases h : t = v
  · subst h; simp [State.inFlight]
  · simp [h, Ne.symm h]

theorem Blocked.mono {s u : State} {l : LaneId} (hc : u.contexts = s.contexts) (ha : u.admission = s.admission)
    (hq : (s.lane l).queue.length ≤ (u.lane l).queue.length) (h : s.Blocked l) : u.Blocked l := by
  rcases h with h | h
  · exact .inl (by rwa [pendingFor_congr hc ha])
  · exact .inr (Nat.le_trans h hq)

theorem hasRoom_iff (s : State) (placed : List Leg) (l : LaneId) :
    s.hasRoom placed l = true ↔ ¬ s.Blocked l ∧ waitsFor placed l = false := by
  have h : decide ((s.lane l).queue.length < Config.laneQueueDepth) = true ↔ (s.lane l).queue.length < 16 :=
    decide_eq_true_iff
  simp only [State.hasRoom, State.Blocked, Bool.and_eq_true, h, List.isEmpty_iff, Bool.not_eq_true', not_or, not_not,
    Nat.not_le]
  tauto

/-- Placement (R51, R52), with the legs placed before it. -/
theorem placeLegs_spec (m : Master) (c : CtxId) (legs : List Leg) :
    ∀ (s : State) (placed : List Leg), (∀ g ∈ legs, g.unfinished = true → g.state = .pending) →
      (∀ g ∈ placed, g.state = .pending → s.Blocked g.lane) →
      ∃ out, (s.placeLegs m c placed legs).2 = placed ++ out ∧
        Placed s (s.placeLegs m c placed legs).1 m c legs out := by
  induction legs with
  | nil =>
    intro s placed _ _
    refine ⟨[], by simp [State.placeLegs], .nil, fun l => ?_, fun t => ?_, by simp, by simp, .nil, rfl⟩
    · simp [State.placeLegs, queuedOn]
    · simp [State.placeLegs, State.inFlight, setInFlight_inFlight]
  | cons g gs ih =>
    intro s placed hp hb
    have hp' : ∀ h ∈ gs, h.unfinished = true → h.state = .pending := fun h hh => hp h (List.mem_cons_of_mem _ hh)
    cases hu : g.unfinished with
    | false =>
      have hg : ∀ v, g.state = v → v ≠ .pending ∧ v ≠ .queued := by
        intro v hv; constructor <;> rintro rfl <;> simp [Leg.unfinished, Leg.outcome, hv] at hu
      have hb' : ∀ h ∈ placed ++ [g], h.state = .pending → s.Blocked h.lane := by
        intro h hh hs
        rcases List.mem_append.1 hh with hh | hh
        · exact hb h hh hs
        · obtain rfl := List.mem_singleton.1 hh; exact absurd rfl (hg _ hs).1
      obtain ⟨out, e, P⟩ := ih s (placed ++ [g]) hp' hb'
      have e1 : s.placeLegs m c placed (g :: gs) = s.placeLegs m c (placed ++ [g]) gs := by
        simp [State.placeLegs, hu]
      rw [e1]
      refine ⟨g :: out, by rw [e]; simp, .cons (.inl ⟨hu, rfl⟩) P.pairs, fun l => ?_, fun t => ?_, ?_, ?_, ?_, P.rest⟩
      · rw [P.lanes]; simp [queuedOn, (hg _ rfl).2]
      · rw [P.records]; simp [hu]
      · intro h hh hs
        rcases List.mem_cons.1 hh with rfl | hh
        · exact absurd rfl (hg _ hs).1
        · exact P.waits h hh hs
      · intro h hh hs
        rcases List.mem_cons.1 hh with rfl | hh
        · exact absurd rfl (hg _ hs).2
        · exact P.enters h hh hs
      · exact .cons (fun b _ _ _ => (hg _ rfl).1) P.inOrder
    | true =>
      have hpend := hp g (List.mem_cons_self ..) hu
      by_cases hr : s.hasRoom placed g.lane = true
      · obtain ⟨nb, nw⟩ := (hasRoom_iff _ _ _).1 hr
        simp only [State.Blocked, not_or, not_not, Nat.not_le] at nb
        set s1 := (s.modifyLane g.lane (fun x => { x with queue := x.queue ++ [⟨c, g.target⟩] })).rise m g.target
          with hs1
        have lane1 : ∀ l, s1.lane l =
            if g.lane = l then { s.lane l with queue := (s.lane l).queue ++ [⟨c, g.target⟩] } else s.lane l := by
          intro l
          have : s1.lane l = (s.modifyLane g.lane (fun x => { x with queue := x.queue ++ [⟨c, g.target⟩] })).lane l := rfl
          rw [this, State.modifyLane, State.lane_setLane]
          by_cases h : g.lane = l
          · subst h; simp
          · simp [h, Ne.symm h]
        have grow : ∀ l, (s.lane l).queue.length ≤ (s1.lane l).queue.length := by
          intro l; rw [lane1]; split <;> simp
        have hb' : ∀ h ∈ placed ++ [{ g with state := .queued }], h.state = .pending → s1.Blocked h.lane := by
          intro h hh hs
          rcases List.mem_append.1 hh with hh | hh
          · exact Blocked.mono (s := s) (u := s1) rfl rfl (grow _) (hb h hh hs)
          · obtain rfl := List.mem_singleton.1 hh; cases hs
        obtain ⟨out, e, P⟩ := ih s1 (placed ++ [{ g with state := .queued }]) hp' hb'
        have e1 : s.placeLegs m c placed (g :: gs) =
            s1.placeLegs m c (placed ++ [{ g with state := .queued }]) gs := by
          simp [State.placeLegs, hu, hr, hs1]
        rw [e1]
        refine ⟨{ g with state := .queued } :: out, by rw [e]; simp, .cons (.inr ⟨hu, .inl rfl⟩) P.pairs, fun l => ?_,
          fun t => ?_, ?_, ?_, ?_, ?_⟩
        · rw [P.lanes, lane1]
          split <;> rename_i h <;> simp [queuedOn, h]
        · rw [P.records]
          have r1 : s1.record t = if g.target = t then (s.record t).setInFlight m (s.inFlight m t + 1) else s.record t :=
            record_rise _ _ _ _
          simp only [State.inFlight] at r1 ⊢
          rw [r1, List.countP_cons]
          by_cases h : g.target = t
          · subst h
            simp [hu, setInFlight_setInFlight, inFlight_setInFlight]
            congr 1; omega
          · simp [h]
        · intro h hh hs
          rcases List.mem_cons.1 hh with rfl | hh
          · cases hs
          · exact P.waits h hh hs
        · intro h hh hs
          rcases List.mem_cons.1 hh with rfl | hh
          · exact nb
          · have := P.enters h hh hs
            exact ⟨by rw [← this.1]; exact (pendingFor_congr (s := s) (t := s1) rfl rfl).symm, Nat.lt_of_le_of_lt (grow _) this.2⟩
        · exact .cons (fun b _ _ _ => by simp) P.inOrder
        · have := P.rest
          rw [this]; rfl
      · have hblk : s.Blocked g.lane := by
          by_contra nb
          have : waitsFor placed g.lane = true := by
            by_contra nw
            exact hr ((hasRoom_iff _ _ _).2 ⟨nb, by simpa using nw⟩)
          simp only [waitsFor, List.any_eq_true, Bool.and_eq_true, beq_iff_eq] at this
          obtain ⟨h, hh, h1, h2⟩ := this
          exact nb (h2 ▸ hb h hh h1)
        set s1 := s.rise m g.target with hs1
        have lane1 : ∀ l, s1.lane l = s.lane l := fun l => rfl
        have blk1 : ∀ l, s.Blocked l → s1.Blocked l := fun l h => Blocked.mono (s := s) (u := s1) rfl rfl (Nat.le_refl _) h
        have hb' : ∀ h ∈ placed ++ [g], h.state = .pending → s1.Blocked h.lane := by
          intro h hh hs
          rcases List.mem_append.1 hh with hh | hh
          · exact blk1 _ (hb h hh hs)
          · obtain rfl := List.mem_singleton.1 hh; exact blk1 _ hblk
        obtain ⟨out, e, P⟩ := ih s1 (placed ++ [g]) hp' hb'
        have e1 : s.placeLegs m c placed (g :: gs) = s1.placeLegs m c (placed ++ [g]) gs := by
          simp [State.placeLegs, hu, hr, hs1]
        rw [e1]
        have enters1 : ∀ h ∈ out, h.state = .queued →
            s.pendingFor h.lane = [] ∧ (s.lane h.lane).queue.length < 16 := fun h hh hs =>
          ⟨by rw [← (P.enters h hh hs).1]; exact (pendingFor_congr (s := s) (t := s1) rfl rfl).symm, (P.enters h hh hs).2⟩
        have qnil : g.state ≠ .queued := by rw [hpend]; simp
        refine ⟨g :: out, by rw [e]; simp, .cons (.inr ⟨hu, .inr rfl⟩) P.pairs, fun l => ?_, fun t => ?_, ?_, ?_, ?_, ?_⟩
        · rw [P.lanes, lane1]; simp [queuedOn, qnil]
        · rw [P.records]
          have r1 : s1.record t = if g.target = t then (s.record t).setInFlight m (s.inFlight m t + 1) else s.record t :=
            record_rise _ _ _ _
          simp only [State.inFlight] at r1 ⊢
          rw [r1, List.countP_cons]
          by_cases h : g.target = t
          · subst h
            simp [hu, setInFlight_setInFlight, inFlight_setInFlight]
            congr 1; omega
          · simp [h]
        · intro h hh hs
          rcases List.mem_cons.1 hh with rfl | hh
          · refine Blocked.mono (s := s) ?_ ?_ ?_ hblk
            · rw [P.rest]; rfl
            · rw [P.rest]; rfl
            · rw [P.lanes]; simp [lane1]
          · exact P.waits h hh hs
        · intro h hh hs
          rcases List.mem_cons.1 hh with rfl | hh
          · exact absurd hs qnil
          · exact enters1 h hh hs
        · refine .cons (fun b hb2 hl hq => ?_) P.inOrder
          obtain ⟨n1, n2⟩ := enters1 b hb2 hq
          rw [← hl] at n1 n2
          rcases hblk with h | h
          · exact absurd n1 h
          · omega
        · have := P.rest
          rw [this]; rfl

end Sys2Proof.Machine
end

