-- ==== Sys2Proof/Laws/Receivers.lean ====
section
/-! SUPPORT. How a frame passes the receiver of a port or a lane (R186): what its SOF does to a collection that is held,
and which frames are handed on. -/

namespace Sys2Proof.Machine

theorem frameFits_iff (n : Nat) : frameFits n = true ↔ 1 ≤ n ∧ n ≤ 1021 := by
  unfold frameFits Config.maxCollection
  exact decide_eq_true_iff.trans (by omega)

/-! ## Ports -/

theorem upStart_hunting {s : State} {m : Master} (h : (s.port m).receiver = .hunting) : s.upStart m = s := by
  simp [State.upStart, h]

theorem upStart_inFrame {s : State} {m : Master} {bytes : List Byte} (h : (s.port m).receiver = .inFrame bytes) :
    s.upStart m = (s.setPort m { s.port m with receiver := .hunting }).occur .upCrc (.ofMaster m) := by
  simp [State.upStart, h, State.modifyPort]

/-- An occurrence leaves every port's receiver. -/
theorem occur_portReceiver (s : State) (x : Source) (f : FaultFields) (m : Master) :
    ((s.occur x f).port m).receiver = (s.port m).receiver := by
  have h := congrArg Port.receiver ((occur_frame s x f).outer m)
  exact h

/-- After the SOF no collection is held. -/
theorem upStart_receiver (s : State) (m : Master) : ((s.upStart m).port m).receiver = .hunting := by
  cases h : (s.port m).receiver with
  | hunting => rw [upStart_hunting h, h]
  | inFrame bytes => rw [upStart_inFrame h, occur_portReceiver]; simp

/-- A frame at a receiver that hunts has its effect when it is handed on, and is else one bad frame. -/
theorem upFrame_hunting {s : State} {m : Master} (h : (s.port m).receiver = .hunting) (n : Nat) (take : State → State) :
    s.upFrame m n take = if frameFits n then take s else s.occur .upCrc (.ofMaster m) := by
  simp [State.upFrame, upStart_hunting h]

/-- The SOF of a frame may be taken as an event of its own before it. -/
theorem upFrame_upStart (s : State) (m : Master) (n : Nat) (take : State → State) :
    (s.upStart m).upFrame m n take = s.upFrame m n take := by
  rw [upFrame_hunting (upStart_receiver s m)]; rfl

theorem upStart_phase (s : State) (m : Master) : (s.upStart m).phase = s.phase := by
  cases h : (s.port m).receiver with
  | hunting => rw [upStart_hunting h]
  | inFrame bytes => rw [upStart_inFrame h, (sameSettings_of_fixed (occur_frame _ _ _).fixed).1]; simp

theorem upBadCrcEvent_cons (m : Master) (x : Symbol) (xs : List Symbol) (s : State) :
    upBadCrcEvent m (x :: xs) s = upBadCrcEvent m xs (s.upSymbol m x) := rfl

/-! ## Lanes -/

theorem laneStart_hunting {s : State} {l : LaneId} (h : (s.lane l).receiver = .hunting) : s.laneStart l = s := by
  simp [State.laneStart, h]

theorem laneStart_inFrame {s : State} {l : LaneId} {bytes : List Byte} (h : (s.lane l).receiver = .inFrame bytes) :
    s.laneStart l = (s.setLane l { s.lane l with receiver := .hunting }).occur .laneCrc (.ofLane l) := by
  simp [State.laneStart, h, State.modifyLane]

/-- A fence leaves the receiver, and a lane DISABLED where it was. -/
theorem whenFenced_receiver (x : Lane) : x.whenFenced.receiver = x.receiver := by
  unfold Lane.whenFenced; split <;> rfl

theorem whenFenced_listens (x : Lane) : x.whenFenced.listens = x.listens := by
  unfold Lane.whenFenced Lane.listens; split <;> simp_all <;> rfl

theorem occur_laneReceiver (s : State) (x : Source) (f : FaultFields) (l : LaneId) :
    ((s.occur x f).lane l).receiver = (s.lane l).receiver := by
  rw [occur_lane]; split
  · exact whenFenced_receiver _
  · rfl

theorem occur_listens (s : State) (x : Source) (f : FaultFields) (l : LaneId) :
    ((s.occur x f).lane l).listens = (s.lane l).listens := by
  rw [occur_lane]; split
  · exact whenFenced_listens _
  · rfl

theorem laneStart_receiver (s : State) (l : LaneId) : ((s.laneStart l).lane l).receiver = .hunting := by
  cases h : (s.lane l).receiver with
  | hunting => rw [laneStart_hunting h, h]
  | inFrame bytes => rw [laneStart_inFrame h, occur_laneReceiver]; simp

theorem laneStart_listens (s : State) (l : LaneId) : ((s.laneStart l).lane l).listens = (s.lane l).listens := by
  cases h : (s.lane l).receiver with
  | hunting => rw [laneStart_hunting h]
  | inFrame bytes => rw [laneStart_inFrame h, occur_listens]; simp [Lane.listens]

/-- A DISABLED lane takes no frame (R186, R84). -/
theorem laneFrame_deaf {s : State} {l : LaneId} (h : (s.lane l).listens = false) (n : Nat) (take : State → State) :
    s.laneFrame l n take = s := by
  simp [State.laneFrame, h]

theorem laneFrame_hunting {s : State} {l : LaneId} (d : (s.lane l).listens = true)
    (h : (s.lane l).receiver = .hunting) (n : Nat) (take : State → State) :
    s.laneFrame l n take = if frameFits n then take s else s.occur .laneCrc (.ofLane l) := by
  simp [State.laneFrame, d, laneStart_hunting h]

theorem laneFrame_laneStart {s : State} {l : LaneId} (d : (s.lane l).listens = true) (n : Nat) (take : State → State) :
    (s.laneStart l).laneFrame l n take = s.laneFrame l n take := by
  rw [laneFrame_hunting (by rw [laneStart_listens, d]) (laneStart_receiver s l)]
  simp [State.laneFrame, d]

theorem laneStart_phase (s : State) (l : LaneId) : (s.laneStart l).phase = s.phase := by
  cases h : (s.lane l).receiver with
  | hunting => rw [laneStart_hunting h]
  | inFrame bytes => rw [laneStart_inFrame h, (sameSettings_of_fixed (occur_frame _ _ _).fixed).1]; simp

theorem laneBadCrcEvent_cons (l : LaneId) (x : Symbol) (xs : List Symbol) (s : State) :
    laneBadCrcEvent l (x :: xs) s = laneBadCrcEvent l xs (s.laneSymbol l x) := rfl

/-- Symbols at a DISABLED lane change nothing (R186). -/
theorem laneBadCrcEvent_deaf {s : State} {l : LaneId} (h : (s.lane l).listens = false) (xs : List Symbol) :
    laneBadCrcEvent l xs s = s := by
  induction xs with
  | nil => rfl
  | cons x xs ih => rw [laneBadCrcEvent_cons, State.laneSymbol, h]; exact ih

end Sys2Proof.Machine
end

