-- ==== Sys2Proof/WellFormed.lean ====
section
/-! DEFINITION. Which commands are events of their row: a frame command carries a frame of the row's kind
that a receiver hands on
(R90, R167, R186, R187). Lanes, slots, contexts and claim records are in range by their types. -/

namespace Sys2Proof

/-- The symbols end one frame, and it is bad (R186), from hunting or from a collection just begun. -/
def endsBadFrame (symbols : List Symbol) : Bool :=
  (receiveSymbols .hunting symbols).2 == [.badCrc] || (receiveSymbols (.inFrame []) symbols).2 == [.badCrc]

/-- The command is an event of its row. The other rows put no condition on their operands: a value out of
range is the row's own answer (INVALID, MALFORMED, FRAME_MALFORMED). -/
def Instr.wellFormed : Instr → Bool
  | .request _ r => decide (r.rest.length ≤ 36)
  | .upBadCrcFrame _ symbols => endsBadFrame symbols
  | .upMalformedFrame _ frame => frameFits frame.length && readUpFrame frame == .malformed
  | .legBack _ f => frameFits f.bytes && legBackLengthOk f
  | .laneBadCrcFrame _ symbols => endsBadFrame symbols
  | .laneMalformedFrame _ frame => frameFits frame.length && readLaneFrame frame == .malformed
  | .resetNLow | .startUpHoldEnd | .resetNRise | .credit _ _ | .masterHello _ _ | .upIdle _
  | .linkHelloInterval _ | .linkTrainingFailure _ | .linkRetry _ | .linkKeepalive _ | .linkLoss _
  | .transmitArbiter _ | .intakeTake | .ident _ _ | .dirRead _ _ _ _ | .dirWrite _ _ _ | .discard _ _
  | .commit _ _ | .statusRead _ _ _ | .revive _ _ _ | .groupRead _ _ _ _ | .groupWrite _ _ _ _ _ _
  | .quotaRead _ _ | .quotaWrite _ _ _ _ | .laneRead _ _ _ | .retrain _ _ _ | .fence _ _ _ | .unfence _ _ _
  | .enable _ _ _ | .disable _ _ _ | .autoOn _ _ _ | .autoOff _ _ _ | .deadlineRead _ _
  | .deadlineWrite _ _ _ _ _ | .claim _ _ _ _ _ _ | .renew _ _ _ | .release _ _ _ | .actionRead _ _
  | .actionWrite _ _ _ _ | .faultRead _ _ | .faultPop _ _ | .faultClear _ _ _ | .levelRead _ _
  | .levelWrite _ _ _ _ _ _ _ _ | .alertAck _ _ | .rightsWrite _ _ _ | .resume _ _ | .fabricReset _ _
  | .deviceHello _ _ | .laneIdle _ | .laneHelloInterval _ | .laneTrainingFailure _ | .laneRetry _
  | .laneKeepalive _ | .laneLoss _ | .legExpiry _ _ | .issue _ | .laneTransmitterFree _ | .drainDeadline _
  | .leaseExpiry _ => true

end Sys2Proof
end

