-- ==== Sys2Proof/Tests/Slice0.lean ====
section
/-! SUPPORT. The model's own tests: the ill-formed terms that WellFormed refuses, small steps with the values of the
chapters' worked examples, and for every statement with hypotheses a state that meets them, at the ends of each
clause's range. -/

namespace Sys2Proof.Tests

-- One theorem at a time: the many evaluations here would otherwise each take a thread.
set_option Elab.async false

open Sys2Proof Sys2Proof.Machine

/-! ## Small states -/

/-- The part just running: both links and every lane TRAINING. -/
def run0 : State := { State.reset with phase := .running }

/-- An UP port with full credit. -/
def upPort : Port :=
  { Port.initial with link := .up, requestCredit := 4, responseCredit := 16, lastReceived := some 0, lastSent := some 0 }

/-- An UP lane with four stations. -/
def upLane : Lane :=
  { Lane.initial with state := .up, contact := true, stations := 4, lastReceived := some 0, lastSent := some 0 }

/-- Both links UP, the hub in RUN at generation 17, time 5. -/
def base : State := { run0 with portM0 := upPort, portM1 := upPort, timebase := 5, hub := .run, generation := 17 }

/-- The state with this request alone in this master's receive buffer. -/
def asks (s : State) (m : Master) (r : RawRequest) : State :=
  { s.setPort m { s.port m with buffer := [r], requestCredit := 3 } with roundRobin := m }

/-- The state with this management operation of M0, tag 7, next to be taken. -/
def offer (s : State) (op : HubOp) : State := asks s .m0 (hubRequest 7 op)

/-- A PRESENT entry, window 64 words from 0x100, open to both masters. -/
def entryAt (l : LaneId) (st : Station) (groups : List Group) : DirEntry :=
  { DirEntry.absent with
    present := true, lane := l, station := st, base := 0x100, length := 64, accessM0 := .readWrite,
    accessM1 := .readWrite, memberships := groups, threshold := 3 }

/-- The state with this entry in both copies. -/
def withEntry (s : State) (t : Target) (e : DirEntry) : State := (s.setStaged t e).setActive t ⟨e, false⟩

/-- Target ID 5 at station 1 of lane 2, which is UP; group 3 enabled, with target 5 its member. -/
def one : State :=
  { (withEntry base 4 (entryAt 2 1 [3])).setLane 2 upLane with
    activeGroups := base.activeGroups.set 3 ⟨true, .readWrite, .read⟩
    stagedGroups := base.stagedGroups.set 3 ⟨true, .readWrite, .read⟩ }

/-- A READ of one word at address 16 of target ID 5. -/
def read5 : RawRequest := ⟨9, 0, 5, [1, 0, 0, 16]⟩

/-- What that READ asks for. -/
def asked5 : TargetRequest := ⟨.read, 5, 16, 1, .none⟩

/-- A GREAD of group 3 with combine LIST, one word at address 16. -/
def list3 : RawRequest := ⟨9, 3, 3, [0x31, 0, 0, 16]⟩

def askedList3 : TargetRequest := ⟨.gread .list, 3, 16, 1, .none⟩

/-- The leg of that READ in this state. -/
def leg5 (v : LegState) : Leg := ⟨4, 2, 1, 0x110, 0, v, none⟩

/-- The context of that READ. -/
def ctx5 (v : LegState) : Ctx :=
  { state := .active 9, master := .m0, kind := .read, count := 1, payload := .none, admission := 0, generation := 17,
    legs := [leg5 v], unfinished := 1, legsOk := 0, firstFailure := none, accumulator := none, mismatch := none }

/-- That READ with its leg QUEUED on lane 2. -/
def queued : State :=
  ((one.setCtx 0 (some (ctx5 .queued))).setLane 2 { upLane with queue := [⟨0, 4⟩], nextSeq := 41 }).setRecord 4
    ⟨.healthy, 2, 1, 0, 7⟩

/-- That READ with its leg ISSUED in slot W0, number 41, deadline now. -/
def issued : State :=
  (((one.setCtx 0 (some (ctx5 .issued))).setLane 2
    ({ upLane with nextSeq := 42 }.setSlot 0 (.issued 41 0 .m0 4 5))).setRecord 4 ⟨.healthy, 2, 1, 0, 7⟩).setPort .m0
      { upPort with reserved := 1 }

/-- The LEG-BACK that answers it. -/
def back5 : LegBackFrame := ⟨41, 1, 0, false, 1, [0, 0, 0xA5, 0xA5]⟩

/-- The state after an outcome. -/
def out : Host.Outcome State Fault Refusal → State
  | .next s => s
  | .fault f => nomatch f
  | .refused _ => State.reset

/-- The last answer filled for M0. -/
def answer (s : State) : Option Response := s.portM0.filled.getLast?

/-- A claim of M1 over target ID 5. -/
def claimM1 (v : ClaimState) : Claim := ⟨.m1, [4], 2, v, 17⟩

/-- A claim of M0 over target ID 5. -/
def claimM0 (v : ClaimState) : Claim := ⟨.m0, [4], 2, v, 17⟩

/-- A good DIR-WRITE. -/
def goodWrite : DirParams := ⟨9, 1, 7, 0, 0, 256, 2, 1, 1, 2, 0, 0, 1, 3⟩

/-! ## Well-formedness refuses each ill-formed frame command -/

theorem test_request_too_long : (Instr.request .m0 ⟨1, 0, 1, List.replicate 37 0⟩).wellFormed = false := by decide
theorem test_up_bad_crc_ends_no_frame : (Instr.upBadCrcFrame .m0 [.fill]).wellFormed = false := by decide
theorem test_up_malformed_is_an_idle : (Instr.upMalformedFrame .m1 [0x02]).wellFormed = false := by decide
theorem test_up_malformed_is_no_frame :
    (Instr.upMalformedFrame .m1 []).wellFormed = false ∧
      (Instr.upMalformedFrame .m1 (List.replicate 1022 0)).wellFormed = false := by decide +kernel
theorem test_lane_malformed_is_no_frame :
    (Instr.laneMalformedFrame 0 []).wellFormed = false ∧
      (Instr.laneMalformedFrame 0 (List.replicate 1022 0)).wellFormed = false := by decide +kernel
/-- A READ of 255 words: 1,025 bytes are more than a receiver hands on. -/
theorem test_legBack_too_long :
    (Instr.legBack 0 { back5 with arg := 255, rest := List.replicate 1020 0 }).wellFormed = false ∧
      (Instr.legBack 0 { back5 with arg := 254, rest := List.replicate 1016 0 }).wellFormed = true := by decide +kernel
theorem test_legBack_too_short : (Instr.legBack 0 { back5 with rest := [] }).wellFormed = false := by decide
theorem test_lane_bad_crc_is_a_good_frame :
    (Instr.laneBadCrcFrame 0 (lineSymbols [0x02])).wellFormed = false := by decide
theorem test_lane_malformed_is_a_hello : (Instr.laneMalformedFrame 0 [0x01, 2]).wellFormed = false := by decide
theorem test_wellFormed_accepts :
    (Instr.request .m0 read5).wellFormed = true ∧ (Instr.upBadCrcFrame .m0 [.sof, .data 2, .eof]).wellFormed = true ∧
      (Instr.upMalformedFrame .m1 [0x20]).wellFormed = true ∧ (Instr.legBack 0 back5).wellFormed = true ∧
      (Instr.laneBadCrcFrame 0 [.noSymbol]).wellFormed = true ∧
      (Instr.laneMalformedFrame 0 [0x10]).wellFormed = true := by decide

/-! ## Lines and frames (R185 to R187) -/

/-- The usual check word of this polynomial and initial value. -/
theorem test_crc : crc16 [0x31, 0x32, 0x33, 0x34, 0x35, 0x36, 0x37, 0x38, 0x39] = 0x29B1 := by decide +kernel
theorem test_idle_line_is_received :
    receiveSymbols .hunting (laneLineSymbols .idle) = (.hunting, [.handedOn [0x02]]) := by decide +kernel
theorem test_commands_of_frames :
    upCommand .m0 [0x10, 9, 0, 5, 1, 0, 0, 16] = .request .m0 read5 ∧ upCommand .m1 [0x03, 2] = .credit .m1 2 ∧
      upCommand .m0 [0x10, 9, 0] = .upMalformedFrame .m0 [0x10, 9, 0] ∧
      laneCommand 2 [0x21, 41, 1, 0, 1, 0, 0, 0xA5, 0xA5] = .legBack 2 back5 ∧
      laneCommand 2 [0x01, 4] = .deviceHello 2 4 ∧ laneCommand 2 [0x03, 1] = .laneMalformedFrame 2 [0x03, 1] := by
  decide +kernel
theorem test_legOut_bytes :
    legOutBytes ⟨41, 1, .read, 0x1064, 2⟩ = [0x20, 41, 0x01, 2, 0x00, 0x10, 0x64] := by decide +kernel
theorem test_response_bytes :
    responseBytes ⟨0x2A, .mismatch, none, some 8, some ⟨4, 3, some (4, .targetError 7), some 29⟩, .words [0xA5A5]⟩ =
      [0x11, 0x2A, 0x03, 6, 0, 8, 4, 3, 5, 0x30, 30, 0, 0, 0xA5, 0xA5] := by decide +kernel
theorem test_no_word_spells_a_command : decodeTableWord 8 0 = none ∧ State.withFetchWord base 32 7 = base :=
  ⟨rfl, rfl⟩

/-! ## Reset pin, links and receive -/

theorem test_reset_then_hold :
    (out (exec .resetNLow base)).phase = .resetLow ∧ (out (exec .resetNRise State.reset)).phase = .holding 50000 := by
  decide +kernel
theorem test_hold_end_sends_hellos :
    let s := out (exec .startUpHoldEnd { State.reset with phase := .holding 0 })
    (s.lane 11).line = some .hello ∧ s.portM1.line = some (.hello 0) ∧ s.phase = .running := by decide +kernel
theorem test_request_joins_buffer :
    let p := (out (exec (.request .m0 read5) base)).portM0
    p.buffer = [read5] ∧ p.requestCredit = 3 := by decide +kernel
theorem test_credit_sends_waiting_response :
    let r : Response := ⟨1, .ok, none, some 17, none, .none⟩
    let p := (out (exec (.credit .m0 1) (base.setPort .m0 { upPort with responseCredit := 0, filled := [r] }))).portM0
    p.line = some (.response r) ∧ p.responseCredit = 0 ∧ p.filled = [] := by decide +kernel
theorem test_master_hello_brings_up :
    let p := (out (exec (.masterHello .m0 16) run0)).portM0
    p.link = .up ∧ p.responseCredit = 16 ∧ p.line = some (.hello 4) := by decide +kernel
theorem test_up_frames :
    (out (exec (.upIdle .m1) base)).portM1.lastReceived = some 5 ∧
      ((out (exec (.upBadCrcFrame .m0 [.sof, .data 2, .eof]) base)).source .upCrc).count = 1 ∧
      ((out (exec (.upMalformedFrame .m0 [0x20]) base)).source .frameMalformed).latch = true := by decide +kernel
theorem test_link_timers :
    let t : State := base.setPort .m0 { Port.initial with hellosSent := 49, helloTime := some (5 - 200) }
    let f : State := base.setPort .m0 { Port.initial with hellosSent := 50, helloTime := some (5 - 200) }
    let d : State := base.setPort .m0 { Port.initial with link := .down, retryTime := some 5 }
    (out (exec (.linkHelloInterval .m0) t)).portM0.hellosSent = 50 ∧
      (out (exec (.linkTrainingFailure .m0) f)).portM0.retryTime = some 100005 ∧
      (out (exec (.linkRetry .m0) d)).portM0.link = .training := by decide +kernel
theorem test_link_keepalive_and_loss :
    (out (exec (.linkKeepalive .m0) { base with timebase := 100 })).portM0.line = some .idle ∧
      (out (exec (.linkLoss .m0) { base with timebase := 1000 })).portM0.link = .training ∧
      ((out (exec (.linkLoss .m0) { base with timebase := 1000 })).source .upLost).latch = true := by decide +kernel
theorem test_arbiter_puts_credit_before_response :
    let r : Response := ⟨1, .ok, none, some 17, none, .none⟩
    (out (exec (.transmitArbiter .m0) (base.setPort .m0 { upPort with creditsOwed := 1, filled := [r] }))).portM0.line =
      some .credit := by decide +kernel

/-! ## Intake -/

theorem test_read_is_queued :
    let s := out (exec .intakeTake (asks one .m0 read5))
    (s.lane 2).queue = [⟨0, 4⟩] ∧ s.ctx 0 = some (ctx5 .queued) ∧ s.inFlight .m0 4 = 1 ∧
      s.portM0.reserved = 1 ∧ s.portM0.creditsOwed = 1 ∧ s.roundRobin = .m1 := by decide +kernel
/-- Worked example 3.8, step 1: behind a lane with 15 of 16 legs one leg is QUEUED and the next PENDING. -/
theorem test_placement_behind_full_lane :
    let s : State := withEntry (withEntry one 3 (entryAt 2 0 [3])) 5 (entryAt 2 2 [3])
    let t := out (exec .intakeTake (asks (s.setLane 2 { upLane with queue := List.replicate 15 ⟨31, 60⟩ }) .m0
      ⟨9, 3, 3, [0x01, 0, 0, 16]⟩))
    (t.lane 2).queue.length = 16 ∧ (t.ctx 0).map (fun x => x.legs.map Leg.state) =
      some [.queued, .pending, .pending] := by decide +kernel
/-- Worked example 10.8, step 4. -/
theorem test_range_refused :
    answer (out (exec .intakeTake (asks one .m0 ⟨7, 0, 5, [1, 0, 0, 64]⟩))) =
      some ⟨7, .range, none, some 17, none, .none⟩ := by decide +kernel

/-! ## Management operations -/

theorem test_ident :
    answer (out (exec (.ident .m0 7) (offer base .ident))) =
      some ⟨7, .ok, some 1, some 17, none,
        .fields [4, 0xC3, 0x0A, 0x12, 2, 12, 32, 63, 1, 0, 0, 0, 5, 2, 2, 1]⟩ := by decide +kernel
theorem test_dirRead :
    answer (out (exec (.dirRead .m0 7 5 1) (offer one (.dirRead 5 1)))) =
      some ⟨7, .ok, some 2, some 17, none,
        .fields [1, 2, 1, 0, 1, 0, 0, 0, 64, 2, 2, 1, 3, 0, 3]⟩ := by decide +kernel
theorem test_dirWrite :
    ((out (exec (.dirWrite .m0 7 goodWrite) (offer base (.dirWrite goodWrite)))).stagedEntry 8).lane = 7 ∧
      answer (out (exec (.dirWrite .m0 7 { goodWrite with lane := 12 })
        (offer base (.dirWrite { goodWrite with lane := 12 })))) =
          some ⟨7, .invalid, some 3, none, none, .fields [3]⟩ := by decide +kernel
theorem test_discard :
    (out (exec (.discard .m0 7) (offer (one.setStaged 4 .absent) .discard))).stagedEntry 4 = entryAt 2 1 [3] := by
  decide +kernel
/-- Worked example 1.6, step 4: a relocated target is HEALTHY again with count 0, its other fields as before. -/
theorem test_commit_relocates :
    let s : State := ((withEntry one 8 (entryAt 4 1 [3])).setStaged 8 (entryAt 7 0 [3])).setRecord 8
      ⟨.quarantined, 3, 1, 0, 8⟩
    let t := out (exec (.commit .m0 7) (offer s .commit))
    t.record 8 = ⟨.healthy, 0, 1, 0, 8⟩ ∧ (t.activeEntry 8).entry.lane = 7 ∧ t.generation = 18 := by decide +kernel
/-- Worked example 1.6, last paragraph: the lower of the clashing pair. -/
theorem test_commit_rejected :
    answer (out (exec (.commit .m0 7) (offer (one.setStaged 8 (entryAt 2 1 [3])) .commit))) =
      some ⟨7, .invalid, some 5, none, none, .fields [2, 5]⟩ := by decide +kernel
theorem test_statusRead_and_revive :
    let s : State := base.setRecord 8 ⟨.quarantined, 3, 1, 0, 8⟩
    answer (out (exec (.statusRead .m0 7 9) (offer s (.statusRead 9)))) =
        some ⟨7, .ok, some 6, none, none, .fields [1, 3, 1, 0, 0, 8]⟩ ∧
      (out (exec (.revive .m0 7 9) (offer s (.revive 9)))).record 8 = ⟨.healthy, 0, 1, 0, 8⟩ := by decide +kernel
theorem test_groupRead_and_write :
    answer (out (exec (.groupRead .m0 7 3 1) (offer one (.groupRead 3 1)))) =
        some ⟨7, .ok, some 8, some 17, none, .fields [1, 2, 1]⟩ ∧
      answer (out (exec (.groupRead .m0 7 15 0) (offer one (.groupRead 15 0)))) =
        some ⟨7, .ok, some 8, none, none, .fields [1, 2, 1]⟩ ∧
      (out (exec (.groupWrite .m0 7 14 1 1 0) (offer base (.groupWrite 14 1 1 0)))).stagedGroups[14] =
        ⟨true, .read, .none⟩ := by decide +kernel
/-- Worked example 3.8: the counts of QUOTA-READ, here with one ACTIVE context of M0. -/
theorem test_quotaRead_and_write :
    answer (out (exec (.quotaRead .m0 7) (offer queued .quotaRead))) =
        some ⟨7, .ok, some 0x0A, none, none, .fields [16, 16, 1, 0, 0, 31]⟩ ∧
      (out (exec (.quotaWrite .m0 7 4 12) (offer base (.quotaWrite 4 12)))).quotaM1 = 12 := by decide +kernel
theorem test_laneRead :
    answer (out (exec (.laneRead .m0 7 2) (offer issued (.laneRead 2)))) =
      some ⟨7, .ok, some 0x0C, none, none,
        .fields [2, 1, 0, 1, 4, 42, 0, 0, 0, 1, 1, 41, 1, 0, 1, 5, 0, 0, 0, 0, 0, 0, 0, 0, 0, 0, 0, 0]⟩ := by
  decide +kernel
theorem test_laneControl :
    ((out (exec (.retrain .m0 7 2) (offer queued (.laneControl 2 0)))).lane 2).state = .training ∧
      ((out (exec (.fence .m0 7 2) (offer queued (.laneControl 2 1)))).lane 2).state = .fenced ∧
      ((out (exec (.unfence .m0 7 2) (offer (one.setLane 2 { upLane with state := .fenced })
        (.laneControl 2 2)))).lane 2).state = .training ∧
      ((out (exec (.disable .m0 7 2) (offer queued (.laneControl 2 4)))).lane 2).state = .disabled ∧
      ((out (exec (.enable .m0 7 2) (offer (one.setLane 2 { Lane.initial with state := .disabled, enabled := false })
        (.laneControl 2 3)))).lane 2).enabled = true := by decide +kernel
theorem test_autoRetrain :
    let s : State := one.setLane 2 { Lane.initial with state := .down, autoRetrain := false }
    ((out (exec (.autoOn .m0 7 2) (offer s (.laneControl 2 5)))).lane 2).retryTime = some 100005 ∧
      ((out (exec (.autoOff .m0 7 2) (offer queued (.laneControl 2 6)))).lane 2).autoRetrain = false := by
  decide +kernel
theorem test_deadlines :
    answer (out (exec (.deadlineRead .m0 7) (offer base .deadlineRead))) =
        some ⟨7, .ok, some 0x0E, none, none,
          .fields [100, 0, 0, 0, 0, 100, 125, 3, 0, 0, 3, 232, 125, 7, 0, 0, 62, 128, 250, 12, 0, 15, 160, 0,
            0, 0, 0, 5]⟩ ∧
      (out (exec (.deadlineWrite .m0 7 2 255 12) (offer base (.deadlineWrite 2 255 12)))).classes[2] = ⟨255, 12⟩ := by
  decide +kernel
theorem test_claim_held :
    let s := out (exec (.claim .m0 7 0 5 2 1) (offer one (.claim 0 5 2 1)))
    s.claim 0 = some (claimM0 (.held (some 2005))) ∧
      answer s = some ⟨7, .ok, some 0x10, some 17, none, .fields [0, 1, 5]⟩ := by decide +kernel
theorem test_claim_drains :
    let s := out (exec (.claim .m0 7 0 5 2 1) (offer (one.setRecord 4 ⟨.healthy, 0, 0, 1, 0⟩) (.claim 0 5 2 1)))
    s.claim 0 = some (claimM0 (.draining 7 1005)) ∧ s.portM0.reserved = 1 := by decide +kernel
theorem test_renew_and_release :
    let s : State := one.setClaim 3 (some (claimM0 (.held (some 9))))
    (out (exec (.renew .m0 7 3) (offer s (.renew 3)))).claim 3 = some (claimM0 (.held (some 2005))) ∧
      (out (exec (.release .m0 7 3) (offer s (.release 3)))).claim 3 = none := by decide +kernel
theorem test_actions :
    answer (out (exec (.actionRead .m0 7) (offer base .actionRead))) =
        some ⟨7, .ok, some 0x13, none, none,
          .fields [1, 1, 2, 1, 2, 2, 3, 1, 1, 0, 1, 1, 2, 2, 1, 0, 1, 2, 2, 1, 4, 2]⟩ ∧
      ((out (exec (.actionWrite .m0 7 22 4) (offer base (.actionWrite 22 4)))).source .recordsLost).action = .halt := by
  decide +kernel
/-- Worked example 8.6, time 301,300: the oldest record with the lost count, which becomes 0. -/
theorem test_faults :
    let s : State := { base with
      records := [⟨200, 0x300, .laneLost, .ofLane 3⟩], nextRecord := 201, lostCount := 1 }
    answer (out (exec (.faultPop .m0 7) (offer s .faultPop))) =
        some ⟨7, .ok, some 0x16, none, none,
          .fields [0, 200, 0, 0, 3, 0, 5, 2, 1, 3, 0, 0, 0, 0, 1]⟩ ∧
      (out (exec (.faultPop .m0 7) (offer s .faultPop))).lostCount = 0 ∧
      (answer (out (exec (.faultRead .m0 7) (offer s .faultRead)))).map Response.status = some .ok := by
  decide +kernel
theorem test_faultClear :
    (out (exec (.faultClear .m0 7 0x400000) (offer (base.setSource .recordsLost ⟨true, 9, .alert⟩)
      (.faultClear 0x400000)))).source .recordsLost = ⟨false, 0, .alert⟩ := by decide +kernel
theorem test_levels :
    answer (out (exec (.levelRead .m0 7) (offer base .levelRead))) =
        some ⟨7, .ok, some 0x18, none, none, .fields [3, 2, 2, 1, 0, 0, 0, 0, 0, 0, 0, 0, 0, 0]⟩ ∧
      (out (exec (.levelWrite .m0 7 1 0 1 2 3 3) (offer base (.levelWrite 1 0 1 2 3 3)))).alertM1 =
        ⟨⟨0, 1, 2, 3⟩, 3, ⟨none, none, none, none⟩, false⟩ := by decide +kernel
/-- Worked example 8.6, time 300,900: FABRIC comes before LINK at the same level. -/
theorem test_alertAck :
    let s : State := base.setAlert .m0
      ⟨⟨3, 2, 2, 1⟩, 0, ⟨none, some ⟨.claimExpired, some 215⟩, some ⟨.laneLost, some 214⟩, none⟩, true⟩
    let t := out (exec (.alertAck .m0 7) (offer s .alertAck))
    t.portM0.alertReady = some ⟨.fabric, .claimExpired, some 215, 5⟩ ∧
      t.alertM0.pending = ⟨none, none, some ⟨.laneLost, some 214⟩, none⟩ ∧ t.alertM0.busy = true := by decide +kernel
theorem test_hub_operations :
    (out (exec (.rightsWrite .m0 7 2) (offer base (.rightsWrite 2)))).rightsM1 = .full ∧
      (out (exec (.resume .m0 7) (offer { base with hub := .halted } .resume))).hub = .run := by decide +kernel
/-- M0's FABRIC-RESET with tag 7, its Lane Engines' parts apart or not. -/
def resetAnswered (apart : Bool) (s : State) : State :=
  let u := (s.takeRequest .m0).fabricResetAs apart
  (u.modifyPort .m0 (fun p => { p with reserved := p.reserved + 1 })).answer .m0 7 0x1D .ok (some u.generation) []
/-- Whatever the free value, FABRIC-RESET is one of the two. -/
theorem test_fabricReset_is_either :
    exec (.fabricReset .m0 7) (offer queued .fabricReset) =
      .next (resetAnswered (Config.laneResetsApart 0) (offer queued .fabricReset)) := by
  have h := hubEvent_of_next (offer queued .fabricReset) .m0 (hubRequest 7 .fabricReset) .fabricReset
    (by decide +kernel) (by decide +kernel) (by decide +kernel)
  rw [manage_passes _ _ _ _ rfl] at h
  exact (happens_running _ _ rfl).trans (congrArg Host.Outcome.next h)
theorem test_fabricReset : ∀ apart,
    let t := resetAnswered apart (offer queued .fabricReset)
    t.ctx 0 = none ∧ (t.lane 2).state = (if apart then .up else .training) ∧ (t.settle.lane 2).state = .training ∧
      t.record 4 = ⟨.healthy, 2, 0, 0, 7⟩ ∧ t.portM1.notice = some ⟨17, 5⟩ ∧ t.fabricResets = 1 ∧
      answer t = some ⟨7, .ok, some 0x1D, some 17, none, .none⟩ := by decide +kernel
/-- Worked example 10.8, step 2: M1 with READ rights sends a COMMIT. -/
theorem test_rights_violation :
    let t := out (exec (.commit .m1 6) (asks one .m1 (hubRequest 6 .commit)))
    t.portM1.filled = [⟨6, .denied, none, none, none, .none⟩] ∧
      t.records = [⟨0, 5, .rightsViolation, ⟨none, none, some .m1, some 6, some 5⟩⟩] ∧
      t.alertM1.pending.fabric = none ∧ t.generation = 17 := by decide +kernel

/-! ## Lanes -/

theorem test_legBack_ok :
    let t := out (exec (.legBack 2 back5) issued)
    (t.lane 2).slot 0 = .free ∧ t.ctx 0 = none ∧ t.record 4 = ⟨.healthy, 0, 0, 0, 7⟩ ∧
      answer t = some ⟨9, .ok, none, some 17, none, .words [0xA5A5]⟩ := by decide +kernel
/-- Worked example 5.12, time 5,160: the late answer. -/
theorem test_late_answer :
    let t := out (exec (.legBack 2 back5) ((one.setLane 2 (upLane.setSlot 1 (.expired 41 .m0 4))).setRecord 4
      ⟨.healthy, 1, 2, 0, 5⟩))
    (t.lane 2).slot 1 = .free ∧ t.record 4 = ⟨.healthy, 1, 1, 0, 5⟩ ∧
      (t.source .lateResponse).latch = true := by decide +kernel
/-- Worked example 1.6, step 1: the threshold 3 is reached. -/
theorem test_expiry_quarantines :
    let t := out (exec (.legExpiry 2 0) issued)
    (t.lane 2).slot 0 = .expired 41 .m0 4 ∧ t.record 4 = ⟨.quarantined, 3, 1, 0, 8⟩ ∧
      answer t = some ⟨9, .timeout, none, some 17, none, .none⟩ := by decide +kernel
/-- Worked example 5.12, time 5,000: the number 41 and the deadline 100 microseconds away. -/
theorem test_issue :
    let t := out (exec (.issue 2) queued)
    (t.lane 2).slot 0 = .issued 41 0 .m0 4 105 ∧ (t.lane 2).nextSeq = 42 ∧
      (t.lane 2).line = some (.legOut ⟨41, 1, .read, 0x110, 1⟩) := by decide +kernel
theorem test_device_hello :
    ((out (exec (.deviceHello 3 4) run0)).lane 3).state = .up ∧
      ((out (exec (.deviceHello 3 5) run0)).source .frameMalformed).latch = true := by decide +kernel
/-- A frame at a receiver that holds a collection, and frames that are not handed on. -/
theorem test_frames_at_receivers :
    let p := base.setPort .m0 { upPort with receiver := .inFrame [2, 3] }
    let x := one.setLane 2 { upLane with receiver := .inFrame [] }
    let t := out (exec (.upIdle .m0) p)
    let u := out (exec (.laneIdle 2) x)
    let v := out (exec (.upMalformedFrame .m0 []) base)
    let w := out (exec (.legBack 2 { back5 with arg := 255, rest := List.replicate 1020 0 }) { issued with timebase := 9 })
    ((t.source .upCrc).count = 1 ∧ t.portM0.receiver = .hunting ∧ t.portM0.lastReceived = some 5) ∧
      ((u.source .laneCrc).count = 1 ∧ (u.lane 2).receiver = .hunting ∧ (u.lane 2).lastReceived = some 5) ∧
      ((v.source .upCrc).count = 1 ∧ (v.source .frameMalformed).count = 0) ∧
      ((w.source .laneCrc).count = 1 ∧ (w.lane 2).slot 0 ≠ .free ∧ (w.lane 2).lastReceived = some 0) := by
  decide +kernel
/-- Symbols that end no frame, two bad frames, or a good frame. -/
theorem test_symbols_at_receivers :
    let begun := out (exec (.upBadCrcFrame .m0 [.sof, .data 2]) base)
    let two := out (exec (.upBadCrcFrame .m0 [.sof, .data 1, .eof]) begun)
    let idle := out (exec (.laneBadCrcFrame 2 ([.sof, .noSymbol] ++ lineSymbols [0x02])) one)
    (begun.portM0.receiver = .inFrame [2] ∧ (begun.source .upCrc).count = 0) ∧
      (two.portM0.receiver = .hunting ∧ (two.source .upCrc).count = 2) ∧
      ((idle.source .laneCrc).count = 1 ∧ (idle.lane 2).lastReceived = some 5 ∧ (idle.lane 2).receiver = .hunting) ∧
      (out (exec (.upMalformedFrame .m1 [0x02]) base)).portM1.lastReceived = some 5 := by decide +kernel
theorem test_lane_frames :
    ((out (exec (.laneIdle 2) one)).lane 2).lastReceived = some 5 ∧
      ((out (exec (.laneBadCrcFrame 2 [.sof, .eof]) one)).source .laneCrc).latch = true ∧
      ((out (exec (.laneMalformedFrame 2 [0x10]) one)).source .frameMalformed).latch = true := by decide +kernel
theorem test_lane_timers :
    let t : State := base.setLane 3 { Lane.initial with hellosSent := 49, helloTime := some (5 - 200) }
    let f : State := base.setLane 3 { Lane.initial with hellosSent := 50, helloTime := some (5 - 200) }
    let d : State := base.setLane 3 { Lane.initial with state := .down, retryTime := some 5 }
    ((out (exec (.laneHelloInterval 3) t)).lane 3).hellosSent = 50 ∧
      ((out (exec (.laneTrainingFailure 3) f)).lane 3).state = .down ∧
      ((out (exec (.laneRetry 3) d)).lane 3).state = .training ∧
      ((out (exec (.laneKeepalive 2) { one with timebase := 100 })).lane 2).line = some .idle := by decide +kernel
theorem test_lane_loss :
    let t := out (exec (.laneLoss 2) { queued with timebase := 1000 })
    (t.lane 2).state = .training ∧ (t.lane 2).queue = [] ∧ t.ctx 0 = none ∧
      (t.source .laneLost).latch = true := by decide +kernel
theorem test_lane_transmitter :
    ((out (exec (.laneTransmitterFree 2) (one.setLane 2 { upLane with line := some .idle, waiting := [.hello] }))).lane
      2).line = some .hello := by decide +kernel
theorem test_claim_timers :
    (out (exec (.drainDeadline 3) (one.setClaim 3 (some (claimM1 (.draining 8 5)))))).claim 3 = none ∧
      ((out (exec (.leaseExpiry 3) (one.setClaim 3 (some (claimM1 (.held (some 5))))))).source .claimExpired).latch =
        true := by decide +kernel

/-- The context of worked example 2.7 with its legs to targets 3 and 12 ISSUED, answered in the order 27, 3, 12, before
the last answer. -/
def gread (combine : Combine) : Ctx :=
  let leg : Target → LaneId → LegState → Leg := fun t l v => ⟨t, l, 0, 15, 0, v, none⟩
  let x : Ctx :=
    { state := .active 9, master := .m1, kind := .gread combine, count := 2, payload := .none, admission := 0,
      generation := 17, unfinished := 3, legsOk := 0, firstFailure := some (7, .denied), accumulator := none,
      mismatch := none,
      legs := [leg 2 0 .issued, leg 7 0 (.done .denied), leg 11 2 .issued, leg 19 5 (.done .range), leg 26 6 .issued,
        leg 32 9 (.done .laneDown)] }
  (x.endLeg 26 .ok [0xF3, 0]).endLeg 2 .ok [0xF1, 0x10000]

/-- The last answer of worked example 2.7, for this combine. -/
def lastAnswer (combine : Combine) : Option Response :=
  let s : State := ((base.setCtx 0 (some (gread combine))).setLane 2 (upLane.setSlot 0 (.issued 1 0 .m1 11 99))).setPort
    .m1 { upPort with reserved := 1 }
  (out (exec (.legBack 2 ⟨1, 0, 0, false, 2, [0, 0, 0, 0xF1, 0, 1, 0, 0]⟩) s)).portM1.filled.head?

theorem test_gread_or_and :
    lastAnswer .or = some ⟨9, .partialOk, none, some 17, some ⟨6, 3, some (7, .denied), none⟩,
        .words [0xF3, 0x10000]⟩ ∧
      lastAnswer .and = some ⟨9, .partialOk, none, some 17, some ⟨6, 3, some (7, .denied), none⟩,
        .words [0xF1, 0]⟩ := by decide +kernel
theorem test_gread_match_list :
    lastAnswer .matching = some ⟨9, .mismatch, none, some 17, some ⟨6, 3, some (7, .denied), some 26⟩,
        .words [0xF1, 0x10000]⟩ ∧
      lastAnswer .list = some ⟨9, .partialOk, none, some 17, some ⟨6, 3, some (7, .denied), none⟩,
        .records [⟨2, .ok, some [0xF1, 0x10000]⟩, ⟨7, .denied, none⟩, ⟨11, .ok, some [0xF1, 0x10000]⟩,
          ⟨19, .range, none⟩, ⟨26, .ok, some [0xF3, 0]⟩, ⟨32, .laneDown, none⟩]⟩ := by decide +kernel

/-- A leg to this target on this lane. -/
def legTo (t : Target) (l : LaneId) (v : LegState) : Leg := ⟨t, l, 0, 16, 0, v, none⟩

/-- A context with these legs, counted. -/
def ctxOf (st : CtxState) (m : Master) (k : Kind) (admission : BitVec 32) (legs : List Leg) : Ctx :=
  { state := st, master := m, kind := k, count := 1, payload := .none, admission := admission, generation := 17,
    legs := legs, unfinished := legs.countP Leg.unfinished, legsOk := legs.countP (fun g => g.state = .done .ok),
    firstFailure := legs.findSome? Leg.failure,
    accumulator := (legs.find? (fun g => g.state = .done .ok)).bind Leg.data, mismatch := none }

/-- A MATCH request of M0 with a leg in each state. -/
def mixed : Ctx :=
  ctxOf (.active 9) .m0 (.gread .matching) 10
    [{ legTo 2 0 (.done .ok) with data := some [1] }, legTo 4 2 .issued, legTo 5 2 .queued, legTo 6 3 .queued,
      legTo 7 2 .pending]

/-- A READ of M0 whose leg waits PENDING for lane 2. -/
def eldest : Ctx := ctxOf (.active 5) .m0 .read 8 [legTo 11 2 .pending]

/-- Contexts of both masters and an ORPHAN one with legs in every state, lane 2 with an ISSUED slot of two of them and an
EXPIRED slot, time 1,000. -/
def busy : State :=
  let s : State := { base with timebase := 1000, admission := 12, status := Vector.replicate 63 ⟨.healthy, 1, 3, 4, 7⟩ }
  let s := (s.setCtx 0 (some mixed)).setCtx 5 (some eldest)
  let s := s.setCtx 1 (some (ctxOf (.active 3) .m1 .gwrite 9 [legTo 4 2 .queued, legTo 8 2 .pending]))
  let s := s.setCtx 2 (some (ctxOf .orphan .m0 .write 1 [legTo 10 2 .issued]))
  let s := s.setCtx 3 (some (ctxOf (.active 4) .m1 .read 11 [legTo 9 2 .pending]))
  let x := ((upLane.setSlot 0 (.issued 41 0 .m0 4 1000)).setSlot 1 (.issued 42 2 .m0 10 1000)).setSlot 2
    (.expired 40 .m1 4)
  (s.setLane 2 { x with queue := [⟨0, 5⟩, ⟨1, 4⟩] }).setLane 3 { upLane with queue := [⟨0, 6⟩] }

/-- The part between the two parts of a fabric reset: the contexts of `issued` are gone, its lanes as they were. -/
def between : State :=
  { issued with phase := .resetting issued.contexts, contexts := Vector.replicate 32 none }

/-! ## A teardown, a lane-wide ending, and events between the parts of a fabric reset -/

theorem test_teardown_refills_oldest :
    let t := out (exec (.linkLoss .m0) busy)
    (t.lane 2).queue = [⟨1, 4⟩, ⟨1, 8⟩] ∧ (t.lane 3).queue = [] ∧ t.ctx 5 = none ∧
      (t.ctx 0).map Ctx.unfinished = some 1 ∧ t.inFlight .m0 5 = 2 := by decide +kernel
/-- The ending of lane 2 answers M0's READ, whose one leg waited for it, and M1's GWRITE and READ. -/
theorem test_ending_answers :
    let s := (busy.setPort .m0 { upPort with reserved := 4 }).setPort .m1 { upPort with reserved := 4 }
    (s.endLaneWork 2).portM0.filled = [⟨5, .laneDown, none, some 17, none, .none⟩] ∧
      (s.endLaneWork 2).portM0.reserved = 3 ∧
      (s.endLaneWork 2).portM1.filled =
        [⟨3, .failed, none, some 17, some ⟨2, 0, some (4, .laneDown), none⟩, .none⟩,
          ⟨4, .laneDown, none, some 17, none, .none⟩] ∧
      (ctxOf (.active 3) .m1 .gwrite 9 [legTo 4 2 .queued, legTo 8 2 .pending]).groupAnswer 3
          [legTo 4 2 (.done .laneDown), legTo 8 2 (.done .laneDown)] none =
        ⟨3, .failed, none, some 17, some ⟨2, 0, some (4, .laneDown), none⟩, .none⟩ := by decide +kernel
theorem test_ending_lowers_expired_slots_count :
    (busy.endLaneWork 2).ctx 2 = none ∧ (busy.endLaneWork 2).inFlight .m1 4 = 2 ∧
      (busy.fenceLane 2).inFlight .m1 4 = 3 := by decide +kernel
theorem test_keepalive_is_due_at_once :
    let s : State := { base.setLane 3 { Lane.initial with helloTime := some 0, hellosSent := 1 } with timebase := 150 }
    let t := out (exec (.deviceHello 3 4) s)
    ((out (exec (.laneKeepalive 3) t)).lane 3).line = some .idle := by decide +kernel
theorem test_reset_parts_apart :
    let t := resetAnswered true (offer issued .fabricReset)
    t.ctx 0 = none ∧ (t.lane 2).state = .up ∧ ((out (step t)).lane 2).state = .training ∧
      (out (step t)).phase = .running := by decide +kernel
theorem test_answer_between_parts_raises_its_fault :
    let t := out (exec (.legBack 2 { back5 with error := true, arg := 7, rest := [] }) between)
    (t.source .targetError).count = 1 ∧ (t.lane 2).slot 0 = .free ∧ t.record 4 = between.record 4 ∧
      t.resetDue = true := by decide +kernel

/-! ## States that meet the hypotheses of the statements -/

/-- The leg of a context to this target, on this lane, in this state. -/
def hasLeg (s : State) (r : LegRef) (l : LaneId) (v : LegState) : Bool :=
  match s.ctx r.ctx with
  | some x => x.legs.any (fun g => g.target == r.target && g.lane == l && g.state == v)
  | none => false

theorem hasLeg_iff (s : State) (r : LegRef) (l : LaneId) (v : LegState) :
    hasLeg s r l v = true ↔ s.HasLeg r.ctx r.target l v := by
  unfold hasLeg State.HasLeg
  cases s.ctx r.ctx <;> simp [and_assoc]

/-- The leg, and the context's master, of an ISSUED slot. -/
def slotLeg (x : Lane) (w : SlotId) : Option (LegRef × Master) :=
  match x.slot w with
  | .issued _ c m t _ => some (⟨c, t⟩, m)
  | _ => none

theorem slotLeg_iff (x : Lane) (w : SlotId) (r : LegRef) (m : Master) :
    slotLeg x w = some (r, m) ↔ ∃ q d, x.slot w = .issued q r.ctx m r.target d := by
  unfold slotLeg
  cases x.slot w <;> simp
  case issued q c n t d =>
    constructor
    · rintro ⟨h, rfl⟩; subst h; simp
    · rintro ⟨rfl, rfl, rfl⟩; simp

/-- LegsPlaced as a check. -/
def placedOk (s : State) : Bool :=
  !s.resetDue &&
    s.usedContexts.all (fun c => decide (
      (c.2.legs.map Leg.target).Pairwise (· < ·) ∧ c.2.unfinished = c.2.legs.countP Leg.unfinished ∧
        0 < c.2.unfinished ∧ c.2.legsOk = c.2.legs.countP (fun g => g.state = .done .ok) ∧
        c.2.firstFailure = c.2.legs.findSome? Leg.failure ∧
        (c.2.kind = .gread .matching → c.2.state ≠ .orphan →
          c.2.accumulator = (c.2.legs.find? (fun g => g.state = .done .ok)).bind Leg.data ∧
          ∀ g ∈ c.2.legs, g.state = .done .ok → g.data ≠ none)) &&
      c.2.legs.all (fun g =>
        (g.state != .queued || (s.lane g.lane).queue.contains ⟨c.1, g.target⟩) &&
        (g.state != .issued ||
          allSlots.any (fun w => slotLeg (s.lane g.lane) w == some (⟨c.1, g.target⟩, c.2.master))))) &&
    (List.finRange 12).all (fun l => decide (s.lane l).queue.Nodup &&
      (s.lane l).queue.all (fun r => hasLeg s r l .queued) &&
      allSlots.all (fun w => match slotLeg (s.lane l) w with
        | some (r, m) => hasLeg s r l .issued && decide ((s.ctx r.ctx).map Ctx.master = some m) &&
            allSlots.all (fun v => v == w || (slotLeg (s.lane l) v).map Prod.fst != some r)
        | none => true))

theorem placed_of {s : State} (h : placedOk s = true) : s.LegsPlaced := by
  simp only [placedOk, Bool.and_eq_true, Bool.not_eq_true', List.all_eq_true, decide_eq_true_eq, List.mem_finRange,
    allSlots, forall_const, Bool.or_eq_true, bne_iff_ne, ne_eq, List.contains_iff_mem, List.any_eq_true, beq_iff_eq,
    true_and] at h
  obtain ⟨⟨h0, h1⟩, h2⟩ := h
  unfold State.LegsPlaced
  rw [if_neg (by simp [h0])]
  have hu : ∀ c x, s.ctx c = some x → (c, x) ∈ s.usedContexts := fun c x hc => (mem_usedContexts s c x).2 hc
  refine ⟨fun c x hc => (h1 _ (hu c x hc)).1, fun l => ⟨(h2 l).1.1, fun r => ⟨fun hr => ?_, ?_⟩⟩, fun l c t => ⟨?_, ?_⟩,
    fun l w q c m t d hs => ?_⟩
  · exact (hasLeg_iff s r l _).1 ((h2 l).1.2 r hr)
  · rintro ⟨x, g, hc, hg, ht, hl, hs⟩
    have := ((h1 _ (hu _ x hc)).2 g hg).1
    subst hl
    rw [ht] at this
    exact this.resolve_left (not_not_intro hs)
  · rintro ⟨w, q, m, d, hs⟩
    have e : slotLeg (s.lane l) w = some (⟨c, t⟩, m) := (slotLeg_iff _ _ _ _).2 ⟨q, d, hs⟩
    have := (h2 l).2 w
    rw [e] at this
    simp only [Bool.and_eq_true] at this
    exact (hasLeg_iff s ⟨c, t⟩ l _).1 this.1.1
  · rintro ⟨x, g, hc, hg, ht, hl, hs⟩
    have := ((h1 _ (hu _ x hc)).2 g hg).2
    subst hl
    obtain ⟨w, hw⟩ := this.resolve_left (not_not_intro hs)
    rw [ht] at hw
    obtain ⟨q, d, hq⟩ := (slotLeg_iff _ _ _ _).1 hw
    exact ⟨w, q, _, d, hq⟩
  · have e : slotLeg (s.lane l) w = some (⟨c, t⟩, m) := (slotLeg_iff _ _ _ _).2 ⟨q, d, hs⟩
    have := (h2 l).2 w
    rw [e] at this
    simp only [Bool.and_eq_true, decide_eq_true_eq, List.all_eq_true, List.mem_finRange, forall_const,
      Bool.or_eq_true, beq_iff_eq, bne_iff_ne, ne_eq] at this
    obtain ⟨⟨-, hm⟩, ho⟩ := this
    refine ⟨?_, fun v p n e' hv => ?_⟩
    · cases hc : s.ctx c with
      | none => rw [hc] at hm; cases hm
      | some x => rw [hc] at hm; exact ⟨x, rfl, Option.some.inj hm⟩
    · have e2 : slotLeg (s.lane l) v = some (⟨c, t⟩, n) := (slotLeg_iff _ _ _ _).2 ⟨p, e', hv⟩
      have := ho v
      rw [e2] at this
      exact this.resolve_right (fun k => k rfl)

/-- The checks of a state with a request next to be taken. -/
def nextOk (s : State) (m : Master) (r : RawRequest) (a : Asked) : Bool :=
  s.phase == .running && s.nextTake == some (m, r) && readRequest r == some a && !s.tagInUse m r.tag

theorem next_of {s : State} {m : Master} {r : RawRequest} {a : Asked} (h : nextOk s m r a = true) :
    Next s m r a ∧ ¬ s.HoldsTag m r.tag := by
  simp only [nextOk, Bool.and_eq_true, beq_iff_eq, Bool.not_eq_true'] at h
  refine ⟨⟨h.1.1.1, h.1.1.2, h.1.2⟩, fun q => ?_⟩
  rw [(tagInUse_iff _ _ _).2 q] at h
  exact absurd h.2 (by decide)

/-- Any operation of M0 may be next to be taken. -/
theorem offered_by (s : State) (op : HubOp) (h1 : s.phase = .running) (h2 : (s.port .m0).slotsUsed < 24)
    (h3 : s.tagInUse .m0 7 = false) : Offered (offer s op) .m0 7 op := by
  refine ⟨h1, ?_, h3⟩
  have h : (s.port .m0).reserved + (s.port .m0).filled.length < 24 := h2
  simp [State.nextTake, State.nextMaster, offer, asks, State.port, State.setPort, Port.takeable, Port.slotsUsed,
    Config.responseSlots]
  rw [if_pos]
  · rfl
  · exact decide_eq_true (by simpa [State.port] using h)

theorem offered_base (op : HubOp) : Offered (offer base op) .m0 7 op :=
  offered_by base op rfl (by decide) (by decide +kernel)

theorem offered_one (op : HubOp) : Offered (offer one op) .m0 7 op :=
  offered_by one op rfl (by decide) (by decide +kernel)

/-- M0 holds FULL. -/
theorem full_m0 (s : State) : s.rights .m0 = .full := rfl

/-- No claim over the target. -/
theorem unclaimed {s : State} {w : Master} {t : Target} (h : (s.claimOver w t).isSome = false) : ¬ s.Claimed w t :=
  fun q => by rw [(claimOver_isSome_iff s w t).2 q] at h; exact absurd h (by decide)

theorem witness_StepTakesFrontCommand :
    ({ base with pending := [.intakeTake] } : State).pending = Instr.intakeTake :: [] := rfl

theorem witness_EmptyQueueTakesOwnEventOrTime :
    (offer base .ident).pending = [] ∧ (offer base .ident).ownEvent = some .intakeTake ∧ base.ownEvent = none ∧
      base.phase = .running ∧ ({ State.reset with phase := .holding 1 } : State).ownEvent = none ∧
      State.reset.ownEvent = none ∧ State.reset.pending = [] ∧ between.ownEvent = none ∧ between.pending = [] ∧
      between.phase = .resetting issued.contexts := by decide +kernel

theorem witness_HoldIsCountedThenTrainingStarts :
    State.reset.Asleep ∧ ({ State.reset with phase := .holding 9 } : State).Asleep ∧ State.reset.phase = .resetLow ∧
      base.phase ≠ .resetLow ∧ base.phase ≠ .holding 0 ∧
      ({ State.reset with phase := .holding 0 } : State).phase = .holding 0 :=
  ⟨.inl rfl, .inr ⟨9, rfl⟩, by decide⟩

theorem witness_RequestAndCreditAtPort :
    base.phase = .running ∧ (∀ m, (base.port m).receiver = .hunting ∧ (run0.port m).receiver = .hunting) ∧
      1017 < (List.replicate 1018 (0 : Byte)).length ∧ (List.replicate 1017 (0 : Byte)).length ≤ 1017 ∧ 36 < (List.replicate 37 (0 : Byte)).length ∧ (List.replicate 36 (0 : Byte)).length ≤ 36 ∧
      (run0.port .m0).link ≠ .up ∧ (base.port .m0).link = .up ∧ 0 < (base.port .m0).requestCredit ∧
      ((base.setPort .m0 { upPort with requestCredit := 0 }).port .m0).requestCredit = 0 ∧ (0 : Byte).toNat = 0 ∧
      16 < (base.port .m0).responseCredit + (1 : Byte).toNat ∧ 1 ≤ (16 : Byte).toNat ∧
      ((base.setPort .m0 { upPort with responseCredit := 0 }).port .m0).responseCredit + (16 : Byte).toNat ≤ 16 := by
  refine ⟨rfl, fun m => by cases m <;> exact ⟨rfl, rfl⟩, ?_⟩
  decide +kernel

theorem witness_MasterHelloBringsLinkUp :
    (run0.port .m0).receiver = .hunting ∧
      ((run0.setPort .m0 { Port.initial with link := .down }).port .m0).link = .down ∧
      (run0.port .m0).link = .training ∧ (0 : Byte).toNat < 1 ∧ 16 < (17 : Byte).toNat ∧ 1 ≤ (1 : Byte).toNat ∧
      (16 : Byte).toNat ≤ 16 := by decide +kernel

theorem witness_TeardownEmptiesMaster :
    (base.port .m0).link = .up ∧
      ({ base with timebase := 1000 } : State).Arrived (({ base with timebase := 1000 } : State).port .m0).lastReceived
        1000 ∧
      (base.source .upLost).action = .alert ∧ 0 < (base.alert .m0).levels.link ∧
      ¬ 0 < (base.alert .m1).levels.link ∧ base.records.length < 16 ∧
      ¬ base.Arrived (base.port .m0).lastReceived 1000 := by
  refine ⟨rfl, ⟨0, rfl, rfl⟩, by decide +kernel, by decide, by decide, by decide, ?_⟩
  rintro ⟨u, h1, h2⟩
  have h : (some 0 : Option Time) = some u := h1
  obtain rfl := Option.some.inj h
  exact absurd h2 (by decide)

theorem witness_TeardownCancelsUnsentLegs :
    busy.phase = .running ∧ busy.LegsPlaced ∧ (∀ m, (busy.port m).link = .up) ∧
      busy.Arrived (busy.port .m0).lastReceived 1000 ∧ (busy.ctx 0 = some mixed ∧ mixed.state ≠ .orphan ∧
        0 < mixed.legs.countP (fun g => g.state = .issued)) ∧
      (busy.ctx 5 = some eldest ∧ eldest.legs.countP (fun g => g.state = .issued) = 0) ∧
      (busy.ctx 2).map Ctx.state = some .orphan ∧ (busy.ctx 3).map Ctx.master = some .m1 := by
  refine ⟨rfl, placed_of (by decide +kernel), fun m => ?_, ⟨0, rfl, rfl⟩, by decide +kernel, by decide +kernel,
    by decide +kernel, by decide +kernel⟩
  cases m <;> rfl

theorem witness_IdleAndBadFrames_port :
    (base.port .m0).link = .up ∧ (run0.port .m0).link ≠ .up ∧
      receiveSymbol (base.port .m0).receiver .sof = (.inFrame [], none) ∧
      receiveSymbol (.inFrame [2]) .noSymbol = (.hunting, some .badCrc) ∧
      receiveSymbol (.inFrame ([0x02] ++ crcBytes [0x02])) .eof = (.hunting, some (.handedOn [0x02])) ∧
      readUpFrame [0x20] = .malformed ∧ (base.port .m0).receiver = .hunting ∧
      ((base.setPort .m0 { upPort with receiver := .inFrame [2] }).port .m0).receiver = .inFrame [2] ∧
      (Instr.request .m0 read5).upFrameBytes .m0 = some 8 ∧ (Instr.upMalformedFrame .m0 []).upFrameBytes .m0 = some 0 ∧
      (Instr.request .m0 { read5 with rest := List.replicate 1018 0 }).upFrameBytes .m0 = some 1022 ∧
      readUpFrame (List.replicate 1021 0) = .malformed ∧ (List.replicate 1021 (0 : Byte)).length ≤ 1021 := by
  decide +kernel

theorem witness_LinkTimersTrainAndKeepAlive :
    (∃ s : State, s.phase = .running ∧ (s.port .m0).link = .training ∧ (s.port .m0).hellosSent = 49 ∧
        s.Arrived (s.port .m0).helloTime 200) ∧
      (∃ s : State, s.phase = .running ∧ (s.port .m0).link = .training ∧ (s.port .m0).hellosSent = 50 ∧
        s.Arrived (s.port .m0).helloTime 200) ∧
      (∃ s : State, s.phase = .running ∧ (s.port .m0).link = .down ∧ (s.port .m0).retryTime = some s.timebase) ∧
      (∃ s : State, s.phase = .running ∧ (s.port .m0).link = .up ∧ (s.port .m0).line = none ∧
        (s.port .m0).hellosWaiting = 0 ∧ (s.port .m0).grantWaiting = false ∧ (s.port .m0).notice = none ∧
        (s.port .m0).creditsOwed = 0 ∧ (s.port .m0).alertReady = none ∧ (s.port .m0).filled = [] ∧
        s.Arrived (s.port .m0).lastSent 100) :=
  ⟨⟨{ run0 with portM0 := { Port.initial with hellosSent := 49, helloTime := some 0 }, timebase := 200 },
      rfl, rfl, rfl, ⟨0, rfl, rfl⟩⟩,
    ⟨{ run0 with portM0 := { Port.initial with hellosSent := 50, helloTime := some 0 }, timebase := 200 },
      rfl, rfl, rfl, ⟨0, rfl, rfl⟩⟩,
    ⟨{ run0 with portM0 := { Port.initial with link := .down, retryTime := some 5 }, timebase := 5 }, rfl, rfl, rfl⟩,
    ⟨{ base with timebase := 100 }, rfl, rfl, rfl, rfl, rfl, rfl, rfl, rfl, rfl, ⟨0, rfl, rfl⟩⟩⟩

theorem witness_ArbiterFollowsItsTable :
    let r : Response := ⟨1, .ok, none, none, none, .none⟩
    let a : Alert := ⟨.link, .upCrc, none, 0⟩
    let at_ : Port → State := fun p => base.setPort .m0 p
    0 < ((at_ { upPort with hellosWaiting := 1 }).port .m0).hellosWaiting ∧
      ((at_ { upPort with grantWaiting := true }).port .m0).grantWaiting = true ∧
      ((at_ { upPort with notice := some ⟨0, 0⟩ }).port .m0).notice = some ⟨0, 0⟩ ∧
      0 < ((at_ { upPort with creditsOwed := 1 }).port .m0).creditsOwed ∧
      ((at_ { upPort with alertReady := some a }).port .m0).alertReady = some a ∧
      ((at_ { upPort with filled := [r] }).port .m0).filled = r :: [] ∧ 0 < upPort.responseCredit ∧
      ((at_ { upPort with responseCredit := 0, filled := [r] }).port .m0).responseCredit = 0 ∧
      (∀ u, upPort.lastSent = some u → 100 ≤ ((100 : Time) - u).toNat) ∧
      (∀ u, upPort.lastSent = some u → ((99 : Time) - u).toNat < 100) ∧
      (run0.port .m0).link ≠ .up ∧ (run0.port .m0).hellosWaiting = 0 ∧
      0 < ((run0.setPort .m0 { Port.initial with hellosWaiting := 1 }).port .m0).hellosWaiting := by
  refine ⟨by decide, rfl, rfl, by decide, rfl, rfl, by decide, rfl, ?_, ?_, by decide, rfl, by decide⟩ <;>
    (intro u h; obtain rfl := Option.some.inj h; decide)

theorem witness_IntakeServesMastersInTurn :
    (∀ m, ¬ ((base.port m).buffer ≠ [] ∧ (base.port m).reserved + (base.port m).filled.length < 24)) ∧
      (let s := (asks base .m0 ⟨9, 7, 0, []⟩).setPort .m0 { upPort with buffer := [⟨9, 7, 0, []⟩], reserved := 23 }
       (s.port .m0).buffer = ⟨9, 7, 0, []⟩ :: [] ∧ (s.port .m0).reserved + (s.port .m0).filled.length < 24 ∧
         s.roundRobin = .m0 ∧ readRequest ⟨9, 7, 0, []⟩ = none) ∧
      (let s := { asks base .m0 read5 with roundRobin := .m1 }
       (s.port .m0).buffer = read5 :: [] ∧ (s.port .m1).buffer = []) := by
  refine ⟨fun m => ?_, by decide +kernel, by decide +kernel⟩
  cases m <;> decide +kernel

theorem witness_TagInUseAndHubStateDecideFirst :
    (Next (asks queued .m0 read5) .m0 read5 (.unicast asked5) ∧ (asks queued .m0 read5).HoldsTag .m0 9) ∧
      (Next (asks (one.setClaim 0 (some (claimM0 (.draining 9 99)))) .m0 read5) .m0 read5 (.unicast asked5) ∧
        (asks (one.setClaim 0 (some (claimM0 (.draining 9 99)))) .m0 read5).HoldsTag .m0 9) ∧
      (Next (asks { one with hub := .setup } .m0 read5) .m0 read5 (.unicast asked5) ∧
        ¬ (asks { one with hub := .setup } .m0 read5).HoldsTag .m0 read5.tag) ∧
      (Next (asks { one with hub := .halted } .m0 list3) .m0 list3 (.group askedList3) ∧
        ¬ (asks { one with hub := .halted } .m0 list3).HoldsTag .m0 list3.tag) := by
  refine ⟨⟨⟨rfl, by decide +kernel, by decide +kernel⟩, (tagInUse_iff _ _ _).1 (by decide +kernel)⟩,
    ⟨⟨rfl, by decide +kernel, by decide +kernel⟩, (tagInUse_iff _ _ _).1 (by decide +kernel)⟩,
    next_of (by decide +kernel), next_of (by decide +kernel)⟩

/-- A state with this READ next to be taken, past checks 1 to 4. -/
def readNext (s : State) : Bool :=
  nextOk (asks s .m0 read5) .m0 read5 (.unicast asked5) && s.hub == .run && !(s.activeEntry 4).corrupt

theorem witness_UnicastRefusedByFirstFailingCheck :
    (readNext (withEntry one 4 .absent) = true ∧ ((withEntry one 4 .absent).activeEntry 4).entry.present = false) ∧
      (readNext (withEntry one 4 { entryAt 2 1 [] with accessM0 := .none }) = true ∧
        Access.passes (({ entryAt 2 1 [] with accessM0 := .none } : DirEntry).access .m0) .read = false) ∧
      (readNext (withEntry one 4 { entryAt 2 1 [] with length := 16 }) = true ∧
        ({ entryAt 2 1 [] with length := 16 } : DirEntry).length < asked5.addr.toNat + asked5.count) ∧
      (readNext (one.setClaim 7 (some (claimM1 (.held none)))) = true ∧
        ((one.setClaim 7 (some (claimM1 (.held none)))).claimOver .m1 4).isSome = true) ∧
      (readNext (one.setRecord 4 ⟨.quarantined, 0, 0, 0, 0⟩) = true ∧
        ((one.setRecord 4 ⟨.quarantined, 0, 0, 0, 0⟩).record 4).health = .quarantined) ∧
      (readNext (one.setLane 2 Lane.initial) = true ∧
        ((one.setLane 2 Lane.initial).lane 2).state = .training) ∧
      (readNext (one.setLane 2 { upLane with state := .fenced }) = true ∧
        ((one.setLane 2 { upLane with state := .fenced }).lane 2).state = .fenced) ∧
      (readNext (one.setLane 2 { upLane with stations := 1 }) = true ∧
        ((one.setLane 2 { upLane with stations := 1 }).lane 2).stations ≤ (entryAt 2 1 [3]).station.val) ∧
      targetId 4 = asked5.dest := by decide +kernel

/-- Target ID 5's active entry corrupt. -/
def corrupt5 : State := one.setActive 4 ⟨entryAt 2 1 [3], true⟩

theorem witness_UnicastRefusedByFirstFailingCheck_corrupt :
    nextOk (asks corrupt5 .m0 read5) .m0 read5 (.unicast asked5) = true ∧ corrupt5.hub = .run ∧
      (corrupt5.activeEntry 4).corrupt = true := by decide +kernel

/-- Every context in use, for another tag. -/
def fullPool : State := { one with contexts := Vector.replicate 32 (some { ctx5 .issued with state := .active 8 }) }

theorem witness_UnicastAdmittedIsPlaced_busy :
    (nextOk (asks fullPool .m0 read5) .m0 read5 (.unicast asked5) = true ∧
        fullPool.targetCheck .m0 asked5 4 (entryAt 2 1 [3]) = none ∧ ∀ c, (asks fullPool .m0 read5).ctx c ≠ none) ∧
      (nextOk (asks { one with quotaM0 := 0 } .m0 read5) .m0 read5 (.unicast asked5) = true ∧
        (asks { one with quotaM0 := 0 } .m0 read5).quota .m0 ≤ (asks { one with quotaM0 := 0 } .m0 read5).holding .m0) := by
  decide +kernel

/-- Lane 2 with this many legs in its queue. -/
def crowded (n : Nat) : State := one.setLane 2 { upLane with queue := List.replicate n ⟨31, 60⟩ }

/-- A leg of another context PENDING for lane 2. -/
def waiting : State := one.setCtx 0 (some { ctx5 .pending with state := .active 8 })

theorem witness_UnicastAdmittedIsPlaced :
    (readNext (crowded 15) = true ∧ Least (fun c => (asks (crowded 15) .m0 read5).ctx c = none) 0 ∧
        (crowded 15).holding .m0 < (crowded 15).quota .m0 ∧ ((crowded 15).lane 2).queue.length < 16 ∧
        (crowded 15).NonePending 2 ∧ ¬ (crowded 15).Claimed .m1 4) ∧
      (readNext (crowded 16) = true ∧ 16 ≤ ((crowded 16).lane 2).queue.length) ∧
      (readNext waiting = true ∧ ¬ waiting.NonePending 2 ∧ Least (fun c => (asks waiting .m0 read5).ctx c = none) 1) ∧
      Suffices ((entryAt 2 1 [3]).access .m0) .read ∧
      asked5.addr.toNat + asked5.count ≤ (entryAt 2 1 [3]).length ∧
      ((crowded 15).record 4).health = .healthy ∧ ((crowded 15).lane 2).state = .up ∧
      (entryAt 2 1 [3]).station.val < ((crowded 15).lane 2).stations := by
  refine ⟨⟨by decide +kernel, ?_, by decide +kernel, by decide +kernel,
      (pendingFor_eq_nil_iff _ _).1 (by decide +kernel), unclaimed (by decide +kernel)⟩, by decide +kernel,
    ⟨by decide +kernel, fun h => ?_, ?_⟩, (passes_iff _ _).1 (by decide), by decide, by decide +kernel,
    by decide +kernel, by decide +kernel⟩
  · unfold Least; decide +kernel
  · have h2 := (pendingFor_eq_nil_iff waiting 2).2 h
    exact absurd h2 (by decide +kernel)
  · unfold Least; decide +kernel

/-- Every target PRESENT in group 3 on lane 2. -/
def crowd : State := { one with active := Vector.replicate 63 ⟨entryAt 2 1 [3], false⟩ }

/-- The group's request, LIST with count 8. -/
def list8 : RawRequest := ⟨9, 3, 3, [0x38, 0, 0, 16]⟩

def askedList8 : TargetRequest := ⟨.gread .list, 3, 16, 8, .none⟩

theorem witness_GroupRequestAnsweredWithoutContext :
    one.TablesSound ∧
      (nextOk (asks one .m0 ⟨9, 3, 2, [0x31, 0, 0, 16]⟩) .m0 ⟨9, 3, 2, [0x31, 0, 0, 16]⟩
          (.group { askedList3 with dest := 2 }) = true ∧ one.activeGroups[2].enabled = false) ∧
      (nextOk (asks (withEntry one 4 .absent) .m0 list3) .m0 list3 (.group askedList3) = true ∧
        (withEntry one 4 .absent).membersOf 3 = [] ∧ one.activeGroups[3].enabled = true) ∧
      (nextOk (asks one .m1 ⟨9, 4, 3, [1, 0, 0, 16, 0, 0, 0, 0]⟩) .m1 ⟨9, 4, 3, [1, 0, 0, 16, 0, 0, 0, 0]⟩
          (.group ⟨.gwrite, 3, 16, 1, .words [0]⟩) = true ∧ one.membersOf 3 ≠ [] ∧
        ¬ Suffices (one.groupRights .m1 3) .gwrite) ∧
      (nextOk (asks crowd .m0 list8) .m0 list8 (.group askedList8) = true ∧ crowd.TablesSound ∧
        240 < (crowd.membersOf 3).length * (8 + 1) ∧ Suffices (crowd.groupRights .m0 3) (.gread .list)) ∧
      (nextOk (asks (one.setLane 2 Lane.initial) .m0 list3) .m0 list3 (.group askedList3) = true ∧
        (one.setLane 2 Lane.initial).membersOf 3 = [4] ∧
        (one.setLane 2 Lane.initial).targetCheck .m0 askedList3 4 (entryAt 2 1 [3]) = some .laneDown) := by
  refine ⟨by unfold State.TablesSound; decide +kernel, by decide +kernel, by decide +kernel,
    ⟨by decide +kernel, by decide +kernel, fun h => ?_⟩,
    ⟨by decide +kernel, by unfold State.TablesSound; decide +kernel, by decide +kernel,
      (passes_iff _ _).1 (by decide +kernel)⟩, by decide +kernel⟩
  have h2 := (passes_iff _ _).2 h
  exact absurd h2 (by decide +kernel)

theorem witness_GroupRequestAnsweredWithoutContext_corrupt :
    nextOk (asks corrupt5 .m0 list3) .m0 list3 (.group askedList3) = true ∧
      (((asks corrupt5 .m0 list3).takenBy .m0).readAll allTargets).membersOf 3 = [] ∧
      (corrupt5.activeEntry 4).entry.memberships = [3] := by decide +kernel

/-- Target ID 5 corrupt beside a sound member of the same group. -/
def halfCorrupt : State := withEntry corrupt5 8 (entryAt 2 0 [3])

theorem witness_GroupRequestIsPlaced_corrupt :
    nextOk (asks halfCorrupt .m0 list3) .m0 list3 (.group askedList3) = true ∧
      (let found := ((asks halfCorrupt .m0 list3).takenBy .m0).readAll allTargets
       found.membersOf 3 = [8] ∧ found.targetCheck .m0 askedList3 8 (found.activeEntry 8).entry = none ∧
         found.hub = .halted) ∧
      Least (fun c => (asks halfCorrupt .m0 list3).ctx c = none) 0 := by
  refine ⟨by decide +kernel, by decide +kernel, ?_⟩
  unfold Least
  decide +kernel

/-- M0's list request for group 3 next. -/
def listNext (s : State) : Bool := nextOk (asks s .m0 list3) .m0 list3 (.group askedList3) && s.hub == .run

theorem witness_GroupRequestIsPlaced :
    one.TablesSound ∧ crowd.TablesSound ∧ (3 : Group).val = askedList3.dest ∧ one.activeGroups[(3 : Group)].enabled = true ∧
      Suffices (one.groupRights .m0 3) (.gread .list) ∧ one.membersOf 3 = [4] ∧ 1 * (1 + 1) ≤ 240 ∧
      (listNext fullPool = true ∧ fullPool.membersOf 3 = [4] ∧
        fullPool.targetCheck .m0 askedList3 4 (fullPool.activeEntry 4).entry = none ∧
        ∀ c, (asks fullPool .m0 list3).ctx c ≠ none) ∧
      (listNext { one with quotaM0 := 0 } = true ∧
        (asks { one with quotaM0 := 0 } .m0 list3).quota .m0 ≤ (asks { one with quotaM0 := 0 } .m0 list3).holding .m0) ∧
      (listNext (crowded 15) = true ∧ Least (fun c => (asks (crowded 15) .m0 list3).ctx c = none) 0 ∧
        (crowded 15).holding .m0 < (crowded 15).quota .m0 ∧ ((crowded 15).lane 2).queue.length = 15 ∧
        (crowded 15).targetCheck .m0 askedList3 4 ((crowded 15).activeEntry 4).entry = none) ∧
      (listNext (crowded 16) = true ∧ ((crowded 16).lane 2).queue.length = 16 ∧
        (crowded 16).targetCheck .m0 askedList3 4 ((crowded 16).activeEntry 4).entry = none) ∧
      (listNext crowd = true ∧ (crowd.membersOf 3).length = 63 ∧ 63 * (1 + 1) ≤ 240 ∧
        crowd.targetCheck .m0 askedList3 0 (crowd.activeEntry 0).entry = none) := by
  refine ⟨by unfold State.TablesSound; decide +kernel, by unfold State.TablesSound; decide +kernel, rfl,
    by decide +kernel, (passes_iff _ _).1 (by decide +kernel), by decide +kernel, by decide, by decide +kernel,
    by decide +kernel, ⟨by decide +kernel, ?_, by decide +kernel⟩, by decide +kernel, by decide +kernel⟩
  unfold Least
  decide +kernel

theorem witness_ManagementRowIsItsIntakeEvent :
    Offered (offer base .ident) .m0 7 .ident ∧ rowOf .m0 7 .ident = some (.ident .m0 7) :=
  ⟨offered_base _, rfl⟩

theorem witness_RightsCheckDecides :
    (Offered (asks one .m1 (hubRequest 6 .commit)) .m1 6 .commit ∧
        ¬ Allowed (asks one .m1 (hubRequest 6 .commit)) .m1 .commit) ∧
      (Offered (offer one .commit) .m0 7 .commit ∧ Allowed (offer one .commit) .m0 .commit) := by
  refine ⟨⟨⟨rfl, by decide +kernel, by decide +kernel⟩, fun h => ?_⟩, offered_one _, (mayManage_iff _ _ _).1 rfl⟩
  have h2 := (mayManage_iff _ _ _).2 h
  exact absurd h2 (by decide +kernel)

theorem witness_ReadOperationsAnswer :
    (∀ op, Offered (offer base op) .m0 7 op) ∧ (∀ op, (offer base op).rights .m0 ≠ .none) ∧
      targetId 0 = (1 : Byte).toNat ∧ targetId 62 = (63 : Byte).toNat ∧ (0 : Byte).toNat < 1 ∧ 63 < (64 : Byte).toNat ∧
      (11 : LaneId).val = (11 : Byte).toNat ∧ 11 < (12 : Byte).toNat := by
  refine ⟨offered_base, fun op => ?_, by decide⟩
  show Rights.full ≠ .none
  decide

theorem witness_ReadOperationsAnswer_actions :
    (Offered (offer base .actionRead) .m0 7 .actionRead ∧ (offer base .actionRead).rights .m0 ≠ .none) ∧
      (let s := asks { base with rightsM1 := .none } .m1 (hubRequest 7 .actionRead)
       Offered s .m1 7 .actionRead ∧ s.rights .m1 = .none) :=
  ⟨⟨offered_base _, fun h => by cases h⟩, ⟨rfl, by decide +kernel, by decide +kernel⟩, rfl⟩

theorem witness_DirReadAnswersEntry :
    (∀ target copy, Offered (offer one (.dirRead target copy)) .m0 7 (.dirRead target copy)) ∧
      targetId 4 = (5 : Byte).toNat ∧ (0 : Byte).toNat < 1 ∧ 63 < (64 : Byte).toNat ∧ 1 < (2 : Byte).toNat ∧
      ((offer one (.dirRead 5 1)).activeEntry 4).corrupt = false ∧
      (let s := offer (one.setActive 4 ⟨entryAt 2 1 [3], true⟩) (.dirRead 5 1)
       Offered s .m0 7 (.dirRead 5 1) ∧ (s.activeEntry 4).corrupt = true) :=
  ⟨fun _ _ => offered_one _, by decide, by decide, by decide, by decide, by decide +kernel,
    offered_by _ _ rfl (by decide) (by decide +kernel), by decide +kernel⟩

theorem witness_DirWriteChecksAndReplaces :
    (∀ p, Offered (offer base (.dirWrite p)) .m0 7 (.dirWrite p)) ∧ dirWriteReason goodWrite = none ∧
      dirWriteReason { goodWrite with presence := 0, lane := 99 } = none ∧
      dirWriteReason { goodWrite with target := 64 } = some 1 ∧
      dirWriteReason { goodWrite with length := 0 } = some 6 ∧
      dirWriteReason { goodWrite with memberCount := 2, member2 := 2 } = some 9 ∧
      dirWriteReason { goodWrite with threshold := 16 } = some 11 :=
  ⟨fun _ => offered_base _, by decide +kernel⟩

theorem witness_DiscardCopiesActiveOverStaged :
    Offered (offer one .discard) .m0 7 .discard ∧ (offer one .discard).TablesSound ∧
      (let s := offer (one.setActive 4 ⟨entryAt 2 1 [3], true⟩) .discard
       Offered s .m0 7 .discard ∧ (s.activeEntry 4).corrupt = true ∧ (s.activeEntry 5).corrupt = false) :=
  ⟨offered_one _, by unfold State.TablesSound; decide +kernel,
    offered_by _ _ rfl (by decide) (by decide +kernel), by decide +kernel, by decide +kernel⟩

/-- A second PRESENT target, relocated by the staged copy, its window ending at the last word. -/
def relocating : State :=
  (withEntry one 8 (entryAt 4 1 [3])).setStaged 8 { entryAt 7 0 [3] with base := 1048575, length := 1 }

theorem witness_CommitMakesStagedActive :
    let s := offer relocating .commit
    Offered s .m0 7 .commit ∧
      (∀ t, (s.stagedEntry t).present = true →
        (s.stagedEntry t).base.toNat + (s.stagedEntry t).length ≤ 1048576) ∧
      (∀ t u, t ≠ u → (s.stagedEntry t).present = true → (s.stagedEntry u).present = true →
        ¬ ((s.stagedEntry t).lane = (s.stagedEntry u).lane ∧
          (s.stagedEntry t).station = (s.stagedEntry u).station)) ∧
      (∀ t (g : Group), (s.stagedEntry t).present = true → g ∈ (s.stagedEntry t).memberships →
        s.stagedGroups[g].enabled = true) :=
  ⟨offered_by _ _ rfl (by decide) (by decide +kernel), by decide +kernel, by decide +kernel, by decide +kernel⟩

theorem witness_CommitRejectedNamesFirstFault :
    (let s := offer (one.setStaged 4 { entryAt 2 1 [3] with base := 1048575, length := 2 }) .commit
     Offered s .m0 7 .commit ∧ (s.stagedEntry 4).present = true ∧
       1048576 < (s.stagedEntry 4).base.toNat + (s.stagedEntry 4).length ∧
       ∀ t, t < 4 → (s.stagedEntry t).present = false) ∧
      (let s := offer (one.setStaged 8 (entryAt 2 1 [3])) .commit
       Offered s .m0 7 .commit ∧ s.commitFault = some (2, 4)) ∧
      (let s := offer (one.setStaged 4 (entryAt 2 1 [14])) .commit
       Offered s .m0 7 .commit ∧ s.commitFault = some (3, 4)) :=
  ⟨⟨offered_by _ _ rfl (by decide) (by decide +kernel), by decide +kernel⟩,
    ⟨offered_by _ _ rfl (by decide) (by decide +kernel), by decide +kernel⟩,
    ⟨offered_by _ _ rfl (by decide) (by decide +kernel), by decide +kernel⟩⟩

theorem witness_GroupReadAndWrite :
    (∀ op, Offered (offer one op) .m0 7 op) ∧ 15 < (16 : Byte).toNat ∧ (15 : Byte).toNat ≤ 15 ∧ 1 < (2 : Byte).toNat ∧
      (14 : Group).val = (14 : Byte).toNat ∧ 14 < (15 : Byte).toNat ∧ 2 < (3 : Byte).toNat ∧ boolCode true = 1 ∧
      accessCode .readWrite = 2 ∧ accessCode .none = 0 :=
  ⟨offered_one, by decide⟩

theorem witness_QuotaDeadlineAndActionWritten :
    (∀ op, Offered (offer base op) .m0 7 op) ∧ 32 < (33 : Byte).toNat ∧ 32 < (32 : Byte).toNat + (1 : Byte).toNat ∧
      (32 : Byte).toNat + (0 : Byte).toNat ≤ 32 ∧ 3 < (4 : Byte).toNat ∧ 12 < (13 : Byte).toNat ∧
      (12 : Byte).toNat ≤ 12 ∧ (3 : ClassId).val = (3 : Byte).toNat ∧ 22 < (23 : Byte).toNat ∧ (0 : Byte).toNat < 1 ∧
      4 < (5 : Byte).toNat ∧ sourceCode .upCrc = 1 ∧ sourceCode .recordsLost = 22 ∧ actionCode .halt = 4 :=
  ⟨offered_base, by decide⟩

theorem witness_RightsResumeAndRevive :
    (∀ op, Offered (offer base op) .m0 7 op) ∧ 2 < (3 : Byte).toNat ∧ rightsCode .full = 2 ∧ rightsCode .none = 0 ∧
      targetId 62 = (63 : Byte).toNat ∧ 63 < (64 : Byte).toNat ∧ (0 : Byte).toNat < 1 :=
  ⟨offered_base, by decide⟩

theorem witness_LaneControlFollowsItsTable :
    let at_ : LaneState → State := fun v => one.setLane 2 { upLane with state := v }
    (∀ v op, Offered (offer (at_ v) op) .m0 7 op) ∧
      (∀ v op, ((offer (at_ v) op).lane 2).state = v ∧ (offer (at_ v) op).rights .m0 = .full) ∧
      (2 : LaneId).val = (2 : Byte).toNat ∧ (11 : LaneId).val = (11 : Byte).toNat ∧ 11 < (12 : Byte).toNat ∧
      6 < (7 : Byte).toNat := by
  refine ⟨fun v op => offered_by _ op rfl (by cases v <;> decide) ?_, fun v op => ⟨?_, rfl⟩, by decide⟩
  · cases v <;> decide +kernel
  · cases v <;> rfl

theorem witness_LaneEndingsEndTheirLegs :
    busy.LegsPlaced ∧ busy.resetDue = false ∧ (busy.lane 2).state = .up ∧ (run0.lane 2).state ≠ .up ∧
      (busy.ctx 5 = some eldest ∧ eldest.state = .active 5 ∧ eldest.kind = .read ∧
        ∀ g ∈ eldest.legs, g.unfinished = true → (g.lane == (2 : LaneId)) = true) ∧
      (busy.lane 2).expiredFor .m1 4 = 1 ∧ busy.HasLeg 0 4 2 .issued ∧ busy.HasLeg 1 4 2 .queued ∧
      busy.HasLeg 5 11 2 .pending :=
  ⟨placed_of (by decide +kernel), rfl, by decide +kernel, by decide +kernel, by decide +kernel, by decide +kernel,
    (hasLeg_iff busy ⟨0, 4⟩ 2 _).1 (by decide +kernel), (hasLeg_iff busy ⟨1, 4⟩ 2 _).1 (by decide +kernel),
    (hasLeg_iff busy ⟨5, 11⟩ 2 _).1 (by decide +kernel)⟩

theorem witness_AutoRetrainSetting :
    (∀ op, Offered (offer one op) .m0 7 op) ∧ (11 < (12 : Byte).toNat ∧ (11 : LaneId).val = (11 : Byte).toNat) ∧ ((offer one (.laneControl 2 5)).lane 2).state ≠ .down ∧
      (let s := offer (one.setLane 2 { Lane.initial with state := .down }) (.laneControl 2 5)
       Offered s .m0 7 (.laneControl 2 5) ∧ (s.lane 2).state = .down ∧ (s.lane 2).retryTime = none) ∧
      (let s := offer (one.setLane 2 { Lane.initial with state := .down, retryTime := some 9 }) (.laneControl 2 6)
       Offered s .m0 7 (.laneControl 2 6) ∧ (s.lane 2).state = .down ∧ (s.lane 2).retryTime ≠ none) :=
  ⟨offered_one, by decide, by decide +kernel,
    ⟨offered_by _ _ rfl (by decide) (by decide +kernel), by decide +kernel⟩,
    ⟨offered_by _ _ rfl (by decide) (by decide +kernel), by decide +kernel⟩⟩

theorem witness_ClaimFollowsItsChecks_parameters :
    (∀ op, Offered (offer one op) .m0 7 op) ∧ 1 < (2 : Byte).toNat ∧ 63 < (64 : Byte).toNat ∧ (0 : Byte).toNat < 1 ∧
      15 < (16 : Byte).toNat ∧ (0 : BitVec 16).toNat < 1 ∧ 1000 < (1001 : BitVec 16).toNat :=
  ⟨offered_one, by decide⟩

/-- A CLAIM of target ID 5 in this state. -/
def claims5 (s : State) : State := offer s (.claim 0 5 0 1000)

/-- The state's claim may be next to be taken, over sound tables. -/
def claimOk (s : State) : Bool :=
  s.phase == .running && decide ((s.port .m0).slotsUsed < 24) && !s.tagInUse .m0 7 &&
    allTargets.all (fun t => !(s.activeEntry t).corrupt)

theorem claims5_offered {s : State} (h : claimOk s = true) :
    Offered (claims5 s) .m0 7 (.claim 0 5 0 1000) ∧ (claims5 s).TablesSound := by
  simp only [claimOk, Bool.and_eq_true, beq_iff_eq, decide_eq_true_eq, Bool.not_eq_true', List.all_eq_true,
    allTargets] at h
  refine ⟨offered_by s _ h.1.1.1 h.1.1.2 h.1.2, fun t => ?_⟩
  show (s.activeEntry t).corrupt = false
  simpa using h.2 t (List.mem_finRange t)

theorem witness_ClaimFollowsItsChecks :
    (claimOk { one with hub := .setup } = true) ∧
      (claimOk base = true ∧ base.scopeMembers 0 5 = [] ∧ base.hub ≠ .setup) ∧
      (claimOk (withEntry one 4 { entryAt 2 1 [] with accessM0 := .read }) = true ∧
        (withEntry one 4 { entryAt 2 1 [] with accessM0 := .read }).scopeMembers 0 5 = [4]) ∧
      (claimOk (one.setClaim 7 (some (claimM1 (.held none)))) = true ∧
        ((one.setClaim 7 (some (claimM1 (.held none)))).claimOver .m1 4) = some 7) ∧
      (claimOk (one.setClaim 0 (some (claimM0 (.held none)))) = true ∧
        ((one.setClaim 0 (some (claimM0 (.held none)))).claimOver .m0 4) = some 0) ∧
      (claimOk { one with claims := Vector.replicate 8 (some ⟨.m0, [60], 0, .held none, 0⟩) } = true) ∧
      (claimOk one = true ∧ one.scopeMembers 0 5 = [4] ∧ one.scopeMembers 1 15 = [4] ∧ one.claim 0 = none ∧
        one.inFlight .m1 4 = 0) ∧
      (claimOk (one.setRecord 4 ⟨.healthy, 0, 0, 1, 0⟩) = true ∧
        (one.setRecord 4 ⟨.healthy, 0, 0, 1, 0⟩).inFlight .m1 4 ≠ 0) ∧
      1 ≤ (1 : BitVec 16).toNat ∧ (1000 : BitVec 16).toNat ≤ 1000 := by decide +kernel

theorem witness_ClaimFollowsItsChecks_corrupt :
    Offered (claims5 corrupt5) .m0 7 (.claim 0 5 0 1000) ∧ (claims5 corrupt5).hub ≠ .setup ∧
      (((claims5 corrupt5).takenBy .m0).readAll
        (allTargets.filter (fun t => targetId t = (5 : Byte).toNat))).scopeMembers 0 5 = [] :=
  ⟨offered_by _ _ rfl (by decide) (by decide +kernel), by decide +kernel, by decide +kernel⟩

theorem witness_RenewAndReleaseOwnClaims :
    (∀ op, Offered (offer one op) .m0 7 op) ∧ 7 < (8 : Byte).toNat ∧ (7 : ClaimId).val = (7 : Byte).toNat ∧
      (∀ c, (offer one (.renew 7)).claim 7 = some c → c.owner ≠ .m0) ∧
      (let s := offer (one.setClaim 7 (some (claimM0 (.draining 8 9)))) (.release 7)
       Offered s .m0 7 (.release 7) ∧ s.claim 7 = some (claimM0 (.draining 8 9))) ∧
      (let s := offer (one.setClaim 7 (some (claimM0 (.held none)))) (.renew 7)
       Offered s .m0 7 (.renew 7) ∧ s.claim 7 = some (claimM0 (.held none)) ∧ (claimM0 (.held none)).lease ≠ 0) ∧
      (let s := offer (one.setClaim 7 (some { claimM0 (.held none) with lease := 0 })) (.renew 7)
       Offered s .m0 7 (.renew 7) ∧ s.claim 7 = some { claimM0 (.held none) with lease := 0 }) := by
  refine ⟨offered_one, by decide, by decide, fun c h => ?_,
    ⟨offered_by _ _ rfl (by decide) (by decide +kernel), by decide +kernel⟩,
    ⟨offered_by _ _ rfl (by decide) (by decide +kernel), by decide +kernel⟩,
    ⟨offered_by _ _ rfl (by decide) (by decide +kernel), by decide +kernel⟩⟩
  have h2 : (offer one (.renew 7)).claim 7 = none := by decide +kernel
  rw [h2] at h
  cases h

theorem witness_FaultPopAndClear :
    (∀ op, Offered (offer base op) .m0 7 op) ∧ (offer base .faultPop).records = [] ∧
      (let s := offer { base with records := [⟨0, 0, .upCrc, .ofMaster .m0⟩] } .faultPop
       Offered s .m0 7 .faultPop ∧ s.records = ⟨0, 0, .upCrc, .ofMaster .m0⟩ :: []) ∧
      (1 : BitVec 24).getLsbD 0 = true ∧ (0x800000 : BitVec 24).getLsbD 23 = true ∧
      (0x400002 : BitVec 24).getLsbD 0 = false ∧ (0x400002 : BitVec 24).getLsbD 23 = false :=
  ⟨offered_base, rfl, ⟨offered_by _ _ rfl (by decide) (by decide +kernel), rfl⟩, by decide⟩

theorem witness_LevelWriteAndAlertAck :
    (∀ op, Offered (offer base op) .m0 7 op) ∧
      (let s := asks { base with rightsM1 := .full } .m1 (hubRequest 7 (.levelWrite 1 3 3 3 3 3))
       Offered s .m1 7 (.levelWrite 1 3 3 3 3 3) ∧ s.rights .m1 = .full) ∧
      1 < (2 : Byte).toNat ∧ (3 : Byte).toNat ≤ 3 ∧ 3 < (4 : Byte).toNat ∧ masterCode .m1 = 1 ∧
      ((offer base .alertAck).alert .m0).busy = false ∧
      (let s := offer (base.setAlert .m0 { base.alertM0 with busy := true }) .alertAck
       Offered s .m0 7 .alertAck ∧ (s.alert .m0).busy = true) :=
  ⟨offered_base, ⟨⟨rfl, by decide +kernel, by decide +kernel⟩, rfl⟩, by decide, by decide, by decide, rfl, rfl,
    offered_by _ _ rfl (by decide) (by decide +kernel), rfl⟩

theorem witness_FabricResetClearsTraffic :
    Offered (offer queued .fabricReset) .m0 7 .fabricReset :=
  offered_by _ _ rfl (by decide) (by decide +kernel)

theorem witness_EventsBetweenResetPartsAreDiscarded :
    between.phase = .resetting issued.contexts ∧ (∀ c, between.ctx c = none) ∧ (between.lane 2).state ≠ .disabled ∧
      ((between.lane 2).receiver = .hunting ∧ back5.rest.length ≤ 1016) ∧ legBackLengthOk back5 = true ∧ (between.lane 2).slot 0 = .issued back5.seq 0 .m0 4 between.timebase ∧
      Least (fun w => ∃ c m t d, (between.lane 2).slot w = .issued back5.seq c m t d) 0 ∧
      issued.contexts[(0 : CtxId)] = some (ctx5 .issued) ∧ (ctx5 .issued).leg 4 = some (leg5 .issued) ∧
      back5.station.toNat = (leg5 .issued).station.val ∧ back5.op = legOpCode (ctx5 .issued).legOp ∧
      (let s := between.setLane 2 (upLane.setSlot 3 (.expired 41 .m0 4))
       (∀ w, (s.lane 2).slot w = .expired 41 .m0 4 ∨ (s.lane 2).slot w = .free) ∧
         (s.lane 2).slot 3 = .expired 41 .m0 4) ∧
      (∀ w, ((between.setLane 2 upLane).lane 2).slot w = .free) :=
  ⟨rfl, by decide +kernel, by decide +kernel, by decide +kernel, by decide, by decide +kernel,
    ⟨⟨0, .m0, 4, 5, by decide +kernel⟩, fun j h => absurd h (Fin.not_lt_zero j)⟩, by decide +kernel,
    by decide +kernel, by decide, by decide, by decide +kernel, by decide +kernel⟩

theorem witness_EventsBetweenResetPartsAreDiscarded_laneLost :
    (between.lane 2).contact = true ∧ (between.lane 2).state = .up ∧
      ({ between with timebase := 1000 } : State).Arrived (({ between with timebase := 1000 } : State).lane 2).lastReceived
        1000 :=
  ⟨by decide +kernel, by decide +kernel, ⟨0, by decide +kernel, rfl⟩⟩

theorem witness_LegBackEndsItsLeg :
    (issued.lane 2).state ≠ .disabled ∧ ((issued.lane 2).receiver = .hunting ∧ back5.rest.length ≤ 1016) ∧
      legBackLengthOk { back5 with rest := [] } = false ∧
      legBackLengthOk back5 = true ∧ (issued.lane 2).slot 0 = .issued back5.seq 0 .m0 4 5 ∧
      Least (fun w => ∃ c m t d, (issued.lane 2).slot w = .issued back5.seq c m t d) 0 ∧
      issued.ctx 0 = some (ctx5 .issued) ∧ (ctx5 .issued).leg 4 = some (leg5 .issued) ∧
      back5.station.toNat = (leg5 .issued).station.val ∧ back5.op = legOpCode (ctx5 .issued).legOp ∧
      back5.arg.toNat = (ctx5 .issued).count ∧
      legBackLengthOk { back5 with error := true, arg := 7, rest := [] } = true ∧
      legBackLengthOk { back5 with station := 2 } = true :=
  ⟨by decide +kernel, by decide +kernel, by decide, by decide, by decide +kernel,
    ⟨⟨0, .m0, 4, 5, by decide +kernel⟩, fun j h => absurd h (Fin.not_lt_zero j)⟩, by decide +kernel,
    by decide +kernel, by decide, by decide, by decide, by decide, by decide⟩

/-- Lane 2 with number 41 in an EXPIRED slot only. -/
def late : State := one.setLane 2 (upLane.setSlot 0 (.expired 41 .m0 4))

theorem witness_LegBackLateOrStray :
    ((∀ l, (late.lane l).receiver = .hunting ∧ (one.lane l).receiver = .hunting) ∧ back5.rest.length ≤ 1016) ∧
      legBackLengthOk back5 = true ∧ (∀ w c m t d, (late.lane 2).slot w ≠ .issued back5.seq c m t d) ∧
      (late.lane 2).slot 0 = .expired back5.seq .m0 4 ∧
      Least (fun w => ∃ m t, (late.lane 2).slot w = .expired back5.seq m t) 0 ∧
      (∀ w m t, (one.lane 2).slot w ≠ .expired back5.seq m t) := by
  have free : ∀ w, (one.lane 2).slot w = .free := by decide +kernel
  have not : ∀ w, ((late.lane 2).slot w = .expired 41 .m0 4) ∨ (late.lane 2).slot w = .free := by decide +kernel
  refine ⟨by decide +kernel, by decide, fun w c m t d h => ?_, by decide +kernel,
    ⟨⟨.m0, 4, by decide +kernel⟩, fun j h => absurd h (Fin.not_lt_zero j)⟩, fun w m t h => ?_⟩
  · rcases not w with e | e <;> (rw [e] at h; cases h)
  · rw [free w] at h; cases h

/-- A DRAINING claim of M1 over target ID 5, for which M0 has one leg in flight. -/
def draining : State := (one.setRecord 4 ⟨.healthy, 0, 1, 0, 0⟩).setClaim 7 (some (claimM1 (.draining 8 9)))

theorem witness_LegBackLateOrStray_grant :
    draining.claim 7 = some (claimM1 (.draining 8 9)) ∧
      Least (fun k => ∃ c tag d, draining.claim k = some c ∧ c.state = .draining tag d ∧ c.owner = Master.m0.other ∧
        (4 : Target) ∈ c.members) 7 ∧
      (∀ v ∈ (claimM1 (.draining 8 9)).members,
        (draining.setRecord 4 ((draining.record 4).setInFlight .m0 (draining.inFlight .m0 4 - 1))).inFlight .m0 v = 0) ∧
      ((draining.setRecord 4 ⟨.healthy, 0, 2, 0, 0⟩).setRecord 4 ⟨.healthy, 0, 1, 0, 0⟩).inFlight .m0 4 ≠ 0 := by
  have none : ∀ k, k < 7 → draining.claim k = none := by decide +kernel
  refine ⟨by decide +kernel, ⟨⟨claimM1 (.draining 8 9), 8, 9, by decide +kernel, rfl, rfl, by decide⟩, fun j hj h => ?_⟩, by decide +kernel,
    by decide +kernel⟩
  obtain ⟨c, _, _, h, -⟩ := h
  rw [none j hj] at h
  cases h

theorem witness_CompletionUpdatesContextAndRecord :
    issued.ctx 0 = some (ctx5 .issued) ∧ (ctx5 .issued).leg 4 = some (leg5 .issued) ∧
      (∀ p, (leg5 .issued).state ≠ .done p) ∧ (ctx5 .issued).unfinished = 1 ∧
      (ctx5 .issued).state = .active 9 ∧ 0 < (issued.port .m0).reserved ∧ (ctx5 .issued).legs = [leg5 .issued] ∧
      ((base.setCtx 0 (some (gread .or))).ctx 0).map Ctx.unfinished = some 1 ∧
      1 < ({ gread .or with unfinished := 2 } : Ctx).unfinished :=
  ⟨by decide +kernel, by decide +kernel, fun p h => (by cases h), rfl, rfl, by decide +kernel, rfl, by decide +kernel,
    by decide⟩

theorem witness_LastCompletionBuildsResponse :
    issued.LegsPlaced ∧ issued.ctx 0 = some (ctx5 .issued) ∧ (ctx5 .issued).leg 4 = some (leg5 .issued) ∧
      (∀ p, (leg5 .issued).state ≠ .done p) ∧ (ctx5 .issued).unfinished = 1 ∧ (ctx5 .issued).state = .active 9 ∧
      0 < (issued.port .m0).reserved ∧ (ctx5 .issued).legs = [leg5 .issued] ∧
      (∀ k, let x := ctxOf (.active 9) .m0 (.gread k) 0 [legTo 2 0 (.done .held), legTo 4 2 .issued]
        let s := issued.setCtx 0 (some x)
        placedOk s = true ∧ x.unfinished = 1 ∧ x.leg 4 = some (legTo 4 2 .issued)) := by
  refine ⟨placed_of (by decide +kernel), by decide +kernel, by decide +kernel, fun p h => (by cases h), rfl, rfl,
    by decide +kernel, rfl, fun k => ?_⟩
  cases k <;> decide +kernel

/-- A group context with three legs sent. -/
def threeSent (k : Kind) : Ctx := ctxOf (.active 9) .m0 k 0 [legTo 2 0 .issued, legTo 4 2 .issued, legTo 7 3 .issued]

theorem witness_AccumulatorCombinesOkLegs :
    (ctxOf .orphan .m0 .write 1 []).state = .orphan ∧
      (∀ k, (threeSent k).state = .active 9 ∧ (threeSent k).accumulator = none ∧
        (∀ g ∈ (threeSent k).legs, g.state ≠ .done .ok)) ∧
      (let ends : List (Target × LegOutcome × List Word) := [(7, .ok, [1]), (2, .timeout, []), (4, .ok, [3])]
       (ends.map Prod.fst).Nodup ∧ (∀ e ∈ ends, e.2.1 = .ok → e.2.2.length = (threeSent (.gread .or)).count) ∧
         (∀ e ∈ ends, e.1 ∈ (threeSent (.gread .or)).legs.map Leg.target) ∧
         ends.Perm [(4, .ok, [3]), (7, .ok, [1]), (2, .timeout, [])] ∧
         ((ends.foldl (fun y e => y.endLeg e.1 e.2.1 e.2.2) (threeSent (.gread .or))).accumulator = some [3]) ∧
         ((ends.foldl (fun y e => y.endLeg e.1 e.2.1 e.2.2) (threeSent (.gread .and))).accumulator = some [1]) ∧
         ((ends.foldl (fun y e => y.endLeg e.1 e.2.1 e.2.2) (threeSent (.gread .matching))).accumulator =
           some [3])) := by
  refine ⟨rfl, fun k => ⟨rfl, rfl, by simp [threeSent, ctxOf, legTo]⟩, by decide +kernel⟩

theorem witness_LegExpiryTimesLegOut :
    (∀ q c m t, (queued.lane 2).slot 0 ≠ .issued q c m t queued.timebase) ∧
      (issued.lane 2).slot 0 = .issued 41 0 .m0 4 issued.timebase ∧ issued.ctx 0 = some (ctx5 .issued) ∧
      (ctx5 .issued).leg 4 = some (leg5 .issued) ∧ (∀ p, (leg5 .issued).state ≠ .done p) ∧
      (∀ p n i, (issued.lane 2).slot 1 ≠ .expired p n i) ∧ (issued.activeEntry 4).corrupt = false ∧
      (issued.activeEntry 4).entry.threshold = min ((issued.record 4).consecutive + 1) 15 := by
  have f1 : (queued.lane 2).slot 0 = .free := by decide +kernel
  have f2 : (issued.lane 2).slot 1 = .free := by decide +kernel
  refine ⟨fun q c m t h => ?_, by decide +kernel, by decide +kernel, by decide +kernel, fun p h => (by cases h),
    fun p n i h => ?_, by decide +kernel, by decide +kernel⟩
  · rw [f1] at h; cases h
  · rw [f2] at h; cases h

theorem witness_LegExpiryTimesLegOut_cases :
    (let s := issued.setActive 4 ⟨entryAt 2 1 [3], true⟩
     (s.activeEntry 4).corrupt = true ∧ (s.lane 2).slot 0 = .issued 41 0 .m0 4 s.timebase) ∧
      (let s := issued.setRecord 4 ⟨.healthy, 0, 1, 0, 7⟩
       ¬ (s.activeEntry 4).entry.threshold ≤ min ((s.record 4).consecutive + 1) 15) ∧
      (issued.record 4).health = .healthy ∧ (issued.activeEntry 4).entry.threshold ≠ 0 ∧
      (let x : Lane := { upLane with window := #v[.issued 41 0 .m0 4 5, .expired 1 .m0 4, .expired 2 .m0 4, .expired 3 .m1 4] }
       ∀ v, v ≠ 0 → ∃ p n i, ((issued.setLane 2 x).lane 2).slot v = .expired p n i) ∧
      1 < mixed.unfinished ∧ busy.ctx 0 = some mixed ∧ (busy.lane 2).slot 0 = .issued 41 0 .m0 4 busy.timebase := by
  refine ⟨by decide +kernel, by decide +kernel, by decide +kernel, by decide +kernel, fun v hv => ?_, by decide +kernel,
    by decide +kernel, by decide +kernel⟩
  have h : v = 1 ∨ v = 2 ∨ v = 3 := by
    rcases v with ⟨n, hn⟩
    simp only [Fin.ext_iff] at hv ⊢
    simp at hv ⊢
    omega
  rcases h with rfl | rfl | rfl
  · exact ⟨1, .m0, 4, by decide +kernel⟩
  · exact ⟨2, .m0, 4, by decide +kernel⟩
  · exact ⟨3, .m1, 4, by decide +kernel⟩

theorem witness_IssueTakesHeadOfQueue :
    ((one.lane 2).queue = [] ∧ (run0.lane 2).state ≠ .up ∧ ({ queued with hub := .halted } : State).hub = .halted) ∧
      (queued.lane 2).state = .up ∧ queued.hub ≠ .halted ∧ (queued.lane 2).queue = ⟨0, 4⟩ :: [] ∧
      Least (fun w => (queued.lane 2).slot w = .free) 0 ∧ queued.ctx 0 = some (ctx5 .queued) ∧
      (ctx5 .queued).leg 4 = some (leg5 .queued) ∧
      Least (fun n : Fin 4 => (queued.lane 2).nextSeq + BitVec.ofNat 8 n.val ∉ (queued.lane 2).heldSeqs) 0 ∧
      queued.NonePending 2 ∧ (queued.lane 2).line = none := by
  refine ⟨by decide +kernel, by decide +kernel, by decide +kernel, by decide +kernel, ?_, by decide +kernel,
    by decide +kernel, ?_, (pendingFor_eq_nil_iff _ _).1 (by decide +kernel), by decide +kernel⟩
  · unfold Least; decide +kernel
  · unfold Least; decide +kernel

theorem witness_IssueTakesHeadOfQueue_refill :
    busy.LegsPlaced ∧ busy.OldestPending 2 5 11 ∧ (busy.lane 2).queue = ⟨0, 5⟩ :: [⟨1, 4⟩] ∧ (busy.lane 2).state = .up ∧
      Least (fun w => (busy.lane 2).slot w = .free) 3 := by
  have key : ∀ p ∈ busy.usedContexts, ∀ h ∈ p.2.legs, h.lane = 2 → h.state = .pending →
      (p.1 = 5 → 11 ≤ h.target) ∧ (p.1 ≠ 5 → busy.age p.2 < busy.age eldest) := by decide +kernel
  refine ⟨placed_of (by decide +kernel), ⟨eldest, legTo 11 2 .pending, by decide +kernel, by decide, rfl, rfl, rfl,
    fun d y h hc hg hl hs => key (d, y) ((mem_usedContexts _ _ _).2 hc) h hg hl hs⟩, by decide +kernel,
    by decide +kernel, ?_⟩
  unfold Least
  decide +kernel

theorem witness_DeviceHelloTrainsLane :
    (∀ l, (run0.lane l).receiver = .hunting ∧ (one.lane l).receiver = .hunting) ∧ (run0.lane 3).contact = false ∧ (run0.lane 3).state = .training ∧ 1 ≤ (1 : Byte).toNat ∧ (4 : Byte).toNat ≤ 4 ∧
      ¬ (1 ≤ (0 : Byte).toNat) ∧ ¬ ((5 : Byte).toNat ≤ 4) ∧
      ((run0.setLane 3 { Lane.initial with state := .down }).lane 3).state = .down ∧
      ((run0.setLane 3 { Lane.initial with state := .disabled }).lane 3).state = .disabled ∧
      (one.lane 2).contact = true ∧ (one.lane 2).state = .up ∧ (one.lane 2).autoRetrain = true ∧
      ((one.setLane 2 { upLane with autoRetrain := false }).lane 2).autoRetrain = false ∧
      ((one.setLane 2 { upLane with state := .fenced }).lane 2).state = .fenced ∧
      (one.source .laneLost).action ≠ .isolate ∧
      ((one.setSource .laneLost ⟨false, 0, .isolate⟩).source .laneLost).action = .isolate := by decide +kernel

theorem witness_DeviceHelloTrainsLane_legs :
    busy.phase = .running ∧ busy.LegsPlaced ∧ (busy.lane 2).receiver = .hunting ∧ (busy.lane 2).contact = true ∧
      (busy.lane 2).state = .up ∧ (busy.lane 2).autoRetrain = true :=
  ⟨rfl, placed_of (by decide +kernel), by decide +kernel, by decide +kernel, by decide +kernel, by decide +kernel⟩

theorem witness_IdleAndBadFrames_lane :
    ((run0.setLane 3 { Lane.initial with state := .disabled }).lane 3).state = .disabled ∧
      (one.lane 2).state ≠ .disabled ∧
      receiveSymbol (one.lane 2).receiver .fill = (.hunting, none) ∧
      readLaneFrame [0x10] = .malformed ∧ (one.lane 2).receiver = .hunting ∧
      ((one.setLane 2 { upLane with receiver := .inFrame [2] }).lane 2).receiver = .inFrame [2] ∧
      (Instr.laneMalformedFrame 2 []).laneFrameBytes 2 = some 0 ∧ (Instr.deviceHello 2 4).laneFrameBytes 2 = some 2 ∧
      (Instr.legBack 2 { back5 with rest := List.replicate 1017 0 }).laneFrameBytes 2 = some 1022 ∧
      (between.lane 2).state ≠ .disabled ∧ between.phase = .resetting issued.contexts ∧
      ((between.setLane 2 { upLane with receiver := .inFrame [] }).lane 2).receiver = .inFrame [] ∧
      readLaneFrame (List.replicate 1021 0) = .malformed := by decide +kernel

theorem witness_LaneTimersTrainAndKeepAlive :
    (∃ s : State, s.phase = .running ∧ (s.lane 3).state = .training ∧ (s.lane 3).hellosSent = 49 ∧
        s.Arrived (s.lane 3).helloTime 200) ∧
      (∃ s : State, s.phase = .running ∧ (s.lane 3).state = .training ∧ (s.lane 3).hellosSent = 50 ∧
        s.Arrived (s.lane 3).helloTime 200 ∧ (s.source .laneTrainFail).action ≠ .isolate) ∧
      (∃ s : State, s.phase = .running ∧ (s.lane 3).state = .down ∧ (s.lane 3).retryTime = some s.timebase) ∧
      (∃ s : State, s.phase = .running ∧ (s.lane 2).contact = true ∧ (s.lane 2).lastSent = some 0 ∧
        100 ≤ (s.timebase - 0).toNat) ∧
      (run0.lane 2).contact = false ∧ ((one.lane 2).lastSent = some 0 ∧ (one.timebase - 0).toNat < 100) ∧
      (one.lane 2).waiting = [] ∧
      ((one.setLane 2 { upLane with waiting := [.idle] }).lane 2).waiting = LaneFrame.idle :: [] :=
  ⟨⟨{ run0.setLane 3 { Lane.initial with hellosSent := 49, helloTime := some 0 } with timebase := 200 },
      rfl, by decide +kernel, by decide +kernel, ⟨0, by decide +kernel, rfl⟩⟩,
    ⟨{ run0.setLane 3 { Lane.initial with hellosSent := 50, helloTime := some 0 } with timebase := 200 },
      rfl, by decide +kernel, by decide +kernel, ⟨0, by decide +kernel, rfl⟩, by decide +kernel⟩,
    ⟨{ run0.setLane 3 { Lane.initial with state := .down, retryTime := some 5 } with timebase := 5 },
      rfl, by decide +kernel, by decide +kernel⟩,
    ⟨{ one with timebase := 100 }, rfl, by decide +kernel, by decide +kernel, by decide⟩, by decide +kernel,
    by decide +kernel, by decide +kernel, by decide +kernel⟩

theorem witness_LaneLossEndsLaneWork :
    (run0.lane 2).contact = false ∧ (one.lane 2).contact = true ∧ (one.lane 2).state = .up ∧
      ({ one with timebase := 1000 } : State).Arrived (({ one with timebase := 1000 } : State).lane 2).lastReceived
        1000 ∧ (one.source .laneLost).action ≠ .isolate :=
  ⟨by decide +kernel, by decide +kernel, by decide +kernel, ⟨0, by decide +kernel, rfl⟩, by decide +kernel⟩

theorem witness_ClaimTimersFreeRecords :
    (one.setClaim 3 (some (claimM1 (.draining 8 5)))).claim 3 = some (claimM1 (.draining 8 one.timebase)) ∧
      (one.setClaim 3 (some (claimM1 (.held (some 5))))).claim 3 = some (claimM1 (.held (some one.timebase))) := by
  decide +kernel

theorem witness_OccurrenceLatchesAndRecords :
    Source.laneLost ≠ .recordsLost ∧ (base.source .targetError).action = .ignore ∧
      (base.source .laneLost).action ≠ .ignore ∧ base.records.length < 16 ∧
      16 ≤ ({ base with records := List.replicate 16 ⟨0, 0, .upCrc, .ofMaster .m0⟩ } : State).records.length ∧
      (base.source .tableParity).action = .halt ∧ base.hub = .run ∧ (base.source .laneLost).action ≠ .record ∧
      0 < (base.alert .m0).levels.get Source.laneLost.cls ∧ (base.alert .m0).busy = false ∧
      (base.port .m0).link = .up ∧ (base.source .laneStalled).action = .isolate ∧ Source.laneStalled.cls = .link ∧
      Source.legTimeout.cls = .target ∧ (base.source .recordsLost).action = .alert ∧
      ((base.setAlert .m0 { base.alertM0 with busy := true }).alert .m0).busy = true := by decide +kernel

theorem witness_HighestClassIsMadeReady :
    ((base.setAlert .m0 { base.alertM0 with busy := true }).alert .m0).busy = true ∧ (run0.port .m0).link ≠ .up ∧
      (∀ c, (base.alert .m0).pending.get c = none) ∧
      (let s := base.setAlert .m0
         ⟨⟨3, 2, 2, 1⟩, 1, ⟨none, some ⟨.claimExpired, none⟩, some ⟨.laneLost, none⟩, some ⟨.legTimeout, none⟩⟩, false⟩
       (s.alert .m0).busy = false ∧ (s.port .m0).link = .up ∧
         (s.alert .m0).pending.get .fabric = some ⟨.claimExpired, none⟩ ∧
         (s.alert .m0).floor < (s.alert .m0).levels.get .fabric ∧
         (s.alert .m0).levels.get .link = (s.alert .m0).levels.get .fabric ∧
         ¬ (s.alert .m0).floor < (s.alert .m0).levels.get .target) := by
  refine ⟨rfl, by decide, fun c => ?_, by decide +kernel⟩
  cases c <;> rfl

theorem witness_RequestsReadBack :
    1 ≤ 8 ∧ 8 ≤ 8 ∧ (List.replicate 8 (0 : Word)).length = 8 ∧ 1 ≤ 63 ∧ 63 ≤ 63 ∧ 15 ≤ 15 := by decide

theorem witness_LineCarriesFrames :
    (base.phase = .running ∧ one.phase = .running ∧ base.portM0.receiver = .hunting ∧ (one.lane 2).receiver = .hunting) ∧
      1 ≤ ([0x02] : List Byte).length ∧ (List.replicate 1021 (0 : Byte)).length ≤ 1021 ∧ ([] : List Byte).length = 0 ∧
      1021 < (List.replicate 1022 (0 : Byte)).length :=
  ⟨by decide +kernel, by decide, Nat.le_of_eq List.length_replicate, rfl, Nat.lt_of_lt_of_eq (Nat.lt_succ_self _) List.length_replicate.symm⟩

theorem witness_StepsKeepBounds :
    ∃ s t : State, step s = .next t ∧ s.QuotasFit ∧ s.QueuesFit ∧ s.RecordsConsecutive ∧ s.WindowsGuard ∧ s.SlotsFit ∧
      s.ResponseCreditFits ∧ s.CreditsFit ∧ s.ClaimsApart ∧ s.LegsPlaced := by
  have none : ∀ k, base.claim k = none := by decide +kernel
  refine ⟨base, _, rfl, by unfold State.QuotasFit; decide, by unfold State.QueuesFit; decide +kernel,
    ⟨by decide, fun i h => absurd h (Nat.not_lt_zero i)⟩, fun m h => ?_, fun m => ?_, fun m => ?_,
    ⟨fun m => ?_, fun h => by
      have e : base.phase = .running := rfl
      rcases h with h | ⟨_, h⟩ <;> rw [e] at h <;> cases h⟩, fun k j c d h => ?_, placed_of (by decide +kernel)⟩
  · cases m <;> exact absurd h (by decide)
  · cases m <;> decide
  · cases m <;> decide
  · unfold Port.CreditsFit; cases m <;> decide
  · rw [none k] at h; cases h

end Sys2Proof.Tests
end

section
/-! SUPPORT. A HUB request as its row's event (R42, R44, R176), the checks of DIR-WRITE against the table of R3, and
COMMIT against R7 to R10. -/

namespace Sys2Proof.Machine

/-! ## A take leaves the tables and the Target Status records (R39) -/

@[simp] theorem activeEntry_takenBy (s : State) (m : Master) (t : Target) :
    (s.takenBy m).activeEntry t = s.activeEntry t := by cases m <;> rfl

@[simp] theorem stagedEntry_takenBy (s : State) (m : Master) (t : Target) :
    (s.takenBy m).stagedEntry t = s.stagedEntry t := by cases m <;> rfl

@[simp] theorem record_takenBy (s : State) (m : Master) (t : Target) : (s.takenBy m).record t = s.record t := by
  cases m <;> rfl

/-! ## The row of an offered operation -/

/-- The parameters that a master writes for an operation are the ones read (section 11.3). -/
theorem readHubOp_hubParams (op : HubOp) : readHubOp (opcode op) (hubParams op) = some op := by
  cases op with
  | dirWrite p =>
    change some (HubOp.dirWrite { p with base := triple _ _ _, length := triple _ _ _ }) = _
    rw [triple_bytes, triple_bytes]
  | claim k n lease drain =>
    change some (HubOp.claim k n (pair _ _) (pair _ _)) = _
    rw [pair_bytes, pair_bytes]
  | faultClear b =>
    change some (HubOp.faultClear (triple _ _ _)) = _
    rw [triple_bytes]
  | _ => rfl

/-- The REQUEST that carries an operation is well-formed and asks for it (R42). -/
theorem readRequest_hubRequest (tag : Byte) (op : HubOp) : readRequest (hubRequest tag op) = some (.hub op) := by
  simp [readRequest, hubRequest, readHubOp_hubParams]

/-- The row of an operation that is offered and allowed carries it out in the taken state (R44, R176, R179). -/
theorem happens_hubEvent_offered {s : State} {m : Master} {tag : Byte} {op : HubOp} (h : Offered s m tag op)
    (ha : Allowed s m op) : happens (hubEvent m tag op) s = .next (perform m tag op (s.takenBy m)) := by
  obtain ⟨hrun, hnext, htag⟩ := h
  have hrow : hubEvent m tag op s = manage m tag op (s.takeRequest m) :=
    hubEvent_of_next s m (hubRequest tag op) op hnext (readRequest_hubRequest tag op) htag
  have hmay : (s.takeRequest m).mayManage m op = true := by rw [mayManage_takeRequest, mayManage_iff]; exact ha
  rw [happens_running _ _ hrun, hrow, manage_passes _ _ _ _ hmay, takeRequest_takenBy]

/-! ## The checks of DIR-WRITE (R3) -/

/-- A run of parameter checks agrees with a table of reasons: it stops with the reason that the table names, and where
the table names none it gives a value that meets the description. -/
def Agrees {α : Type} (check : Except Byte α) (reason : Option Byte) (Meets : α → Prop) : Prop :=
  match reason with
  | some r => check = .error r
  | none => ∃ a, check = .ok a ∧ Meets a

theorem agrees_ok {α : Type} {a : α} {Meets : α → Prop} (h : Meets a) : Agrees (.ok a) none Meets :=
  ⟨a, rfl, h⟩

/-- One check that reads a value, and the line of the table for it. -/
theorem agrees_require {α β : Type} {o : Option α} {bad : Prop} [Decidable bad] {r : Byte} {next : α → Except Byte β}
    {reasons : Option Byte} {Meets : β → Prop} (hbad : o = none ↔ bad)
    (hnext : ∀ a, o = some a → Agrees (next a) reasons Meets) :
    Agrees (require r o >>= next) (if bad then some r else reasons) Meets := by
  cases o with
  | none => rw [if_pos (hbad.1 rfl)]; rfl
  | some a => rw [if_neg (fun h => nomatch hbad.2 h)]; exact hnext a rfl

/-- One check of a condition, and the line of the table for it. -/
theorem agrees_demand {β : Type} {b bad : Prop} [Decidable b] [Decidable bad] {r : Byte} {next : Unit → Except Byte β}
    {reasons : Option Byte} {Meets : β → Prop} (hbad : ¬ b ↔ bad) (hnext : b → Agrees (next ()) reasons Meets) :
    Agrees (demand r (decide b) >>= next) (if bad then some r else reasons) Meets := by
  by_cases h : b
  · rw [if_neg (fun hb => hbad.2 hb h), decide_eq_true h]; exact hnext h
  · rw [if_pos (hbad.1 h), decide_eq_false h]; rfl

theorem targetOf_eq_none_iff (n : Nat) : targetOf n = none ↔ n < 1 ∨ 63 < n := by
  simp [targetOf]; omega

theorem targetId_of_targetOf {n : Nat} {t : Target} (h : targetOf n = some t) : targetId t = n := by
  unfold targetOf at h
  split at h
  · cases h; simp [targetId]; omega
  · cases h

theorem finOf_eq_none_iff (k n : Nat) : finOf k n = none ↔ k ≤ n := by
  simp [finOf]

theorem finOf_eq_some_iff {k n : Nat} {i : Fin k} : finOf k n = some i ↔ i.val = n := by
  constructor
  · intro h
    unfold finOf at h
    split at h
    · cases h; rfl
    · cases h
  · exact finOf_val i n

theorem boolOf_eq_none_iff (b : Byte) : boolOf b = none ↔ 1 < b.toNat := by
  revert b; decide

theorem boolOf_eq_some_iff {b : Byte} {v : Bool} : boolOf b = some v ↔ b = boolCode v := by
  revert b v; decide

theorem accessOf_eq_none_iff (b : Byte) : accessOf b = none ↔ 2 < b.toNat := by
  revert b; decide

theorem accessCode_of_accessOf {b : Byte} {a : Access} (h : accessOf b = some a) : accessCode a = b := by
  apply BitVec.eq_of_toNat_eq
  unfold accessOf at h
  split at h <;> cases h <;> simp [accessCode, *]

/-! ## The membership set of DIR-WRITE (check 9 of R3, R4) -/

/-- A list of numbers is read where each is below the bound. -/
theorem mapM_finOf_eq_none_iff {k : Nat} (bs : List Byte) :
    bs.mapM (fun b => finOf k b.toNat) = none ↔ ∃ b ∈ bs, k ≤ b.toNat := by
  induction bs with
  | nil => simp
  | cons b bs ih =>
    cases h : finOf k b.toNat with
    | none => simp [List.mapM_cons, h, (finOf_eq_none_iff _ _).1 h]
    | some i =>
      have hb : ¬ k ≤ b.toNat := fun hk => by simp [(finOf_eq_none_iff _ _).2 hk] at h
      rw [List.exists_mem_cons_iff, ← ih]
      cases h2 : bs.mapM (fun b => finOf k b.toNat) <;> simp [List.mapM_cons, h, h2, hb]

/-- What is read is the numbers named, in their order. -/
theorem map_val_of_mapM_finOf {k : Nat} {bs : List Byte} {gs : List (Fin k)}
    (h : bs.mapM (fun b => finOf k b.toNat) = some gs) : gs.map Fin.val = bs.map BitVec.toNat := by
  induction bs generalizing gs with
  | nil => cases h; rfl
  | cons b bs ih =>
    simp [List.mapM_cons, Option.bind_eq_some_iff] at h
    obtain ⟨i, hi, is, his, rfl⟩ := h
    simp [ih his, finOf_eq_some_iff.1 hi]

theorem nodup_iff_of_mapM_finOf {k : Nat} {bs : List Byte} {gs : List (Fin k)}
    (h : bs.mapM (fun b => finOf k b.toNat) = some gs) : gs.Nodup ↔ bs.Nodup := by
  rw [← List.nodup_map_iff Fin.val_injective, map_val_of_mapM_finOf h,
    List.nodup_map_iff (fun _ _ => BitVec.eq_of_toNat_eq)]

/-- Check 9 of R3 fails for more than 3 members, a repeated one, or one above 14. -/
theorem memberSet_eq_none_iff (count : Nat) (names : List Byte) :
    memberSet count names = none ↔
      3 < count ∨ ¬ (names.take count).Nodup ∨ ∃ b ∈ names.take count, 14 < b.toNat := by
  unfold memberSet
  split
  next hc =>
    rw [or_iff_right (by omega)]
    cases h : (names.take count).mapM (fun b => finOf 15 b.toNat) with
    | none => simpa using .inr ((mapM_finOf_eq_none_iff _).1 h)
    | some gs =>
      have hin : ¬ ∃ b ∈ names.take count, 14 < b.toNat := fun hb => by
        rw [(mapM_finOf_eq_none_iff _).2 hb] at h; cases h
      simp [nodup_iff_of_mapM_finOf h, or_iff_left hin]
  next hc => simp; omega

/-- The set holds the groups named, in ascending order (R4). -/
theorem memberSet_eq_some {count : Nat} {names : List Byte} {gs : List Group} (h : memberSet count names = some gs) :
    (∀ g : Group, g ∈ gs ↔ ∃ b ∈ names.take count, b.toNat = g.val) ∧ gs.Pairwise (· < ·) := by
  unfold memberSet at h
  split at h
  · split at h
    · next named hnamed =>
      split at h
      · cases h
        refine ⟨fun g => ?_, (List.pairwise_lt_finRange 15).filter _⟩
        have hval := map_val_of_mapM_finOf hnamed
        calc g ∈ (List.finRange 15).filter (fun g => named.contains g)
          _ ↔ g.val ∈ named.map Fin.val := by simp [List.mem_map, Fin.val_inj]
          _ ↔ ∃ b ∈ names.take count, b.toNat = g.val := by rw [hval, List.mem_map]
      · cases h
    · cases h
  · cases h

/-! ## DIR-WRITE -/

/-- What DIR-WRITE writes where its checks pass (R4): for ABSENT the full-reset values, for PRESENT the parameters. -/
def Written (p : DirParams) (w : Target × DirEntry) : Prop :=
  targetId w.1 = p.target.toNat ∧ if p.presence = 0 then w.2 = .absent else EntryOf p w.2

/-- The checks of DIR-WRITE are the table of R3, line by line, and what they give is what R4 writes. -/
theorem checkDirWrite_agrees (p : DirParams) : Agrees (checkDirWrite p) (dirWriteReason p) (Written p) := by
  unfold checkDirWrite dirWriteReason
  refine agrees_require (targetOf_eq_none_iff _) fun t ht => ?_
  refine agrees_require (boolOf_eq_none_iff _) fun present hpresent => ?_
  cases present with
  | false =>
    have h0 : p.presence = 0 := boolOf_eq_some_iff.1 hpresent
    rw [if_pos h0]
    exact agrees_ok ⟨targetId_of_targetOf ht, by rw [if_pos h0]⟩
  | true =>
    have h0 : p.presence ≠ 0 := by rw [boolOf_eq_some_iff.1 hpresent]; decide
    rw [if_neg h0]
    refine agrees_require (finOf_eq_none_iff _ _) fun lane hlane => ?_
    refine agrees_require (finOf_eq_none_iff _ _) fun station hstation => ?_
    refine agrees_demand Nat.not_le fun hbase => ?_
    simp only [← Bool.decide_and]
    refine agrees_demand (by omega) fun hlength => ?_
    refine agrees_require (accessOf_eq_none_iff _) fun accessM0 haccessM0 => ?_
    refine agrees_require (accessOf_eq_none_iff _) fun accessM1 haccessM1 => ?_
    refine agrees_require (memberSet_eq_none_iff _ _) fun memberships hmemberships => ?_
    refine agrees_require (finOf_eq_none_iff _ _) fun deadline hdeadline => ?_
    refine agrees_demand Nat.not_le fun hthreshold => ?_
    obtain ⟨hmem, hsorted⟩ := memberSet_eq_some hmemberships
    have hbase20 : (p.base.extractLsb' 0 20).toNat = p.base.toNat := by
      simp [BitVec.extractLsb'_toNat]; omega
    refine agrees_ok ⟨targetId_of_targetOf ht, ?_⟩
    rw [if_neg h0]
    exact ⟨rfl, finOf_eq_some_iff.1 hlane, finOf_eq_some_iff.1 hstation, hbase20, rfl,
      accessCode_of_accessOf haccessM0, accessCode_of_accessOf haccessM1, hmem, hsorted,
      finOf_eq_some_iff.1 hdeadline, rfl⟩

/-- An answer and a staged entry are written apart (R4, R170). -/
theorem answer_setStaged_takenBy (s : State) (m : Master) (t : Target) (e : DirEntry) (tag code : Byte)
    (status : Status) :
    ((s.takenBy m).setStaged t e).answer m tag code status none [] =
      (s.answered m (answerOf tag code status [])).setStaged t e := by
  cases m <;> rfl

/-- Settles O23: the checks agree with the table of R3, and the entry they give is written whole. -/
theorem dirWriteChecksAndReplaces : Obligations.DirWriteChecksAndReplaces := by
  intro s m tag p hoffered hrights
  have hexec : exec (.dirWrite m tag p) s = .next (opDirWrite m tag p (s.takenBy m)) :=
    happens_hubEvent_offered hoffered hrights
  have hagrees := checkDirWrite_agrees p
  constructor
  · intro reason hreason
    rw [hreason] at hagrees
    have hcheck : checkDirWrite p = .error reason := hagrees
    rw [hexec, opDirWrite, hcheck]
    exact congrArg _ (answer_takenBy ..)
  · intro hreason
    rw [hreason] at hagrees
    obtain ⟨⟨t, e⟩, hcheck, htarget, hentry⟩ := hagrees
    refine ⟨t, e, htarget, hentry, ?_⟩
    rw [hexec, opDirWrite, hcheck]
    exact congrArg _ (answer_setStaged_takenBy ..)

/-! ## COMMIT: the checks (R7) -/

theorem windowPasses_iff (s : State) (t : Target) :
    s.windowPasses t = true ↔
      (s.stagedEntry t).present = true ∧ 1048576 < (s.stagedEntry t).base.toNat + (s.stagedEntry t).length := by
  simp [State.windowPasses]

theorem sharesPlace_iff (s : State) (t : Target) :
    s.sharesPlace t = true ↔
      (s.stagedEntry t).present = true ∧ ∃ u, u ≠ t ∧ (s.stagedEntry u).present = true ∧
        (s.stagedEntry u).lane = (s.stagedEntry t).lane ∧ (s.stagedEntry u).station = (s.stagedEntry t).station := by
  simp [State.sharesPlace, allTargets, and_assoc]

theorem namesDisabled_iff (s : State) (t : Target) :
    s.namesDisabled t = true ↔
      (s.stagedEntry t).present = true ∧
        ∃ g : Group, g ∈ (s.stagedEntry t).memberships ∧ s.stagedGroups[g].enabled = false := by
  simp [State.namesDisabled]

/-- A check that no target fails finds none. -/
theorem find?_allTargets_eq_none {p : Target → Bool} (h : ∀ u, ¬ p u = true) : allTargets.find? p = none :=
  List.find?_eq_none.2 fun u _ => h u

/-- Check 1 is the first (R7). -/
theorem commitFault_windowPasses {s : State} {t : Target} (h : Least (fun u => s.windowPasses u = true) t) :
    s.commitFault = some (1, t) := by
  have hfind : allTargets.find? s.windowPasses = some t := find?_of_least _ t h
  simp [State.commitFault, hfind]

/-- Check 2 is taken where check 1 passes (R7). -/
theorem commitFault_sharesPlace {s : State} {t : Target} (h1 : ∀ u, ¬ s.windowPasses u = true)
    (h : Least (fun u => s.sharesPlace u = true) t) : s.commitFault = some (2, t) := by
  have hfind : allTargets.find? s.sharesPlace = some t := find?_of_least _ t h
  simp [State.commitFault, find?_allTargets_eq_none h1, hfind]

/-- Check 3 is taken where checks 1 and 2 pass (R7). -/
theorem commitFault_namesDisabled {s : State} {t : Target} (h1 : ∀ u, ¬ s.windowPasses u = true)
    (h2 : ∀ u, ¬ s.sharesPlace u = true) (h : Least (fun u => s.namesDisabled u = true) t) :
    s.commitFault = some (3, t) := by
  have hfind : allTargets.find? s.namesDisabled = some t := find?_of_least _ t h
  simp [State.commitFault, find?_allTargets_eq_none h1, find?_allTargets_eq_none h2, hfind]

/-- A COMMIT is accepted where no target fails a check (R7). -/
theorem commitFault_eq_none {s : State} (h1 : ∀ u, ¬ s.windowPasses u = true) (h2 : ∀ u, ¬ s.sharesPlace u = true)
    (h3 : ∀ u, ¬ s.namesDisabled u = true) : s.commitFault = none := by
  simp [State.commitFault, find?_allTargets_eq_none h1, find?_allTargets_eq_none h2, find?_allTargets_eq_none h3]

/-- A take touches no staged table (R39), so the checks speak of the state that offers the COMMIT. -/
theorem commitFault_takenBy (s : State) (m : Master) : (s.takenBy m).commitFault = s.commitFault := by
  cases m <;> rfl

/-- The row of an offered COMMIT carries it out in the taken state. -/
theorem exec_commit_offered {s : State} {m : Master} {tag : Byte} (h : Offered s m tag .commit)
    (hrights : s.rights m = .full) : exec (.commit m tag) s = .next (opCommit m tag (s.takenBy m)) :=
  happens_hubEvent_offered h hrights

/-! ## COMMIT rejected (R8) -/

theorem exec_commit_rejected {s : State} {m : Master} {tag check : Byte} {t : Target}
    (h : Offered s m tag .commit) (hrights : s.rights m = .full) (hfault : s.commitFault = some (check, t)) :
    exec (.commit m tag) s =
      .next ((s.answered m (answerOf tag 0x05 .invalid [check, idByte t])).occur .commitRejected
        { FaultFields.none with master := some m, target := some t, detail := some check }) := by
  rw [exec_commit_offered h hrights, opCommit, commitFault_takenBy, hfault]
  dsimp only
  rw [answer_takenBy]
  rfl

/-- Settles O26: each check is taken where those before it pass, and finds the least offender. -/
theorem commitRejectedNamesFirstFault : Obligations.CommitRejectedNamesFirstFault := by
  intro s m tag hoffered hrights passes shares names rejected
  have hpasses : ∀ u, s.windowPasses u = true ↔ passes u := windowPasses_iff s
  have hshares : ∀ u, s.sharesPlace u = true ↔ shares u := sharesPlace_iff s
  have hnames : ∀ u, s.namesDisabled u = true ↔ names u := namesDisabled_iff s
  refine ⟨fun t ht => ?_, fun h1 t ht => ?_, fun h1 h2 t ht => ?_⟩
  · exact exec_commit_rejected hoffered hrights
      (commitFault_windowPasses ((least_congr hpasses t).2 ht))
  · exact exec_commit_rejected hoffered hrights
      (commitFault_sharesPlace (fun u => (hpasses u).not.2 (h1 u)) ((least_congr hshares t).2 ht))
  · exact exec_commit_rejected hoffered hrights
      (commitFault_namesDisabled (fun u => (hpasses u).not.2 (h1 u)) (fun u => (hshares u).not.2 (h2 u))
        ((least_congr hnames t).2 ht))

/-! ## COMMIT accepted (R9, R10) -/

theorem relocated_iff (old new : DirEntry) :
    relocated old new = true ↔ old.present ≠ new.present ∨
      (old.present = true ∧ new.present = true ∧ (old.lane ≠ new.lane ∨ old.station ≠ new.station)) := by
  simp [relocated, and_assoc]

/-- The targets of a list that `p` picks become HEALTHY with count 0, one after the other (R10). -/
def State.healWhere (s : State) (p : Target → Bool) (ts : List Target) : State :=
  ts.foldl (fun acc t => if p t then acc.heal t else acc) s

theorem healWhere_cons (s : State) (p : Target → Bool) (t : Target) (ts : List Target) :
    s.healWhere p (t :: ts) = (if p t then s.heal t else s).healWhere p ts := rfl

/-- An accepted COMMIT heals where R10 calls a target relocated. -/
theorem healRelocated_eq_healWhere (s : State) :
    s.healRelocated = s.healWhere (fun t => relocated (s.activeEntry t).entry (s.stagedEntry t)) allTargets := rfl

/-- Healing changes Target Status records only. -/
theorem healWhere_frame (s : State) (p : Target → Bool) (ts : List Target) :
    s.healWhere p ts = { s with status := (s.healWhere p ts).status } := by
  induction ts generalizing s with
  | nil => rfl
  | cons t ts ih =>
    rw [healWhere_cons, ih]
    split <;> rfl

/-- A target healed in the course has a HEALTHY record with count 0, its other fields as they were; any other target has
its record as it was. -/
theorem healWhere_record (s : State) (p : Target → Bool) (ts : List Target) (u : Target) :
    (s.healWhere p ts).record u =
      if u ∈ ts ∧ p u = true then { s.record u with health := .healthy, consecutive := 0 } else s.record u := by
  induction ts generalizing s with
  | nil => simp [State.healWhere]
  | cons t ts ih =>
    rw [healWhere_cons, ih]
    by_cases hut : u = t
    · subst hut
      cases hp : p u <;> simp [State.heal]
    · have hrest : (if p t then s.heal t else s).record u = s.record u := by
        split
        · simp [State.heal, State.record_setRecord, hut]
        · rfl
      simp [hrest, hut]

/-- Every relocated target is healed, and no other (R10). -/
theorem healRelocated_status (s : State) (t : Target) :
    s.healRelocated.status[t] =
      if relocated (s.activeEntry t).entry (s.stagedEntry t) = true then
        { s.record t with health := .healthy, consecutive := 0 }
      else s.record t :=
  (healWhere_record s _ allTargets t).trans (by simp only [allTargets, List.mem_finRange, true_and])

/-- The accepted COMMIT in the taken state, answered with the new generation (R9, R10). -/
theorem acceptCommit_takenBy_answer (s : State) (m : Master) (tag : Byte) :
    (s.takenBy m).acceptCommit.answer m tag 0x05 .ok (some (s.takenBy m).acceptCommit.generation) [] =
      { s.answered m (answerWith tag 0x05 .ok (s.generation + 1) []) with
        active := s.staged.map (fun e => ⟨e, false⟩), activeGroups := s.stagedGroups,
        generation := s.generation + 1, hub := if s.hub = .setup then .run else s.hub,
        status := (s.takenBy m).healRelocated.status } := by
  rw [State.acceptCommit, healRelocated_eq_healWhere, healWhere_frame]
  cases m <;> rfl

/-- Settles O25: with no check failing the COMMIT is accepted, and its records are those healed in the taken state. -/
theorem commitMakesStagedActive : Obligations.CommitMakesStagedActive := by
  intro s m tag hoffered hrights hwindows hplaces hgroups
  have hfault : s.commitFault = none := by
    refine commitFault_eq_none (fun u => ?_) (fun u => ?_) (fun u => ?_)
    · rw [windowPasses_iff]
      exact fun ⟨hu, hlong⟩ => absurd (hwindows u hu) (by omega)
    · rw [sharesPlace_iff]
      exact fun ⟨hu, v, hvu, hv, hlane, hstation⟩ => hplaces v u hvu hv hu ⟨hlane, hstation⟩
    · rw [namesDisabled_iff]
      exact fun ⟨hu, g, hg, hoff⟩ => Bool.false_ne_true (hoff.symm.trans (hgroups u g hu hg))
  refine ⟨(s.takenBy m).healRelocated.status, ?_, fun t => ?_⟩
  · rw [exec_commit_offered hoffered hrights, opCommit, commitFault_takenBy, hfault]
    exact congrArg _ (acceptCommit_takenBy_answer s m tag)
  · intro old new isRelocated
    have hiff : relocated old new = true ↔ isRelocated := relocated_iff old new
    rw [healRelocated_status, activeEntry_takenBy, stagedEntry_takenBy, record_takenBy]
    exact ⟨fun h => if_pos (hiff.2 h), fun h => if_neg (fun hr => h (hiff.1 hr))⟩

end Sys2Proof.Machine
end

section
/-! SUPPORT. The intake of a unicast request (R40, R45 to R47): its take, checks 6 to 8 for one target in their order, and
the refusals of checks 5 to 8. -/

namespace Sys2Proof.Machine

/-! ## The take and check 4 (R39, R43, R45) -/

/-- A request that is next to be taken, its tag free, is admitted in the taken state (R39, R43). -/
theorem exec_intakeTake_next {s : State} {m : Master} {r : RawRequest} {a : Asked} (h : Next s m r a)
    (htag : ¬ s.HoldsTag m r.tag) : exec .intakeTake s = .next ((s.takenBy m).admitAsked m r.tag a) := by
  obtain ⟨hrun, hnext, hread⟩ := h
  have hfree : (s.takeRequest m).tagInUse m r.tag = false := by
    rw [tagInUse_takeRequest, ← Bool.not_eq_true, tagInUse_iff]; exact htag
  have hadmit : (s.takeRequest m).admitRequest m r = (s.takeRequest m).admitAsked m r.tag a := by
    simp [State.admitRequest, hread, hfree]
  calc exec .intakeTake s
    _ = .next (intakeEvent s) := happens_running _ _ hrun
    _ = .next ((s.takenBy m).admitAsked m r.tag a) := by
      rw [intakeEvent_of_nextTake s m r hnext, hadmit, takeRequest_takenBy]

@[simp] theorem hub_takenBy (s : State) (m : Master) : (s.takenBy m).hub = s.hub := by cases m <;> rfl

@[simp] theorem generation_takenBy (s : State) (m : Master) : (s.takenBy m).generation = s.generation := by
  cases m <;> rfl

/-- In RUN a unicast request passes check 4 (R45). -/
theorem admitAsked_unicast_run {s : State} (m : Master) (tag : Byte) (q : TargetRequest) (h : s.hub = .run) :
    s.admitAsked m tag (.unicast q) = s.admitUnicast m tag q := by
  simp [State.admitAsked, h, HubState.refusal]

/-- A refusal within the request's own take (R41). -/
theorem refuse_takenBy (s : State) (m : Master) (tag : Byte) (status : Status) :
    (s.takenBy m).refuse m tag status = s.answered m (s.refusal tag status) := by
  cases m <;> rfl

/-! ## Checks 6 to 8 for one target (R46, R47) -/

section
variable {s : State} {m : Master} {q : TargetRequest} {t : Target} {e : DirEntry}

theorem targetCheck_denied (h : ¬ Suffices (e.access m) q.kind) : s.targetCheck m q t e = some .denied :=
  if_neg (fun hpass => h ((passes_iff _ _).1 hpass))

theorem targetCheck_range (haccess : Suffices (e.access m) q.kind) (h : e.length < q.addr.toNat + q.count) :
    s.targetCheck m q t e = some .range := by
  rw [State.targetCheck, if_pos ((passes_iff _ _).2 haccess), if_pos h]

/-- Past checks 6 and 7, check 8 decides. -/
theorem targetCheck_eq_targetCondition (haccess : Suffices (e.access m) q.kind)
    (hrange : q.addr.toNat + q.count ≤ e.length) : s.targetCheck m q t e = s.targetCondition m t e := by
  rw [State.targetCheck, if_pos ((passes_iff _ _).2 haccess), if_neg (Nat.not_lt.2 hrange)]

theorem targetCondition_held (h : s.Claimed m.other t) : s.targetCondition m t e = some .held :=
  if_pos ((claimOver_isSome_iff _ _ _).2 h)

theorem targetCondition_quarantined (hclaim : ¬ s.Claimed m.other t) (h : (s.record t).health = .quarantined) :
    s.targetCondition m t e = some .quarantined := by
  rw [State.targetCondition, if_neg (mt (claimOver_isSome_iff _ _ _).1 hclaim), if_pos h]

/-- The condition of a lane for a leg to one of its stations (conditions 3 to 5 of R47). -/
def Lane.condition (x : Lane) (station : Station) : Option LegOutcome :=
  match x.state with
  | .disabled | .down | .training => some .laneDown
  | .fenced => some .fenced
  | .up => if x.stations ≤ station.val then some .noStation else none

theorem targetCondition_eq_laneCondition (hclaim : ¬ s.Claimed m.other t) (hhealthy : (s.record t).health = .healthy) :
    s.targetCondition m t e = (s.lane e.lane).condition e.station := by
  have hquarantined : ¬ (s.record t).health = .quarantined := by rw [hhealthy]; decide
  calc s.targetCondition m t e
    _ = if (s.record t).health = .quarantined then some .quarantined else (s.lane e.lane).condition e.station :=
      if_neg (mt (claimOver_isSome_iff _ _ _).1 hclaim)
    _ = (s.lane e.lane).condition e.station := if_neg hquarantined

end

section
variable {x : Lane} {station : Station}

theorem Lane.condition_laneDown (h : x.state = .disabled ∨ x.state = .down ∨ x.state = .training) :
    x.condition station = some .laneDown := by
  rcases h with h | h | h <;> simp [Lane.condition, h]

theorem Lane.condition_fenced (h : x.state = .fenced) : x.condition station = some .fenced := by
  simp [Lane.condition, h]

theorem Lane.condition_noStation (hup : x.state = .up) (h : x.stations ≤ station.val) :
    x.condition station = some .noStation := by
  simp [Lane.condition, hup, h]

end

/-- A take touches nothing that checks 6 to 8 read (R39). -/
theorem targetCheck_takenBy (s : State) (w m : Master) (q : TargetRequest) (t : Target) (e : DirEntry) :
    (s.takenBy w).targetCheck m q t e = s.targetCheck m q t e := by
  cases w <;> rfl

/-! ## The table-integrity event at check 5 (R19, R20) -/

/-- The table-integrity event leaves the generation, which the refusal carries (R41). -/
theorem generation_foundCorrupt (s : State) (t : Target) : (s.foundCorrupt t).generation = s.generation := by
  obtain ⟨_, _, _, _, _, _, _, _, hgeneration, _⟩ :=
    sameSettings_of_fixed (tableIntegrity_frame s t).fixed
  exact hgeneration

/-- A corrupt entry is sound and ABSENT to its reader, after its table-integrity event (R19, R20). -/
theorem readActive_corrupt {s : State} {t : Target} (h : (s.activeEntry t).corrupt = true) :
    s.readActive t = (s.foundCorrupt t, .absent) := by
  rw [State.readActive, if_pos h, tableIntegrity_eq]

/-! ## Checks 5 to 8 of a unicast request (R46, R47) -/

section
variable {s : State} {q : TargetRequest} {t : Target}

theorem admitUnicast_corrupt (m : Master) (tag : Byte) (hdest : targetId t = q.dest)
    (hcorrupt : (s.activeEntry t).corrupt = true) :
    s.admitUnicast m tag q = (s.foundCorrupt t).fillSlot m (s.refusal tag .noTarget) := by
  simp [State.admitUnicast, targetOf_targetId t q.dest hdest, readActive_corrupt hcorrupt, DirEntry.absent, State.refuse,
    State.refusal, generation_foundCorrupt]

theorem admitUnicast_absent (m : Master) (tag : Byte) (hdest : targetId t = q.dest)
    (hsound : (s.activeEntry t).corrupt = false) (habsent : (s.activeEntry t).entry.present = false) :
    s.admitUnicast m tag q = s.refuse m tag .noTarget := by
  simp [State.admitUnicast, targetOf_targetId t q.dest hdest, readActive_sound s t hsound, habsent]

/-- The first of checks 6 to 8 that fails gives the status of the refusal. -/
theorem admitUnicast_refused (m : Master) (tag : Byte) {o : LegOutcome} (hdest : targetId t = q.dest)
    (hsound : (s.activeEntry t).corrupt = false) (hpresent : (s.activeEntry t).entry.present = true)
    (hcheck : s.targetCheck m q t (s.activeEntry t).entry = some o) :
    s.admitUnicast m tag q = s.refuse m tag o.status := by
  simp [State.admitUnicast, targetOf_targetId t q.dest hdest, readActive_sound s t hsound, hpresent, hcheck]

end

/-- Settles O15: check 5 by the entry that is read; past it the first of checks 6 to 8 that fails, which the taken state
decides as the state before does. -/
theorem unicastRefusedByFirstFailingCheck : Obligations.UnicastRefusedByFirstFailingCheck := by
  intro s m r q t hnext htag hhub hdest
  have hexec : exec .intakeTake s = .next ((s.takenBy m).admitUnicast m r.tag q) := by
    rw [exec_intakeTake_next hnext htag, admitAsked_unicast_run _ _ _ ((hub_takenBy s m).trans hhub)]
  have hentry := activeEntry_takenBy s m t
  refine ⟨fun hcorrupt => ?_, fun hsound => ?_⟩
  · rw [hexec, admitUnicast_corrupt m r.tag hdest (by rwa [hentry]), State.refusal, generation_takenBy]
    rfl
  · intro e lane refused
    rw [← hentry] at hsound
    have absent (h : e.present = false) : refused .noTarget := by
      change exec .intakeTake s = _
      rw [hexec, admitUnicast_absent m r.tag hdest hsound (by rwa [hentry]), refuse_takenBy]
    have refuses {o : LegOutcome} (hpresent : e.present = true) (h : s.targetCheck m q t e = some o) :
        refused o.status := by
      change exec .intakeTake s = _
      rw [hexec, admitUnicast_refused m r.tag hdest hsound (by rwa [hentry])
        (by rw [targetCheck_takenBy, hentry]; exact h), refuse_takenBy]
    refine ⟨absent, fun hpresent haccess => refuses hpresent (targetCheck_denied haccess),
      fun hpresent haccess => ⟨fun hlong => refuses hpresent (targetCheck_range haccess hlong), fun hrange => ?_⟩⟩
    have hcheck8 : s.targetCheck m q t e = s.targetCondition m t e := targetCheck_eq_targetCondition haccess hrange
    refine ⟨fun hheld => refuses hpresent (hcheck8.trans (targetCondition_held hheld)), fun hclaim =>
      ⟨fun hbad => refuses hpresent (hcheck8.trans (targetCondition_quarantined hclaim hbad)), fun hhealthy => ?_⟩⟩
    have hlane : s.targetCheck m q t e = lane.condition e.station :=
      hcheck8.trans (targetCondition_eq_laneCondition hclaim hhealthy)
    exact ⟨fun hdown => refuses hpresent (hlane.trans (Lane.condition_laneDown hdown)),
      fun hfenced => refuses hpresent (hlane.trans (Lane.condition_fenced hfenced)),
      fun hup hstations => refuses hpresent (hlane.trans (Lane.condition_noStation hup hstations))⟩

end Sys2Proof.Machine
end

section
/-! SUPPORT. LANE-CONTROL as its row's event (R102), and its actions AUTO-ON and AUTO-OFF (R103). -/

namespace Sys2Proof.Machine

/-! ## LANE-CONTROL: the lane it names (R102) -/

/-- A lane number above 11 is refused, whatever the action. -/
theorem opLaneControl_noLane (s : State) (m : Master) (tag action : Byte) {lane : Byte} (h : 11 < lane.toNat) :
    opLaneControl m tag lane action s = s.invalid m tag 0x0D 1 := by
  simp [opLaneControl, finOf_none 12 lane.toNat h]

/-- On a lane that exists an action that exists is carried out, and answered with the status it gives. -/
theorem opLaneControl_lane (s : State) (m : Master) (tag : Byte) {lane action : Byte} {l : LaneId}
    {f : State → LaneId → State × Status} (hl : l.val = lane.toNat) (hf : laneAction action = some f) :
    opLaneControl m tag lane action s = (f s l).1.answer m tag 0x0D (f s l).2 none [] := by
  simp [opLaneControl, finOf_val l lane.toNat hl, hf]

/-- The row of an offered LANE-CONTROL carries it out in the taken state. -/
theorem happens_laneControl_offered {s : State} {m : Master} {tag lane action : Byte}
    (h : Offered s m tag (.laneControl lane action)) (hrights : s.rights m = .full) :
    happens (hubEvent m tag (.laneControl lane action)) s =
      .next (opLaneControl m tag lane action (s.takenBy m)) :=
  happens_hubEvent_offered h hrights

/-- An offered LANE-CONTROL of a lane above 11 is INVALID with reason 1. -/
theorem happens_laneControl_noLane {s : State} {m : Master} {tag lane action : Byte}
    (h : Offered s m tag (.laneControl lane action)) (hrights : s.rights m = .full) (hlane : 11 < lane.toNat) :
    happens (hubEvent m tag (.laneControl lane action)) s =
      .next (s.answered m (answerOf tag 0x0D .invalid [1])) := by
  rw [happens_laneControl_offered h hrights, opLaneControl_noLane _ _ _ _ hlane]
  exact congrArg _ (answer_takenBy ..)

/-! ## AUTO-ON and AUTO-OFF (R103) -/

/-- An answer and one lane are written apart (R170). -/
theorem answer_modifyLane_takenBy (s : State) (m : Master) (l : LaneId) (f : Lane → Lane) (tag code : Byte)
    (status : Status) :
    ((s.takenBy m).modifyLane l f).answer m tag code status none [] =
      (s.answered m (answerOf tag code status [])).setLane l (f (s.lane l)) := by
  cases m <;> rfl

@[simp] theorem after_takenBy (s : State) (m : Master) (n : Nat) : (s.takenBy m).after n = s.after n := by
  cases m <;> rfl

section
variable {s : State} {m : Master} {tag lane : Byte} {l : LaneId}

/-- AUTO-ON of a lane that exists: the setting, and a retry time where a DOWN lane has none. -/
theorem exec_autoOn_lane (h : Offered s m tag (.laneControl lane 5)) (hrights : s.rights m = .full)
    (hl : l.val = lane.toNat) :
    exec (.autoOn m tag lane) s =
      .next ((s.answered m (answerOf tag 0x0D .ok [])).setLane l
        { s.lane l with
          autoRetrain := true
          retryTime := if (s.lane l).state = .down ∧ (s.lane l).retryTime = none then some (s.timebase + 100000)
            else (s.lane l).retryTime }) := by
  calc exec (.autoOn m tag lane) s
    _ = .next (opLaneControl m tag lane 5 (s.takenBy m)) := happens_laneControl_offered h hrights
    _ = .next (((s.takenBy m).autoOnLane l).1.answer m tag 0x0D .ok none []) := by
      rw [opLaneControl_lane (f := State.autoOnLane) _ _ _ hl rfl]; rfl
    _ = _ := by rw [State.autoOnLane, answer_modifyLane_takenBy, after_takenBy]; rfl

/-- AUTO-OFF of a lane that exists: the setting, and no retry time in DOWN. -/
theorem exec_autoOff_lane (h : Offered s m tag (.laneControl lane 6)) (hrights : s.rights m = .full)
    (hl : l.val = lane.toNat) :
    exec (.autoOff m tag lane) s =
      .next ((s.answered m (answerOf tag 0x0D .ok [])).setLane l
        { s.lane l with
          autoRetrain := false
          retryTime := if (s.lane l).state = .down then none else (s.lane l).retryTime }) := by
  calc exec (.autoOff m tag lane) s
    _ = .next (opLaneControl m tag lane 6 (s.takenBy m)) := happens_laneControl_offered h hrights
    _ = .next (((s.takenBy m).autoOffLane l).1.answer m tag 0x0D .ok none []) := by
      rw [opLaneControl_lane (f := State.autoOffLane) _ _ _ hl rfl]; rfl
    _ = _ := by rw [State.autoOffLane, answer_modifyLane_takenBy]

end

/-- Settles O31: the row's event in the taken state, then the retry time by the lane's state and whether it holds one. -/
theorem autoRetrainSetting : Obligations.AutoRetrainSetting := by
  intro s m tag lane hrights refused becomes
  refine ⟨fun hon => ⟨happens_laneControl_noLane hon hrights, fun l hl => ?_⟩,
    fun hoff => ⟨happens_laneControl_noLane hoff hrights, fun l hl => ?_⟩⟩
  · have hexec := exec_autoOn_lane hon hrights hl
    refine ⟨fun hnotDown => ?_, fun hdown hnone => ?_, fun hdown hsome => ?_⟩
    · rwa [if_neg fun h => hnotDown h.1] at hexec
    · rwa [if_pos ⟨hdown, hnone⟩] at hexec
    · rwa [if_neg fun h => hsome h.2] at hexec
  · have hexec := exec_autoOff_lane hoff hrights hl
    refine ⟨fun hnotDown => ?_, fun hdown => ?_⟩
    · rwa [if_neg hnotDown] at hexec
    · rwa [if_pos hdown] at hexec

end Sys2Proof.Machine
end

section
/-! SUPPORT. What a command can be: one of the reset pin's, an event of its row on the part as it runs, or an event of a
Lane Engine that may fall between the parts of a fabric reset. An invariant of every step is then one fact for each event. -/

namespace Sys2Proof.Machine

/-- The events of a Lane Engine that can end a leg or free a slot, which may fall between the parts of a fabric reset
(R80). -/
inductive LaneEnding : (State → State) → Prop
  | legBack (l : LaneId) (f : LegBackFrame) : LaneEnding (legBackEvent l f)
  | deviceHello (l : LaneId) (stations : Byte) : LaneEnding (deviceHelloEvent l stations)
  | laneLoss (l : LaneId) : LaneEnding (laneLossEvent l)
  | legExpiry (l : LaneId) (w : SlotId) : LaneEnding (legExpiryEvent l w)

/-- The events that come about on the part as it runs. The rows of the management operations are the intake's. -/
inductive Event : (State → State) → Prop
  | request (m : Master) (r : RawRequest) : Event (requestEvent m r)
  | credit (m : Master) (count : Byte) : Event (creditEvent m count)
  | masterHello (m : Master) (value : Byte) : Event (masterHelloEvent m value)
  | upIdle (m : Master) : Event (upIdleEvent m)
  | upBadCrc (m : Master) (symbols : List Symbol) : Event (upBadCrcEvent m symbols)
  | upMalformed (m : Master) (frame : List Byte) : Event (upMalformedFrameEvent m frame)
  | linkHelloInterval (m : Master) : Event (linkHelloIntervalEvent m)
  | linkTrainingFailure (m : Master) : Event (linkTrainingFailureEvent m)
  | linkRetry (m : Master) : Event (linkRetryEvent m)
  | linkKeepalive (m : Master) : Event (linkKeepaliveEvent m)
  | linkLoss (m : Master) : Event (linkLossEvent m)
  | transmitArbiter (m : Master) : Event (transmitArbiterEvent m)
  | intake : Event intakeEvent
  | laneIdle (l : LaneId) : Event (laneIdleEvent l)
  | laneBadCrc (l : LaneId) (symbols : List Symbol) : Event (laneBadCrcEvent l symbols)
  | laneMalformed (l : LaneId) (frame : List Byte) : Event (laneMalformedFrameEvent l frame)
  | laneHelloInterval (l : LaneId) : Event (laneHelloIntervalEvent l)
  | laneTrainingFailure (l : LaneId) : Event (laneTrainingFailureEvent l)
  | laneRetry (l : LaneId) : Event (laneRetryEvent l)
  | laneKeepalive (l : LaneId) : Event (laneKeepaliveEvent l)
  | issue (l : LaneId) : Event (issueEvent l)
  | laneTransmitterFree (l : LaneId) : Event (laneTransmitterFreeEvent l)
  | drainDeadline (k : ClaimId) : Event (drainDeadlineEvent k)
  | leaseExpiry (k : ClaimId) : Event (leaseExpiryEvent k)
  | atLane {f : State → State} (h : LaneEnding f) : Event f

/-- The commands of the events that may fall between the parts of a fabric reset. -/
def EndsAtLane (i : Instr) : Prop :=
  (∃ l f, i = .legBack l f) ∨ (∃ l stations, i = .deviceHello l stations) ∨ (∃ l, i = .laneLoss l) ∨
    ∃ l w, i = .legExpiry l w

/-- What a command can mean. -/
inductive Meaning : Instr → (State → Host.Outcome State Fault Refusal) → Prop
  | resetLow : Meaning .resetNLow (fun s => .next (resetLowEvent s))
  | holdEnd : Meaning .startUpHoldEnd (fun s => .next (startUpHoldEndEvent s))
  | rise : Meaning .resetNRise (fun s => .next (resetRiseEvent s))
  | runs {i : Instr} {f : State → State} (h : Event f) : Meaning i (happens f)
  | row {i : Instr} (m : Master) (tag : Byte) (op : HubOp) : Meaning i (happens (hubEvent m tag op))
  | atLane {i : Instr} {f : State → State} (hi : EndsAtLane i) (h : LaneEnding f) : Meaning i (happensAtLane f)

theorem exec_meaning (i : Instr) : Meaning i (Machine.exec i) := by
  cases i with
  | resetNLow => exact .resetLow
  | startUpHoldEnd => exact .holdEnd
  | resetNRise => exact .rise
  | request m r => exact .runs (.request m r)
  | credit m count => exact .runs (.credit m count)
  | masterHello m value => exact .runs (.masterHello m value)
  | upIdle m => exact .runs (.upIdle m)
  | upBadCrcFrame m symbols => exact .runs (.upBadCrc m symbols)
  | upMalformedFrame m frame => exact .runs (.upMalformed m frame)
  | linkHelloInterval m => exact .runs (.linkHelloInterval m)
  | linkTrainingFailure m => exact .runs (.linkTrainingFailure m)
  | linkRetry m => exact .runs (.linkRetry m)
  | linkKeepalive m => exact .runs (.linkKeepalive m)
  | linkLoss m => exact .runs (.linkLoss m)
  | transmitArbiter m => exact .runs (.transmitArbiter m)
  | intakeTake => exact .runs .intake
  | legBack l f => exact .atLane (.inl ⟨l, f, rfl⟩) (.legBack l f)
  | deviceHello l stations => exact .atLane (.inr (.inl ⟨l, stations, rfl⟩)) (.deviceHello l stations)
  | laneIdle l => exact .runs (.laneIdle l)
  | laneBadCrcFrame l symbols => exact .runs (.laneBadCrc l symbols)
  | laneMalformedFrame l frame => exact .runs (.laneMalformed l frame)
  | laneHelloInterval l => exact .runs (.laneHelloInterval l)
  | laneTrainingFailure l => exact .runs (.laneTrainingFailure l)
  | laneRetry l => exact .runs (.laneRetry l)
  | laneKeepalive l => exact .runs (.laneKeepalive l)
  | laneLoss l => exact .atLane (.inr (.inr (.inl ⟨l, rfl⟩))) (.laneLoss l)
  | legExpiry l w => exact .atLane (.inr (.inr (.inr ⟨l, w, rfl⟩))) (.legExpiry l w)
  | issue l => exact .runs (.issue l)
  | laneTransmitterFree l => exact .runs (.laneTransmitterFree l)
  | drainDeadline k => exact .runs (.drainDeadline k)
  | leaseExpiry k => exact .runs (.leaseExpiry k)
  | _ => exact .row _ _ _

/-! ## The induction over a step -/

/-- A state predicate that the reset pin, the passing of time, the parts of a fabric reset and every event keep. -/
structure Inductive (P : State → Prop) : Prop where
  queue    : ∀ s q, P s → P { s with pending := q }
  resetLow : ∀ s, P s → P (resetLowEvent s)
  rise     : ∀ s, P s → P (resetRiseEvent s)
  holdEnd  : ∀ s, P s → P (startUpHoldEndEvent s)
  time     : ∀ s, s.phase = .running → P s → P { s with timebase := s.timebase + 1 }
  hold     : ∀ s n k, s.phase = .holding n → P s → P { s with phase := .holding k }
  parts    : ∀ s before, s.phase = .resetting before → P s → P { s.resetLanes with phase := .running }
  event    : ∀ {f}, Event f → ∀ s, s.phase = .running → P s → P (f s)
  apart    : ∀ {f}, LaneEnding f → ∀ s before, s.phase = .resetting before → P s → P (f s)

/-- The four phases, with what the parts of a fabric reset that are due do in each. -/
theorem phase_cases (s : State) :
    s.Asleep ∨ s.phase = .running ∨ ∃ before, s.phase = .resetting before := by
  cases h : s.phase with
  | resetLow => exact .inl (.inl h)
  | holding n => exact .inl (.inr ⟨n, h⟩)
  | running => exact .inr (.inl rfl)
  | resetting before => exact .inr (.inr ⟨before, rfl⟩)

section
variable {P : State → Prop} (hP : Inductive P)
include hP

theorem Inductive.happens {f : State → State} (hf : ∀ s, s.phase = .running → P s → P (f s)) {s : State} (h : P s) :
    ∃ t, Machine.happens f s = .next t ∧ P t := by
  rcases phase_cases s with hs | hs | ⟨before, hs⟩
  · exact ⟨s, happens_held f s hs, h⟩
  · exact ⟨f s, happens_running f s hs, hf s hs h⟩
  · exact ⟨_, happens_resetting f s before hs, hf _ rfl (hP.parts s before hs h)⟩

theorem Inductive.happensAtLane {f : State → State} (hf : LaneEnding f) {s : State} (h : P s) :
    ∃ t, Machine.happensAtLane f s = .next t ∧ P t := by
  rcases phase_cases s with hs | hs | ⟨before, hs⟩
  · exact ⟨s, happensAtLane_held f s hs, h⟩
  · exact ⟨f s, happensAtLane_running f s hs, hP.event (.atLane hf) s hs h⟩
  · exact ⟨f s, happensAtLane_resetting f s before hs, hP.apart hf s before hs h⟩

theorem Inductive.exec (i : Instr) {s : State} (h : P s) : ∃ t, Machine.exec i s = .next t ∧ P t := by
  have hi := exec_meaning i
  generalize Machine.exec i = run at hi ⊢
  cases hi with
  | resetLow => exact ⟨_, rfl, hP.resetLow s h⟩
  | holdEnd => exact ⟨_, rfl, hP.holdEnd s h⟩
  | rise => exact ⟨_, rfl, hP.rise s h⟩
  | runs hf => exact hP.happens (hP.event hf) h
  | atLane _ hf => exact hP.happensAtLane hf h
  | row m tag op =>
    refine hP.happens (fun u hu hp => ?_) h
    unfold hubEvent
    split
    · exact hP.event .intake u hu hp
    · exact hp

theorem Inductive.passTime {s : State} (h : P s) : P s.passTime := by
  unfold State.passTime
  split
  next => exact h
  next n hs => exact hP.hold s n _ hs h
  next hs => exact hP.time s hs h
  next before hs =>
    have e : s.settle = { s.resetLanes with phase := .running } := by simp [State.settle, State.resetDue, hs]
    rw [e]; exact hP.parts s before hs h

/-- A predicate that every event keeps is kept by every step. -/
theorem Inductive.step {s t : State} (ht : Machine.step s = .next t) (h : P s) : P t := by
  have run : ∀ i u, P u → Machine.exec i u = .next t → P t := fun i u hu e => by
    obtain ⟨t', e', ht'⟩ := hP.exec i hu
    rw [e'] at e; cases e; exact ht'
  unfold Machine.step at ht
  split at ht
  · exact run _ _ (hP.queue _ _ h) ht
  · split at ht
    · exact run _ _ h ht
    · cases ht; exact hP.passTime h

end

/-! ## Lists of operations -/

/-- What every operation of a list keeps in order, the list keeps. -/
theorem foldl_rel {α : Type} {R : State → State → Prop} (hr : ∀ s, R s s) (ht : ∀ {s t u}, R s t → R t u → R s u)
    {f : State → α → State} (h : ∀ s a, R s (f s a)) (xs : List α) (s : State) : R s (xs.foldl f s) := by
  induction xs generalizing s with
  | nil => exact hr s
  | cons x xs ih => exact ht (h s x) (ih (f s x))

end Sys2Proof.Machine
end

section
/-! SUPPORT. How the legs of a context end (R61, R64, R67): one leg, or several with one outcome; and that a context's own
counts stay those of its legs (R62). -/

namespace Sys2Proof.Machine

/-! ## Legs -/

theorem Leg.unfinished_iff (g : Leg) : g.unfinished = true ↔ ∀ o, g.state ≠ .done o := by
  unfold Leg.unfinished Leg.outcome
  cases g.state <;> simp

theorem Leg.unfinished_done (g : Leg) (o : LegOutcome) (d : Option (List Word)) :
    Leg.unfinished { g with state := .done o, data := d } = false := rfl

theorem Leg.unfinished_of_state {g : Leg} {v : LegState} (h : g.state = v) (hv : ∀ o, v ≠ .done o) :
    g.unfinished = true := by
  rw [Leg.unfinished_iff, h]; exact hv

theorem Leg.failure_of_unfinished {g : Leg} (h : g.unfinished = true) : g.failure = none := by
  rw [Leg.unfinished_iff] at h
  unfold Leg.failure
  split
  next => rfl
  next o _ e => exact absurd e (h o)
  next => rfl

theorem Leg.failure_done (g : Leg) {o : LegOutcome} (ho : o ≠ .ok) (d : Option (List Word)) :
    Leg.failure { g with state := .done o, data := d } = some (g.target, o) := by
  cases o with
  | ok => exact absurd rfl ho
  | _ => rfl

/-- A leg list in ascending target ID (R58). -/
def Ascending (legs : List Leg) : Prop := (legs.map Leg.target).Pairwise (· < ·)

theorem ascending_cons {g : Leg} {gs : List Leg} : Ascending (g :: gs) ↔ (∀ h ∈ gs, g.target < h.target) ∧ Ascending gs := by
  simp [Ascending]

/-- Changing legs without their targets keeps the order. -/
theorem ascending_map {legs : List Leg} {f : Leg → Leg} (hf : ∀ g, (f g).target = g.target) :
    Ascending (legs.map f) ↔ Ascending legs := by
  have e : (legs.map f).map Leg.target = legs.map Leg.target := by simp [Function.comp_def, hf]
  rw [Ascending, e, Ascending]

/-- A list in ascending target ID has one leg to a target. -/
theorem Ascending.eq_of_target {legs : List Leg} (h : Ascending legs) {g g' : Leg} (hg : g ∈ legs) (hg' : g' ∈ legs)
    (e : g.target = g'.target) : g = g' := by
  induction legs with
  | nil => cases hg
  | cons k ks ih =>
    obtain ⟨hlt, hks⟩ := ascending_cons.1 h
    rcases List.mem_cons.1 hg with e1 | h1 <;> rcases List.mem_cons.1 hg' with e2 | h2
    · rw [e1, e2]
    · exact absurd (hlt g' h2) (by rw [← e1, e]; exact lt_irrefl _)
    · exact absurd (hlt g h1) (by rw [← e2, e]; exact lt_irrefl _)
    · exact ih hks h1 h2

theorem Ctx.leg_eq_some {x : Ctx} {t : Target} {g : Leg} (h : x.leg t = some g) : g ∈ x.legs ∧ g.target = t :=
  ⟨List.mem_of_find?_eq_some h, by simpa using List.find?_some h⟩

/-- In ascending order the leg to a target is the one that the list holds. -/
theorem Ctx.leg_of_mem {x : Ctx} (h : Ascending x.legs) {g : Leg} (hg : g ∈ x.legs) : x.leg g.target = some g := by
  cases hl : x.leg g.target with
  | none => exact absurd hg (by simpa [Ctx.leg] using List.find?_eq_none.1 hl g)
  | some g' =>
    obtain ⟨hm, ht⟩ := Ctx.leg_eq_some hl
    rw [h.eq_of_target hm hg ht]

/-! ## Legs that end with an outcome that is not OK -/

/-- A context after the unfinished legs that `gone` names have ended with this outcome. -/
def Ctx.endWhere (x : Ctx) (gone : Leg → Bool) (o : LegOutcome) : Ctx :=
  let legs := x.legs.map (fun g => if g.unfinished && gone g then { g with state := .done o, data := none } else g)
  { x with
    legs := legs
    unfinished := x.legs.countP (fun g => g.unfinished && !gone g)
    firstFailure := legs.findSome? Leg.failure }

/-- One leg of the list, ended where `gone` names it. -/
def Leg.endIf (gone : Leg → Bool) (o : LegOutcome) (g : Leg) : Leg :=
  if g.unfinished && gone g then { g with state := .done o, data := none } else g

theorem Ctx.endWhere_legs (x : Ctx) (gone : Leg → Bool) (o : LegOutcome) :
    (x.endWhere gone o).legs = x.legs.map (Leg.endIf gone o) := rfl

theorem Leg.endIf_target (gone : Leg → Bool) (o : LegOutcome) (g : Leg) : (g.endIf gone o).target = g.target := by
  unfold Leg.endIf; split <;> rfl

theorem Leg.endIf_lane (gone : Leg → Bool) (o : LegOutcome) (g : Leg) : (g.endIf gone o).lane = g.lane := by
  unfold Leg.endIf; split <;> rfl

theorem Leg.endIf_unfinished (gone : Leg → Bool) (o : LegOutcome) (g : Leg) :
    (g.endIf gone o).unfinished = (g.unfinished && !gone g) := by
  unfold Leg.endIf
  cases hu : g.unfinished <;> cases hg : gone g <;> simp [hu, Leg.unfinished_done]

theorem Leg.endIf_of_unfinished {gone : Leg → Bool} {o : LegOutcome} {g : Leg}
    (h : (g.endIf gone o).unfinished = true) : g.endIf gone o = g := by
  rw [Leg.endIf_unfinished] at h
  unfold Leg.endIf
  simp only [Bool.and_eq_true, Bool.not_eq_true'] at h
  simp [h.2]

/-- A leg that ends with another outcome than OK is OK no more than before. -/
theorem Leg.endIf_ok {gone : Leg → Bool} {o : LegOutcome} (ho : o ≠ .ok) (g : Leg) :
    (g.endIf gone o).state = .done .ok ↔ g.state = .done .ok := by
  unfold Leg.endIf
  split
  next h =>
    rw [Bool.and_eq_true, Leg.unfinished_iff] at h
    exact ⟨fun e => absurd (LegState.done.inj e) ho, fun e => absurd e (h.1 _)⟩
  next => rfl

theorem Leg.endIf_of_ok {gone : Leg → Bool} {o : LegOutcome} {g : Leg} (h : g.state = .done .ok) :
    g.endIf gone o = g := by
  have hu : g.unfinished = false := by
    rw [Bool.eq_false_iff, ne_eq, Leg.unfinished_iff]; exact fun hn => hn _ h
  simp [Leg.endIf, hu]

theorem Leg.endIf_endIf (gone gone' : Leg → Bool) (o : LegOutcome) (g : Leg) :
    (g.endIf gone o).endIf gone' o = g.endIf (fun h => gone h || gone' h) o := by
  by_cases h : (g.endIf gone o).unfinished = true
  · rw [Leg.endIf_of_unfinished h]
    rw [Leg.endIf_unfinished, Bool.and_eq_true, Bool.not_eq_true'] at h
    simp [Leg.endIf, h.2]
  · have e : ∀ k : Leg, k.unfinished = false → k.endIf gone' o = k := fun k hk => by simp [Leg.endIf, hk]
    rw [Bool.not_eq_true] at h
    rw [e _ h]
    rw [Leg.endIf_unfinished, Bool.and_eq_false_iff, Bool.not_eq_false'] at h
    rcases h with h | h <;> simp [Leg.endIf, h]

theorem Ctx.endWhere_endWhere (x : Ctx) (gone gone' : Leg → Bool) (o : LegOutcome) :
    (x.endWhere gone o).endWhere gone' o = x.endWhere (fun h => gone h || gone' h) o := by
  have hlegs : ((x.endWhere gone o).endWhere gone' o).legs = (x.endWhere (fun h => gone h || gone' h) o).legs := by
    simp only [Ctx.endWhere_legs, List.map_map]
    exact List.map_congr_left fun g _ => Leg.endIf_endIf gone gone' o g
  have hcount : ((x.endWhere gone o).endWhere gone' o).unfinished =
      (x.endWhere (fun h => gone h || gone' h) o).unfinished := by
    change (List.map (Leg.endIf gone o) x.legs).countP (fun g => g.unfinished && !gone' g) = _
    rw [List.countP_map]
    refine List.countP_congr fun g _ => ?_
    change ((g.endIf gone o).unfinished && !gone' (g.endIf gone o)) = true ↔ _
    by_cases h : (g.endIf gone o).unfinished = true
    · rw [Leg.endIf_of_unfinished h]
      rw [Leg.endIf_unfinished, Bool.and_eq_true, Bool.not_eq_true'] at h
      simp [h.2]
    · rw [Leg.endIf_unfinished] at h
      simp only [Leg.endIf_unfinished, Bool.not_or]
      rw [← Bool.and_assoc]
      simp [h]
  have hff : ((x.endWhere gone o).endWhere gone' o).firstFailure =
      (x.endWhere (fun h => gone h || gone' h) o).firstFailure := congrArg (List.findSome? Leg.failure) hlegs
  change Ctx.mk _ _ _ _ _ _ _ _ _ _ _ _ _ = Ctx.mk _ _ _ _ _ _ _ _ _ _ _ _ _
  rw [Ctx.mk.injEq]
  exact ⟨rfl, rfl, rfl, rfl, rfl, rfl, rfl, hlegs, hcount, rfl, hff, rfl, rfl⟩

/-- Where no unfinished leg is named, a context whose counts are right stays as it is. -/
theorem Ctx.endWhere_none {x : Ctx} (h : x.Counted) {gone : Leg → Bool} (hgone : ∀ g ∈ x.legs, g.unfinished = true → gone g = false)
    (o : LegOutcome) : x.endWhere gone o = x := by
  obtain ⟨-, hunfinished, -, -, hff, -⟩ := h
  have hlegs : x.legs.map (Leg.endIf gone o) = x.legs := by
    refine (List.map_congr_left fun g hg => ?_).trans (List.map_id _)
    change Leg.endIf gone o g = g
    cases hu : g.unfinished with
    | false => simp [Leg.endIf, hu]
    | true => simp [Leg.endIf, hgone g hg hu]
  have hcount : x.legs.countP (fun g => g.unfinished && !gone g) = x.unfinished := by
    rw [hunfinished]
    refine List.countP_congr fun g hg => ?_
    cases hu : g.unfinished with
    | false => simp
    | true => simp [hgone g hg hu]
  change Ctx.mk _ _ _ _ _ _ _ (x.legs.map (Leg.endIf gone o)) _ _ ((x.legs.map (Leg.endIf gone o)).findSome? _) _ _ = x
  rw [hcount, hlegs, ← hff]

theorem Ctx.endWhere_congr {x : Ctx} {gone gone' : Leg → Bool} (o : LegOutcome)
    (h : ∀ g ∈ x.legs, g.unfinished = true → gone g = gone' g) : x.endWhere gone o = x.endWhere gone' o := by
  have hlegs : x.legs.map (Leg.endIf gone o) = x.legs.map (Leg.endIf gone' o) := List.map_congr_left fun g hg => by
    cases hu : g.unfinished with
    | false => simp [Leg.endIf, hu]
    | true => simp [Leg.endIf, h g hg hu]
  have hcount : x.legs.countP (fun g => g.unfinished && !gone g) = x.legs.countP (fun g => g.unfinished && !gone' g) :=
    List.countP_congr fun g hg => by
      cases hu : g.unfinished with
      | false => simp
      | true => simp [h g hg hu]
  change Ctx.mk _ _ _ _ _ _ _ (x.legs.map (Leg.endIf gone o)) _ _ ((x.legs.map (Leg.endIf gone o)).findSome? _) _ _ =
    Ctx.mk _ _ _ _ _ _ _ (x.legs.map (Leg.endIf gone' o)) _ _ ((x.legs.map (Leg.endIf gone' o)).findSome? _) _ _
  rw [hcount, hlegs]

theorem countP_endIf_ok {gone : Leg → Bool} {o : LegOutcome} (ho : o ≠ .ok) (legs : List Leg) :
    (legs.map (Leg.endIf gone o)).countP (fun g => g.state = .done .ok) = legs.countP (fun g => g.state = .done .ok) := by
  rw [List.countP_map]
  exact List.countP_congr fun g _ => by simpa using Leg.endIf_ok ho g

theorem find?_endIf_ok {gone : Leg → Bool} {o : LegOutcome} (ho : o ≠ .ok) (legs : List Leg) :
    (legs.map (Leg.endIf gone o)).find? (fun g => g.state = .done .ok) = legs.find? (fun g => g.state = .done .ok) := by
  induction legs with
  | nil => rfl
  | cons g gs ih =>
    rw [List.map_cons]
    by_cases h : g.state = .done .ok
    · rw [Leg.endIf_of_ok h, List.find?_cons_of_pos (by simpa using h), List.find?_cons_of_pos (by simpa using h)]
    · rw [List.find?_cons_of_neg (by simpa [Leg.endIf_ok ho g] using h), List.find?_cons_of_neg (by simpa using h), ih]

/-- What a context tallies of its DONE legs: legs OK, first failure and, for MATCH, the accumulator (R64, R67). -/
def Ctx.Tallied (x : Ctx) : Prop :=
  x.legsOk = x.legs.countP (fun g => g.state = .done .ok) ∧ x.firstFailure = x.legs.findSome? Leg.failure ∧
    (x.kind = .gread .matching → x.state ≠ .orphan →
      x.accumulator = (x.legs.find? (fun g => g.state = .done .ok)).bind Leg.data ∧
      ∀ g ∈ x.legs, g.state = .done .ok → g.data ≠ none)

theorem Ctx.Counted.endWhere_tallied {x : Ctx} (h : x.Counted) {gone : Leg → Bool} {o : LegOutcome} (ho : o ≠ .ok) :
    (x.endWhere gone o).Tallied := by
  obtain ⟨-, -, -, hok, -, hmatch⟩ := h
  refine ⟨?_, rfl, fun hk hs => ⟨?_, fun g hg hg' => ?_⟩⟩
  · rw [Ctx.endWhere_legs, countP_endIf_ok ho]; exact hok
  · rw [Ctx.endWhere_legs, find?_endIf_ok ho]; exact (hmatch hk hs).1
  · rw [Ctx.endWhere_legs] at hg
    obtain ⟨g0, h0, rfl⟩ := List.mem_map.1 hg
    rw [Leg.endIf_ok ho] at hg'
    rw [Leg.endIf_of_ok hg']
    exact (hmatch hk hs).2 g0 h0 hg'

/-- The counts of a context that keeps an unfinished leg are right again. -/
theorem Ctx.Counted.endWhere {x : Ctx} (h : x.Counted) {gone : Leg → Bool} {o : LegOutcome} (ho : o ≠ .ok)
    (hleft : 0 < x.legs.countP (fun g => g.unfinished && !gone g)) : (x.endWhere gone o).Counted := by
  refine ⟨(ascending_map (Leg.endIf_target gone o)).2 h.1, ?_, hleft, h.endWhere_tallied ho⟩
  rw [Ctx.endWhere_legs, List.countP_map]
  exact List.countP_congr fun g _ => by simp [Leg.endIf_unfinished]

/-! ## One leg that ends (R61 steps 1 to 4) -/

/-- One leg of the list, ended where it goes to this target. -/
def Leg.endAt (t : Target) (o : LegOutcome) (d : Option (List Word)) (g : Leg) : Leg :=
  if g.target = t then { g with state := .done o, data := d } else g

theorem Leg.endAt_target (t : Target) (o : LegOutcome) (d : Option (List Word)) (g : Leg) :
    (g.endAt t o d).target = g.target := by
  unfold Leg.endAt; split <;> rfl

theorem Leg.endAt_same {t : Target} {g : Leg} (h : g.target = t) (o : LegOutcome) (d : Option (List Word)) :
    g.endAt t o d = { g with state := .done o, data := d } := if_pos h

theorem Leg.endAt_other {t : Target} {g : Leg} (h : g.target ≠ t) (o : LegOutcome) (d : Option (List Word)) :
    g.endAt t o d = g := if_neg h

/-- The data that a leg keeps when it ends (the table of R65). -/
def Ctx.kept (x : Ctx) (o : LegOutcome) (ws : List Word) : Option (List Word) :=
  if o = .ok ∧ x.tag.isSome ∧ x.kind.keepsData then some ws else none

theorem Ctx.endLeg_legs (x : Ctx) (t : Target) (o : LegOutcome) (ws : List Word) :
    (x.endLeg t o ws).legs = x.legs.map (Leg.endAt t o (x.kept o ws)) := rfl

theorem endAt_map_of_absent {t : Target} {legs : List Leg} (h : ∀ g ∈ legs, g.target ≠ t) (o : LegOutcome)
    (d : Option (List Word)) : legs.map (Leg.endAt t o d) = legs :=
  (List.map_congr_left fun g hg => Leg.endAt_other (h g hg) o d).trans (List.map_id _)

/-- A predicate that says the same of a leg that does not end counts one leg less, or one more. -/
theorem countP_endAt {p : Leg → Bool} {t : Target} {o : LegOutcome} {d : Option (List Word)} {legs : List Leg}
    (hasc : Ascending legs) {g : Leg} (hg : g ∈ legs) (ht : g.target = t) :
    (legs.map (Leg.endAt t o d)).countP p + (if p g = true then 1 else 0) =
      legs.countP p + (if p { g with state := .done o, data := d } = true then 1 else 0) := by
  induction legs with
  | nil => cases hg
  | cons k ks ih =>
    obtain ⟨hlt, hks⟩ := ascending_cons.1 hasc
    rw [List.map_cons, List.countP_cons, List.countP_cons]
    rcases List.mem_cons.1 hg with rfl | hg
    · rw [endAt_map_of_absent (fun h hh => by rw [← ht]; exact (hlt h hh).ne'), Leg.endAt_same ht]
      omega
    · have hne : k.target ≠ t := by rw [← ht]; exact (hlt g hg).ne
      rw [Leg.endAt_other hne]
      have := ih hks hg
      omega

theorem mem_of_findSome?_failure {legs : List Leg} {u : Target} {p : LegOutcome}
    (h : legs.findSome? Leg.failure = some (u, p)) : ∃ g ∈ legs, g.target = u := by
  obtain ⟨g, hg, e⟩ := List.exists_of_findSome?_eq_some h
  refine ⟨g, hg, ?_⟩
  unfold Leg.failure at e
  split at e
  · cases e
  · cases e; rfl
  · cases e

/-- First failure stays the lowest target ID that failed (R64). -/
theorem nextFirstFailure_endAt {t : Target} {o : LegOutcome} {d : Option (List Word)} {legs : List Leg}
    (hasc : Ascending legs) {g : Leg} (hg : g ∈ legs) (ht : g.target = t) (hu : g.unfinished = true) :
    nextFirstFailure (legs.findSome? Leg.failure) t o = (legs.map (Leg.endAt t o d)).findSome? Leg.failure := by
  induction legs with
  | nil => cases hg
  | cons k ks ih =>
    obtain ⟨hlt, hks⟩ := ascending_cons.1 hasc
    rw [List.map_cons, List.findSome?_cons, List.findSome?_cons]
    rcases List.mem_cons.1 hg with rfl | hg
    · rw [Leg.failure_of_unfinished hu, Leg.endAt_same ht,
        endAt_map_of_absent fun h hh => by rw [← ht]; exact (hlt h hh).ne']
      by_cases ho : o = .ok
      · subst ho; simp [nextFirstFailure, Leg.failure]
      · rw [Leg.failure_done _ ho]
        unfold nextFirstFailure
        rw [if_neg ho, ht]
        split
        next u p e =>
          obtain ⟨h, hh, rfl⟩ := mem_of_findSome?_failure e
          rw [if_pos (by rw [← ht]; exact hlt h hh)]
        next => rfl
    · have hne : k.target < t := by rw [← ht]; exact hlt g hg
      rw [Leg.endAt_other hne.ne]
      cases hk : k.failure with
      | none => exact ih hks hg
      | some up =>
        obtain ⟨u, p⟩ := up
        have hu : u = k.target := by
          unfold Leg.failure at hk
          split at hk <;> cases hk
          rfl
        rw [hu]
        simp [nextFirstFailure, hne.le]

/-- The lowest OK leg and the accumulator of a MATCH (R67): an OK leg below stays the lowest, another becomes it. -/
theorem find?_ok_endAt {t : Target} {d : Option (List Word)} {legs : List Leg} (hasc : Ascending legs) {g : Leg}
    (hg : g ∈ legs) (ht : g.target = t) :
    (legs.map (Leg.endAt t .ok d)).find? (fun h => h.state = .done .ok) =
      if legs.any (fun h => h.target < t && h.state == .done .ok) then legs.find? (fun h => h.state = .done .ok)
      else some { g with state := .done .ok, data := d } := by
  induction legs with
  | nil => cases hg
  | cons k ks ih =>
    obtain ⟨hlt, hks⟩ := ascending_cons.1 hasc
    rw [List.map_cons, List.any_cons]
    rcases List.mem_cons.1 hg with rfl | hg
    · have hnone : ks.any (fun h => h.target < t && h.state == .done .ok) = false := by
        rw [List.any_eq_false]
        intro h hh
        simp [not_lt.2 (ht ▸ (hlt h hh).le)]
      rw [Leg.endAt_same ht, List.find?_cons_of_pos (by simp), hnone]
      simp [ht]
    · have hne : k.target < t := by rw [← ht]; exact hlt g hg
      rw [Leg.endAt_other hne.ne]
      by_cases hk : k.state = .done .ok
      · rw [List.find?_cons_of_pos (by simpa using hk), List.find?_cons_of_pos (by simpa using hk)]
        simp [hk, hne]
      · rw [List.find?_cons_of_neg (by simpa using hk), List.find?_cons_of_neg (by simpa using hk), ih hks hg]
        simp [hk]

/-- A leg that ends with another outcome than OK ends as one of several may. -/
theorem Ctx.endLeg_eq_endWhere {x : Ctx} (h : x.Counted) {t : Target} {g : Leg} (hg : x.leg t = some g)
    (hu : g.unfinished = true) {o : LegOutcome} (ho : o ≠ .ok) (ws : List Word) :
    x.endLeg t o ws = x.endWhere (fun g => g.target == t) o := by
  obtain ⟨hasc, hunfinished, -, -, hff, -⟩ := h
  obtain ⟨hmem, ht⟩ := Ctx.leg_eq_some hg
  have hkept : x.kept o ws = none := by simp [Ctx.kept, ho]
  have hsame : x.legs.map (Leg.endAt t o none) = x.legs.map (Leg.endIf (fun g => g.target == t) o) :=
    List.map_congr_left fun k hk => by
      unfold Leg.endAt Leg.endIf
      by_cases e : k.target = t
      · have : k = g := Ascending.eq_of_target hasc hk hmem (e.trans ht.symm)
        simp [this, ht, hu]
      · simp [e]
  have hcount : x.unfinished - 1 = x.legs.countP (fun g => g.unfinished && !(g.target == t)) := by
    have e := countP_endAt (p := Leg.unfinished) (o := o) (d := none) hasc hmem ht
    rw [hsame, List.countP_map, hu, Leg.unfinished_done, ← hunfinished] at e
    have hc : x.legs.countP (Leg.unfinished ∘ Leg.endIf (fun g => g.target == t) o) =
        x.legs.countP (fun g => g.unfinished && !(g.target == t)) :=
      List.countP_congr fun k _ => by simp [Leg.endIf_unfinished]
    rw [hc] at e
    simp only [if_true, Bool.false_eq_true, if_false] at e
    omega
  have hfirst : nextFirstFailure x.firstFailure t o =
      (x.legs.map (Leg.endIf (fun g => g.target == t) o)).findSome? Leg.failure := by
    rw [hff, nextFirstFailure_endAt (d := none) hasc hmem ht hu, hsame]
  change Ctx.mk _ _ _ _ _ _ _ (x.legs.map (Leg.endAt t o (x.kept o ws))) (x.unfinished - 1) _
      (nextFirstFailure x.firstFailure t o) _ _ =
    Ctx.mk _ _ _ _ _ _ _ (x.legs.map (Leg.endIf (fun g => g.target == t) o)) _ _ _ _ _
  rw [hkept, hsame, hcount, hfirst, if_neg ho, if_neg fun h => ho h.1]
  rfl

theorem Ctx.tag_isSome {x : Ctx} (h : x.state ≠ .orphan) : x.tag.isSome = true := by
  unfold Ctx.tag
  split
  · rfl
  next e => exact absurd e h

theorem Ctx.nextAccumulator_matching {x : Ctx} (hk : x.kind = .gread .matching) (t : Target) (ws : List Word) :
    x.nextAccumulator t ws = if x.lowerOk t then x.accumulator else some ws := by
  unfold Ctx.nextAccumulator
  rw [hk]

theorem Ctx.Counted.endLeg_ok_tallied {x : Ctx} (h : x.Counted) {t : Target} {g : Leg} (hg : x.leg t = some g)
    (hu : g.unfinished = true) (ws : List Word) : (x.endLeg t .ok ws).Tallied := by
  obtain ⟨hasc, -, -, hok, hff, hmatch⟩ := h
  obtain ⟨hmem, ht⟩ := Ctx.leg_eq_some hg
  have hnotOk : g.state ≠ .done .ok := (Leg.unfinished_iff g).1 hu _
  refine ⟨?_, ?_, fun hk hs => ?_⟩
  · have e := countP_endAt (p := fun g => decide (g.state = .done .ok)) (o := .ok) (d := x.kept .ok ws) hasc hmem ht
    simp only [hnotOk, decide_false, Bool.false_eq_true, if_false, decide_true, if_true] at e
    change x.legsOk + 1 = _
    rw [Ctx.endLeg_legs, hok]; omega
  · change nextFirstFailure x.firstFailure t .ok = _
    rw [hff, Ctx.endLeg_legs]
    exact nextFirstFailure_endAt hasc hmem ht hu
  · have hk' : x.kind = .gread .matching := hk
    have hs' : x.state ≠ .orphan := hs
    obtain ⟨hacc, hdata⟩ := hmatch hk' hs'
    have hkept : x.kept .ok ws = some ws := by simp [Ctx.kept, Ctx.tag_isSome hs', hk', Kind.keepsData]
    rw [Ctx.endLeg_legs, hkept]
    refine ⟨?_, fun k hk2 hkok => ?_⟩
    · have e : (x.endLeg t .ok ws).accumulator = x.nextAccumulator t ws := by
        change (if LegOutcome.ok = .ok ∧ x.tag.isSome = true then _ else _) = _
        rw [if_pos ⟨rfl, Ctx.tag_isSome hs'⟩]
      rw [e, Ctx.nextAccumulator_matching hk', find?_ok_endAt hasc hmem ht, hacc]
      unfold Ctx.lowerOk
      split <;> rfl
    · obtain ⟨k0, hk0, rfl⟩ := List.mem_map.1 hk2
      by_cases e : k0.target = t
      · rw [Leg.endAt_same e]; exact Option.some_ne_none ws
      · rw [Leg.endAt_other e] at hkok ⊢
        exact hdata k0 hk0 hkok

/-- A context tallies the legs that have ended, the last one too. -/
theorem Ctx.Counted.endLeg_tallied {x : Ctx} (h : x.Counted) {t : Target} {g : Leg} (hg : x.leg t = some g)
    (hu : g.unfinished = true) (o : LegOutcome) (ws : List Word) : (x.endLeg t o ws).Tallied := by
  by_cases ho : o = .ok
  · rw [ho]; exact h.endLeg_ok_tallied hg hu ws
  · rw [Ctx.endLeg_eq_endWhere h hg hu ho]; exact h.endWhere_tallied ho

/-- The counts of a context that keeps an unfinished leg after one ended OK are right again. -/
theorem Ctx.Counted.endLeg_ok {x : Ctx} (h : x.Counted) {t : Target} {g : Leg} (hg : x.leg t = some g)
    (hu : g.unfinished = true) (ws : List Word) (hleft : (x.endLeg t .ok ws).unfinished ≠ 0) :
    (x.endLeg t .ok ws).Counted := by
  obtain ⟨hmem, ht⟩ := Ctx.leg_eq_some hg
  refine ⟨(ascending_map (Leg.endAt_target t .ok _)).2 h.1, ?_, Nat.pos_of_ne_zero hleft, h.endLeg_ok_tallied hg hu ws⟩
  have e := countP_endAt (p := Leg.unfinished) (o := .ok) (d := x.kept .ok ws) h.1 hmem ht
  rw [hu, Leg.unfinished_done, ← h.2.1] at e
  simp only [if_true, Bool.false_eq_true, if_false] at e
  change x.unfinished - 1 = _
  rw [Ctx.endLeg_legs]; omega

end Sys2Proof.Machine
end

section
/-! SUPPORT. What completions do to the contexts (R61, R68, R72, R81), and where the legs then stand (R60). -/

namespace Sys2Proof.Machine

/-! ## One completion -/

theorem ctx_of_contexts {s t : State} (h : t.contexts = s.contexts) (c : CtxId) : t.ctx c = s.ctx c := by
  unfold State.ctx; rw [h]

theorem fillSlot_contexts (s : State) (m : Master) (r : Response) : (s.fillSlot m r).contexts = s.contexts := by
  simp [State.fillSlot, State.modifyPort]

theorem endContext_ctx (s : State) (c d : CtxId) (x : Ctx) :
    (s.endContext c x).ctx d = if d = c then none else s.ctx d := by
  unfold State.endContext
  split
  · rw [ctx_of_contexts (fillSlot_contexts ..), State.ctx_setCtx]
  · rw [State.ctx_setCtx]

section
variable {s : State} {r : LegRef} {o : LegOutcome} {ws : List Word} {x : Ctx} {g : Leg}

/-- A completion that finds its unfinished leg (R61). -/
theorem complete_eq (hx : s.ctx r.ctx = some x) (hg : x.leg r.target = some g) (hu : g.unfinished = true) :
    s.complete r o ws =
      (let x' := x.endLeg r.target o ws
       let s' := (s.setCtx r.ctx (some x')).takeOutcome x.master r.target o
       if x'.unfinished = 0 then s'.endContext r.ctx x' else s') := by
  simp [State.complete, hx, hg, hu]

theorem complete_ctx (hx : s.ctx r.ctx = some x) (hg : x.leg r.target = some g) (hu : g.unfinished = true) (d : CtxId) :
    (s.complete r o ws).ctx d =
      if d = r.ctx then
        if (x.endLeg r.target o ws).unfinished = 0 then none else some (x.endLeg r.target o ws)
      else s.ctx d := by
  rw [complete_eq hx hg hu]
  dsimp only
  split
  · rw [endContext_ctx, ctx_of_contexts (takeOutcome_contexts ..), State.ctx_setCtx]
    split <;> rfl
  · rw [ctx_of_contexts (takeOutcome_contexts ..), State.ctx_setCtx]

/-- A completion that finds no unfinished leg is discarded (R60). -/
theorem complete_discarded
    (h : ∀ x g, s.ctx r.ctx = some x → x.leg r.target = some g → g.unfinished = false) : s.complete r o ws = s := by
  unfold State.complete
  split
  next x hx =>
    split
    next g hg => rw [h x g hx hg]; rfl
    next => rfl
  next => rfl

/-- Either a completion is discarded or it finds its leg. -/
theorem complete_cases (s : State) (r : LegRef) :
    (∀ x g, s.ctx r.ctx = some x → x.leg r.target = some g → g.unfinished = false) ∨
      ∃ x g, s.ctx r.ctx = some x ∧ x.leg r.target = some g ∧ g.unfinished = true := by
  by_cases h : ∃ x g, s.ctx r.ctx = some x ∧ x.leg r.target = some g ∧ g.unfinished = true
  · exact .inr h
  · exact .inl fun x g hx hg => by
      rw [← Bool.not_eq_true]
      exact fun hu => h ⟨x, g, hx, hg, hu⟩

end

/-- A FREE context stays FREE at a completion. -/
theorem complete_free {s : State} {c : CtxId} (h : s.ctx c = none) (r : LegRef) (o : LegOutcome) (ws : List Word) :
    (s.complete r o ws).ctx c = none := by
  rcases complete_cases s r with hd | ⟨x, g, hx, hg, hu⟩
  · rw [complete_discarded hd, h]
  · rw [complete_ctx hx hg hu]
    split
    next e => rw [← e, h] at hx; cases hx
    next => exact h

theorem completeAll_free {s : State} {c : CtxId} (h : s.ctx c = none) (rs : List LegRef) (o : LegOutcome) :
    (s.completeAll rs o).ctx c = none := by
  induction rs generalizing s with
  | nil => exact h
  | cons r rs ih => exact ih (complete_free h r o [])

theorem fallAll_contexts (ps : List (Master × Target)) (s : State) : (s.fallAll ps).contexts = s.contexts := by
  refine foldl_rel (R := fun s t => t.contexts = s.contexts) (fun _ => rfl) (fun h k => k.trans h) (fun s p => ?_) ps s
  unfold State.slotFreed
  split
  · rfl
  · exact fall_contexts ..

/-! ## Contexts with the right counts -/

/-- Every context's counts are those of its legs (R62, R64, R67). -/
def State.Counts (s : State) : Prop := ∀ c x, s.ctx c = some x → x.Counted

theorem Ctx.Counted.ascending {x : Ctx} (h : x.Counted) : Ascending x.legs := h.1

/-- The unfinished legs that stay when the ones that `gone` names end. -/
def Ctx.left (x : Ctx) (gone : Leg → Bool) : Nat := x.legs.countP (fun g => g.unfinished && !gone g)

/-- A context after legs of it have ended: FREE with no unfinished leg left (R68, R72). -/
def Ctx.afterEnd (x : Ctx) (gone : Leg → Bool) (o : LegOutcome) : Option Ctx :=
  if x.left gone = 0 then none else some (x.endWhere gone o)

theorem Ctx.afterEnd_none {x : Ctx} (h : x.Counted) {gone : Leg → Bool}
    (hgone : ∀ g ∈ x.legs, g.unfinished = true → gone g = false) (o : LegOutcome) : x.afterEnd gone o = some x := by
  have e := Ctx.endWhere_none h hgone o
  have hl : x.left gone = x.unfinished := congrArg Ctx.unfinished e
  obtain ⟨-, -, hpos, -⟩ := h
  unfold Ctx.afterEnd
  rw [hl, if_neg hpos.ne', e]

theorem Ctx.afterEnd_bind (x : Ctx) (gone gone' : Leg → Bool) (o : LegOutcome) :
    ((x.afterEnd gone o).bind fun y => y.afterEnd gone' o) = x.afterEnd (fun g => gone g || gone' g) o := by
  have e := Ctx.endWhere_endWhere x gone gone' o
  have hl : (x.endWhere gone o).left gone' = x.left (fun g => gone g || gone' g) := congrArg Ctx.unfinished e
  unfold Ctx.afterEnd
  split
  next h0 =>
    have h1 : x.left (fun g => gone g || gone' g) ≤ x.left gone := List.countP_mono_left fun g _ h => by
      simp only [Bool.not_or, Bool.and_eq_true] at h ⊢
      exact ⟨h.1, h.2.1⟩
    rw [if_pos (by omega)]; rfl
  next => rw [Option.bind_some, hl, e]

theorem Ctx.afterEnd_congr {x : Ctx} {gone gone' : Leg → Bool} (o : LegOutcome)
    (h : ∀ g ∈ x.legs, g.unfinished = true → gone g = gone' g) : x.afterEnd gone o = x.afterEnd gone' o := by
  have e := Ctx.endWhere_congr o h
  have hl : x.left gone = x.left gone' := congrArg Ctx.unfinished e
  unfold Ctx.afterEnd
  rw [hl, e]

/-- One completion with another outcome than OK, at every context. -/
theorem complete_ctx_ended {s : State} (hc : s.Counts) {o : LegOutcome} (ho : o ≠ .ok) (r : LegRef) (ws : List Word)
    (c : CtxId) :
    (s.complete r o ws).ctx c = (s.ctx c).bind fun x => x.afterEnd (fun g => decide (⟨c, g.target⟩ = r)) o := by
  obtain ⟨rc, rt⟩ := r
  rcases complete_cases s ⟨rc, rt⟩ with hd | ⟨x, g, hx, hg, hu⟩
  · rw [complete_discarded hd]
    cases hx : s.ctx c with
    | none => rfl
    | some x =>
      refine (Ctx.afterEnd_none (hc c x hx) (fun g hg hu => ?_) o).symm
      rw [decide_eq_false_iff_not, LegRef.mk.injEq]
      rintro ⟨rfl, rfl⟩
      have := hd x g hx (Ctx.leg_of_mem (hc c x hx).ascending hg)
      rw [this] at hu; cases hu
  · rw [complete_ctx hx hg hu]
    dsimp only at hx hg
    split
    next e =>
      subst e
      have he := Ctx.endLeg_eq_endWhere (hc c x hx) hg hu ho ws
      have hfun : (fun g : Leg => decide ((⟨c, g.target⟩ : LegRef) = ⟨c, rt⟩)) = fun g => g.target == rt := by
        funext g; simp [Bool.beq_eq_decide_eq]
      rw [hx, Option.bind_some, hfun]
      dsimp only
      rw [he]; rfl
    next e =>
      cases hx : s.ctx c with
      | none => rfl
      | some y =>
        refine (Ctx.afterEnd_none (hc c y hx) (fun g _ _ => ?_) o).symm
        simp [show c ≠ rc from e]

theorem Ctx.Counted.afterEnd {x y : Ctx} (h : x.Counted) {gone : Leg → Bool} {o : LegOutcome} (ho : o ≠ .ok)
    (hy : x.afterEnd gone o = some y) : y.Counted := by
  unfold Ctx.afterEnd at hy
  split at hy
  · cases hy
  next hl => cases hy; exact h.endWhere ho (Nat.pos_of_ne_zero hl)

/-- The counts stay right where the contexts are those after legs have ended. -/
theorem counts_of_ctx {s t : State} (hc : s.Counts) {gone : CtxId → Leg → Bool} {o : LegOutcome} (ho : o ≠ .ok)
    (ht : ∀ c, t.ctx c = (s.ctx c).bind fun x => x.afterEnd (gone c) o) : t.Counts := fun c y hy => by
  rw [ht] at hy
  obtain ⟨x, hx, hy⟩ := Option.bind_eq_some_iff.1 hy
  exact (hc c x hx).afterEnd ho hy

/-- Completions of several legs with one outcome, not OK (R81): each context has lost the unfinished legs named. -/
theorem completeAll_ctx {s : State} (hc : s.Counts) {o : LegOutcome} (ho : o ≠ .ok) (rs : List LegRef) (c : CtxId) :
    (s.completeAll rs o).ctx c = (s.ctx c).bind fun x => x.afterEnd (fun g => decide (⟨c, g.target⟩ ∈ rs)) o := by
  induction rs generalizing s with
  | nil =>
    cases hx : s.ctx c with
    | none => exact hx
    | some x => exact hx.trans (Ctx.afterEnd_none (hc c x hx) (fun g _ _ => by simp) o).symm
  | cons r rs ih =>
    have h1 := complete_ctx_ended hc ho r []
    have e : s.completeAll (r :: rs) o = (s.complete r o []).completeAll rs o := rfl
    rw [e, ih (counts_of_ctx hc ho h1), h1, Option.bind_assoc]
    congr 1
    funext x
    rw [Ctx.afterEnd_bind]
    simp only [List.mem_cons, Bool.decide_or]

/-! ## The legs that are left -/

/-- A state of a leg that is not DONE (R62). -/
def LegState.Open (v : LegState) : Prop := ∀ o, v ≠ .done o

theorem open_pending : LegState.pending.Open := fun _ h => by cases h
theorem open_queued : LegState.queued.Open := fun _ h => by cases h
theorem open_issued : LegState.issued.Open := fun _ h => by cases h

/-- Of the unfinished legs of the first state exactly the ones that `gone` names are no longer so in the second. -/
structure Ended (s t : State) (gone : LegRef → Bool) : Prop where
  counts  : t.Counts
  legs    : ∀ c i l v, v.Open → (t.HasLeg c i l v ↔ s.HasLeg c i l v ∧ gone ⟨c, i⟩ = false)
  masters : ∀ c y, t.ctx c = some y → ∃ x, s.ctx c = some x ∧ x.master = y.master

theorem Ended.trans {s t u : State} {p q : LegRef → Bool} (h : Ended s t p) (k : Ended t u q) :
    Ended s u (fun r => p r || q r) where
  counts := k.counts
  legs := fun c i l v hv => by
    rw [k.legs c i l v hv, h.legs c i l v hv, Bool.or_eq_false_iff, and_assoc]
  masters := fun c z hz => by
    obtain ⟨y, hy, ey⟩ := k.masters c z hz
    obtain ⟨x, hx, ex⟩ := h.masters c y hy
    exact ⟨x, hx, ex.trans ey⟩

theorem ended_of_contexts {s t : State} (hc : s.Counts) (h : t.contexts = s.contexts) : Ended s t (fun _ => false) where
  counts := fun c x hx => hc c x (by rwa [← ctx_of_contexts h c])
  legs := fun c i l v _ => by simp [State.HasLeg, ctx_of_contexts h]
  masters := fun c y hy => ⟨y, by rwa [← ctx_of_contexts h c], rfl⟩

/-- Where every context has lost the unfinished legs named, the legs left are the others. -/
theorem ended_of_ctx {s t : State} (hc : s.Counts) {gone : LegRef → Bool} {o : LegOutcome} (ho : o ≠ .ok)
    (ht : ∀ c, t.ctx c = (s.ctx c).bind fun x => x.afterEnd (fun g => gone ⟨c, g.target⟩) o) : Ended s t gone where
  counts := counts_of_ctx hc ho ht
  legs := fun c i l v hv => by
    unfold State.HasLeg
    rw [ht]
    constructor
    · rintro ⟨y, g, hy, hg, hi, hl, hs⟩
      obtain ⟨x, hx, hy⟩ := Option.bind_eq_some_iff.1 hy
      unfold Ctx.afterEnd at hy
      split at hy
      · cases hy
      · cases hy
        rw [Ctx.endWhere_legs] at hg
        obtain ⟨k, hk, rfl⟩ := List.mem_map.1 hg
        have hu := Leg.unfinished_of_state hs hv
        rw [Leg.endIf_of_unfinished hu] at hi hl hs
        rw [Leg.endIf_unfinished, Bool.and_eq_true, Bool.not_eq_true', hi] at hu
        exact ⟨⟨x, k, hx, hk, hi, hl, hs⟩, hu.2⟩
    · rintro ⟨⟨x, g, hx, hg, hi, hl, hs⟩, hgone⟩
      have hu := Leg.unfinished_of_state hs hv
      have hkeep : Leg.endIf (fun g => gone ⟨c, g.target⟩) o g = g := by simp [Leg.endIf, hi, hgone]
      have hleft : x.left (fun g => gone ⟨c, g.target⟩) ≠ 0 := by
        rw [Ctx.left, ne_eq, List.countP_eq_zero]
        exact fun h => h g hg (by simp [hu, hi, hgone])
      refine ⟨_, g, by rw [hx, Option.bind_some, Ctx.afterEnd, if_neg hleft], ?_, hi, hl, hs⟩
      rw [Ctx.endWhere_legs]
      exact List.mem_map.2 ⟨g, hg, hkeep⟩
  masters := fun c y hy => by
    rw [ht] at hy
    obtain ⟨x, hx, hy⟩ := Option.bind_eq_some_iff.1 hy
    unfold Ctx.afterEnd at hy
    split at hy
    · cases hy
    · cases hy; exact ⟨x, hx, rfl⟩

theorem completeAll_ended {s : State} (hc : s.Counts) {o : LegOutcome} (ho : o ≠ .ok) (rs : List LegRef) :
    Ended s (s.completeAll rs o) (fun r => decide (r ∈ rs)) :=
  ended_of_ctx hc ho (completeAll_ctx hc ho rs)

/-- A completion that ends OK. -/
theorem complete_ok_ended {s : State} (hc : s.Counts) (r : LegRef) (ws : List Word) :
    Ended s (s.complete r .ok ws) (fun q => decide (q = r)) := by
  obtain ⟨rc, rt⟩ := r
  rcases complete_cases s ⟨rc, rt⟩ with hd | ⟨x, g, hx, hg, hu⟩
  · rw [complete_discarded hd]
    refine ⟨hc, fun c i l v hv => ⟨fun h => ⟨h, ?_⟩, And.left⟩, fun c y hy => ⟨y, hy, rfl⟩⟩
    obtain ⟨x, g, hx, hg, hi, -, hs⟩ := h
    rw [decide_eq_false_iff_not, LegRef.mk.injEq]
    rintro ⟨rfl, rfl⟩
    have := hd x g hx (hi ▸ Ctx.leg_of_mem (hc c x hx).ascending hg)
    rw [Leg.unfinished_of_state hs hv] at this; cases this
  · dsimp only at hx hg
    have hcount := hc rc x hx
    obtain ⟨hmem, hgt⟩ := Ctx.leg_eq_some hg
    have hctx := complete_ctx (s := s) (r := ⟨rc, rt⟩) (o := .ok) (ws := ws) hx hg hu
    refine ⟨fun c y hy => ?_, fun c i l v hv => ?_, fun c y hy => ?_⟩
    · rw [hctx] at hy
      split at hy
      · split at hy
        · cases hy
        next hleft => cases hy; exact hcount.endLeg_ok hg hu ws hleft
      · exact hc c y hy
    · by_cases hcr : c = rc
      · subst hcr
        unfold State.HasLeg
        rw [hctx, if_pos rfl]
        constructor
        · rintro ⟨y, k, hy, hk, hi, hl, hs⟩
          split at hy
          · cases hy
          · cases hy
            rw [Ctx.endLeg_legs] at hk
            obtain ⟨k0, hk0, rfl⟩ := List.mem_map.1 hk
            by_cases e : k0.target = rt
            · rw [Leg.endAt_same e] at hs; exact absurd hs.symm (hv _)
            · rw [Leg.endAt_other e] at hi hl hs
              exact ⟨⟨x, k0, hx, hk0, hi, hl, hs⟩, by simp [← hi, e]⟩
        · rintro ⟨⟨y, k, hy, hk, hi, hl, hs⟩, hne⟩
          rw [hx] at hy; cases hy
          have hkt : k.target ≠ rt := by simpa [hi] using hne
          have hk' : k ∈ (x.endLeg rt .ok ws).legs := by
            rw [Ctx.endLeg_legs]; exact List.mem_map.2 ⟨k, hk, Leg.endAt_other hkt _ _⟩
          refine ⟨_, k, if_neg fun h0 => ?_, hk', hi, hl, hs⟩
          have e := countP_endAt (p := Leg.unfinished) (o := .ok) (d := x.kept .ok ws) hcount.ascending hmem hgt
          rw [hu, Leg.unfinished_done] at e
          have hpos : 0 < (x.legs.map (Leg.endAt rt .ok (x.kept .ok ws))).countP Leg.unfinished :=
            List.countP_pos_iff.2 ⟨k, hk', Leg.unfinished_of_state hs hv⟩
          have h0' : x.unfinished - 1 = 0 := h0
          obtain ⟨-, hcu, -⟩ := hcount
          simp only [if_true, Bool.false_eq_true, if_false] at e
          omega
      · unfold State.HasLeg
        rw [hctx, if_neg hcr]
        simp [hcr]
    · rw [hctx] at hy
      split at hy
      next e =>
        subst e
        split at hy
        · cases hy
        · cases hy; exact ⟨x, hx, rfl⟩
      next => exact ⟨y, hy, rfl⟩

theorem complete_ended {s : State} (hc : s.Counts) (r : LegRef) (o : LegOutcome) (ws : List Word) :
    Ended s (s.complete r o ws) (fun q => decide (q = r)) := by
  by_cases ho : o = .ok
  · subst ho; exact complete_ok_ended hc r ws
  · exact ended_of_ctx hc ho (complete_ctx_ended hc ho r ws)

/-! ## Where the legs stand (R60) -/

/-- Every leg stands where R60 says, on a part that is not between the parts of a fabric reset. -/
structure State.LegsStand (s : State) : Prop where
  counted : s.Counts
  nodup   : ∀ l, (s.lane l).queue.Nodup
  queued  : ∀ l (r : LegRef), r ∈ (s.lane l).queue ↔ s.HasLeg r.ctx r.target l .queued
  issued  : ∀ l c t, (∃ w q m d, (s.lane l).slot w = .issued q c m t d) ↔ s.HasLeg c t l .issued
  master  : ∀ l w q c m t d, (s.lane l).slot w = .issued q c m t d → ∃ x, s.ctx c = some x ∧ x.master = m
  oneSlot : ∀ l w q c m t d, (s.lane l).slot w = .issued q c m t d →
    ∀ v p n e, (s.lane l).slot v = .issued p c n t e → v = w

theorem legsPlaced_standing {s : State} (h : s.resetDue = false) : s.LegsPlaced ↔ s.LegsStand := by
  unfold State.LegsPlaced
  rw [h, if_neg Bool.false_ne_true]
  constructor
  · rintro ⟨hcounted, hqueues, hwindows, hslots⟩
    exact ⟨hcounted, fun l => (hqueues l).1, fun l => (hqueues l).2, hwindows,
      fun l w q c m t d hw => (hslots l w q c m t d hw).1, fun l w q c m t d hw => (hslots l w q c m t d hw).2⟩
  · rintro ⟨hcounted, hnodup, hqueued, hissued, hmaster, honeSlot⟩
    exact ⟨hcounted, fun l => ⟨hnodup l, hqueued l⟩, hissued,
      fun l w q c m t d hw => ⟨hmaster l w q c m t d hw, honeSlot l w q c m t d hw⟩⟩

theorem legsPlaced_due {s : State} (h : s.resetDue = true) : s.LegsPlaced ↔ ∀ c, s.ctx c = none := by
  unfold State.LegsPlaced
  rw [h, if_pos rfl]

theorem resetDue_congr {s t : State} (h : t.phase = s.phase) : t.resetDue = s.resetDue := by
  unfold State.resetDue; rw [h]

/-- An operation keeps the legs in their places that does so on a part as it runs, and that takes no FREE context. -/
theorem legsPlaced_of {s t : State} (hphase : t.phase = s.phase) (hfree : ∀ c, s.ctx c = none → t.ctx c = none)
    (hstand : s.resetDue = false → s.LegsStand → t.LegsStand) : s.LegsPlaced → t.LegsPlaced := by
  have e := resetDue_congr hphase
  cases hd : s.resetDue with
  | true => rw [legsPlaced_due hd, legsPlaced_due (e.trans hd)]; exact fun h c => hfree c (h c)
  | false => rw [legsPlaced_standing hd, legsPlaced_standing (e.trans hd)]; exact hstand hd

/-- What the places of the legs read of a lane. -/
def Lane.places (x : Lane) : List LegRef × Vector Slot 4 := (x.queue, x.window)

theorem slot_of_places {x y : Lane} (h : y.places = x.places) (w : SlotId) : y.slot w = x.slot w := by
  have e : y.window = x.window := congrArg Prod.snd h
  unfold Lane.slot; rw [e]

theorem queue_of_places {x y : Lane} (h : y.places = x.places) : y.queue = x.queue := congrArg Prod.fst h

theorem legsStand_congr {s t : State} (hc : t.contexts = s.contexts) (hl : ∀ l, (t.lane l).places = (s.lane l).places)
    (h : s.LegsStand) : t.LegsStand := by
  have hctx := ctx_of_contexts hc
  have hleg : ∀ c i l v, t.HasLeg c i l v ↔ s.HasLeg c i l v := fun c i l v => by simp [State.HasLeg, hctx]
  have hslot := fun l => slot_of_places (hl l)
  have hqueue := fun l => queue_of_places (hl l)
  exact ⟨fun c x hx => h.counted c x (by rwa [← hctx]), fun l => by rw [hqueue]; exact h.nodup l,
    fun l r => by rw [hqueue, hleg]; exact h.queued l r, fun l c i => by simp only [hslot, hleg]; exact h.issued l c i,
    fun l w q c m i d => by rw [hslot, hctx]; exact h.master l w q c m i d,
    fun l w q c m i d => by simp only [hslot]; exact h.oneSlot l w q c m i d⟩

/-- Where neither a context nor a queue nor a window has changed, the legs stand as they stood. -/
theorem legsPlaced_congr {s t : State} (hphase : t.phase = s.phase) (hc : t.contexts = s.contexts)
    (hl : ∀ l, (t.lane l).places = (s.lane l).places) : s.LegsPlaced → t.LegsPlaced :=
  legsPlaced_of hphase (fun c h => by rwa [ctx_of_contexts hc]) fun _ => legsStand_congr hc hl

/-- A leg has one lane and one state. -/
theorem State.Counts.hasLeg_unique {s : State} (h : s.Counts) {c : CtxId} {t : Target} {l l' : LaneId} {v v' : LegState}
    (h1 : s.HasLeg c t l v) (h2 : s.HasLeg c t l' v') : l = l' ∧ v = v' := by
  obtain ⟨x, g, hx, hg, rfl, rfl, rfl⟩ := h1
  obtain ⟨y, g', hy, hg', ht, rfl, rfl⟩ := h2
  rw [hx] at hy; cases hy
  rw [(h c x hx).ascending.eq_of_target hg hg' ht.symm]
  exact ⟨rfl, rfl⟩

/-- Legs have ended, and the queues and windows name the others. -/
theorem legsStand_of_ended {s t : State} {gone : LegRef → Bool} (h : s.LegsStand) (he : Ended s t gone)
    (hq : ∀ l, (t.lane l).queue = (s.lane l).queue.filter (fun r => !gone r))
    (hw : ∀ l w q c m i d, (t.lane l).slot w = .issued q c m i d ↔
      (s.lane l).slot w = .issued q c m i d ∧ gone ⟨c, i⟩ = false) : t.LegsStand where
  counted := he.counts
  nodup := fun l => by rw [hq]; exact (h.nodup l).filter _
  queued := fun l r => by
    rw [hq, List.mem_filter, h.queued, he.legs _ _ _ _ open_queued, Bool.not_eq_true']
  issued := fun l c i => by
    simp only [he.legs _ _ _ _ open_issued, ← h.issued, hw, exists_and_right]
  master := fun l w q c m i d hs => by
    have hleg := (he.legs c i l .issued open_issued).2
      ⟨(h.issued l c i).1 ⟨w, q, m, d, ((hw ..).1 hs).1⟩, ((hw ..).1 hs).2⟩
    obtain ⟨y, -, hy, -⟩ := hleg
    obtain ⟨x, hx, hm⟩ := he.masters c y hy
    obtain ⟨x', hx', hm'⟩ := h.master l w q c m i d ((hw ..).1 hs).1
    rw [hx] at hx'; cases hx'
    exact ⟨y, hy, hm.symm.trans hm'⟩
  oneSlot := fun l w q c m i d hs v p n e hv =>
    h.oneSlot l w q c m i d ((hw ..).1 hs).1 v p n e ((hw ..).1 hv).1

end Sys2Proof.Machine
end

section
/-! SUPPORT. The endings of a lane's work, the answers and the expiry keep each leg in its place (R60, R95, R98, R100,
R101, R144). -/

namespace Sys2Proof.Machine

/-! ## The legs that an ending names -/

theorem mem_pendingFor (s : State) (l : LaneId) (r : LegRef) :
    r ∈ s.pendingFor l ↔ s.HasLeg r.ctx r.target l .pending := by
  simp only [State.pendingFor, List.mem_flatMap, List.mem_map, List.mem_filter, decide_eq_true_eq, State.HasLeg]
  constructor
  · rintro ⟨⟨c, x⟩, hx, g, ⟨hg, hs, hl⟩, rfl⟩
    exact ⟨x, g, (mem_usedContexts s c x).1 ((mem_byAge s _).1 hx), hg, rfl, hl, hs⟩
  · rintro ⟨x, g, hx, hg, ht, hl, hs⟩
    exact ⟨(r.ctx, x), (mem_byAge s _).2 ((mem_usedContexts s _ x).2 hx), g, ⟨hg, hs, hl⟩, by rw [ht]⟩

theorem mem_allSlots (w : SlotId) : w ∈ allSlots := List.mem_finRange w

theorem mem_issuedLegs (x : Lane) (r : LegRef) :
    r ∈ x.issuedLegs ↔ ∃ w q m d, x.slot w = .issued q r.ctx m r.target d := by
  simp only [Lane.issuedLegs, List.mem_filterMap]
  constructor
  · rintro ⟨w, -, hw⟩
    split at hw
    next q c m t d hs => cases hw; exact ⟨w, q, m, d, hs⟩
    next => cases hw
  · rintro ⟨w, q, m, d, hs⟩
    exact ⟨w, mem_allSlots w, by rw [hs]⟩

/-- The legs of a lane that are not sent: QUEUED, then PENDING. -/
def State.unsentLegs (s : State) (l : LaneId) : List LegRef := (s.lane l).queue ++ s.pendingFor l

/-- The legs that the lane-wide ending ends (R100). -/
def State.laneLegs (s : State) (l : LaneId) : List LegRef := (s.lane l).issuedLegs ++ s.unsentLegs l

theorem mem_unsentLegs {s : State} (h : s.LegsStand) {l : LaneId} {r : LegRef} :
    r ∈ s.unsentLegs l ↔ s.HasLeg r.ctx r.target l .queued ∨ s.HasLeg r.ctx r.target l .pending := by
  rw [State.unsentLegs, List.mem_append, h.queued, mem_pendingFor]

theorem mem_laneLegs {s : State} (h : s.LegsStand) {l : LaneId} {r : LegRef} :
    r ∈ s.laneLegs l ↔ s.HasLeg r.ctx r.target l .issued ∨ s.HasLeg r.ctx r.target l .queued ∨
      s.HasLeg r.ctx r.target l .pending := by
  rw [State.laneLegs, List.mem_append, mem_unsentLegs h, mem_issuedLegs, h.issued]

/-- A leg that stands on another lane is no leg of this one. -/
theorem not_mem_laneLegs {s : State} (h : s.LegsStand) {l i : LaneId} (hi : i ≠ l) {c : CtxId} {t : Target} {v : LegState}
    (hleg : s.HasLeg c t i v) : (⟨c, t⟩ : LegRef) ∉ s.laneLegs l := by
  rw [mem_laneLegs h]
  rintro (h' | h' | h') <;> exact hi (h.counted.hasLeg_unique hleg h').1

theorem not_mem_unsentLegs {s : State} (h : s.LegsStand) {l i : LaneId} {c : CtxId} {t : Target} {v : LegState}
    (hi : i ≠ l ∨ v = .issued) (hleg : s.HasLeg c t i v) : (⟨c, t⟩ : LegRef) ∉ s.unsentLegs l := by
  rw [mem_unsentLegs h]
  rcases hi with hi | rfl
  · rintro (h' | h') <;> exact hi (h.counted.hasLeg_unique hleg h').1
  · rintro (h' | h') <;> cases (h.counted.hasLeg_unique hleg h').2

theorem filter_not_eq_self {rs : List LegRef} {gone : LegRef → Bool} (h : ∀ r ∈ rs, gone r = false) :
    rs.filter (fun r => !gone r) = rs := List.filter_eq_self.2 fun r hr => by simp [h r hr]

theorem ended_setLane {s t : State} {l : LaneId} {x : Lane} {gone : LegRef → Bool} (h : Ended (s.setLane l x) t gone) :
    Ended s t gone := ⟨h.counts, h.legs, h.masters⟩

theorem places_setLane_other (s : State) {l i : LaneId} (hi : i ≠ l) (x : Lane) :
    ((s.setLane l x).lane i) = s.lane i := by rw [State.lane_setLane, if_neg hi]

/-! ## The lane-wide ending (R100) -/

theorem completeAll_append (s : State) (rs rs' : List LegRef) (o : LegOutcome) :
    s.completeAll (rs ++ rs') o = (s.completeAll rs o).completeAll rs' o := List.foldl_append

/-- The contexts after the lane-wide ending: the falls between the completions change none. -/
theorem endLaneWork_ctx {s : State} (hc : s.Counts) (l : LaneId) (c : CtxId) :
    (s.endLaneWork l).ctx c =
      (s.ctx c).bind fun x => x.afterEnd (fun g => decide (⟨c, g.target⟩ ∈ s.laneLegs l)) .laneDown := by
  have ho : LegOutcome.laneDown ≠ .ok := by simp
  unfold State.endLaneWork
  dsimp only
  generalize hs1 : s.setLane l { s.lane l with queue := [], window := emptyWindow } = s1
  have h1 : s1.Counts := by rw [← hs1]; exact hc
  have hissued := completeAll_ctx h1 ho (s.lane l).issuedLegs
  have hcounts := counts_of_ctx h1 ho hissued
  have hfall := ctx_of_contexts (fallAll_contexts (s.lane l).expiredPlaces (s1.completeAll (s.lane l).issuedLegs .laneDown))
  rw [completeAll_ctx (fun c x hx => hcounts c x (by rwa [← hfall])) ho, hfall, hissued, Option.bind_assoc, ← hs1]
  change (s.ctx c).bind _ = _
  congr 1
  funext x
  rw [Ctx.afterEnd_bind]
  simp only [State.laneLegs, State.unsentLegs, List.mem_append, Bool.decide_or]

theorem endLaneWork_ended {s : State} (hc : s.Counts) (l : LaneId) :
    Ended s (s.endLaneWork l) (fun r => decide (r ∈ s.laneLegs l)) :=
  ended_of_ctx hc (by simp) (endLaneWork_ctx hc l)

theorem slot_emptyWindow (x : Lane) (w : SlotId) : Lane.slot { x with queue := [], window := emptyWindow } w = .free := by
  simp [Lane.slot, emptyWindow]

theorem endLaneWork_stands {s : State} (h : s.LegsStand) (l : LaneId) : (s.endLaneWork l).LegsStand := by
  refine legsStand_of_ended h (endLaneWork_ended h.counted l) (fun i => ?_) fun i w q c m t d => ?_
  · by_cases hi : i = l
    · subst hi
      rw [endLaneWork_lane]
      refine (List.filter_eq_nil_iff.2 fun r hr => ?_).symm
      simp [State.laneLegs, State.unsentLegs, hr]
    · rw [(endLaneWork_frame s l).lanes i hi, filter_not_eq_self fun r hr => ?_]
      exact decide_eq_false (not_mem_laneLegs h hi ((h.queued i r).1 hr))
  · by_cases hi : i = l
    · subst hi
      rw [endLaneWork_lane, slot_emptyWindow]
      refine ⟨fun e => (by cases e), fun ⟨hw, hgone⟩ => absurd ?_ (of_decide_eq_false hgone)⟩
      rw [mem_laneLegs h, ← h.issued]
      exact .inl ⟨w, q, m, d, hw⟩
    · rw [(endLaneWork_frame s l).lanes i hi]
      refine ⟨fun hw => ⟨hw, decide_eq_false (not_mem_laneLegs h hi ((h.issued i c t).1 ⟨w, q, m, d, hw⟩))⟩, And.left⟩

theorem endLaneWork_placed (s : State) (l : LaneId) : s.LegsPlaced → (s.endLaneWork l).LegsPlaced := by
  refine legsPlaced_of (congrArg Fixed.phase (endLaneWork_frame s l).fixed) (fun c hc => ?_)
    fun _ h => endLaneWork_stands h l
  refine completeAll_free ?_ _ _
  rw [ctx_of_contexts (fallAll_contexts ..)]
  refine completeAll_free ?_ _ _
  exact hc

/-! ## The fence (R101) -/

/-- An UP lane as a fence leaves it. -/
def Lane.fenced (x : Lane) : Lane := { x with state := .fenced, queue := [] }

theorem fenceLane_up {s : State} {l : LaneId} (h : (s.lane l).state = .up) :
    s.fenceLane l =
      (s.setLane l (s.lane l).fenced).completeAll (s.unsentLegs l) .fenced := by
  unfold State.fenceLane
  dsimp only
  rw [h]; rfl

/-- A fence of a lane that is not UP changes neither a context nor a queue nor a window. -/
theorem fenceLane_notUp {s : State} {l : LaneId} (h : (s.lane l).state ≠ .up) :
    ∃ x, s.fenceLane l = s.setLane l x ∧ x.places = (s.lane l).places := by
  have hsame : s = s.setLane l (s.lane l) := by
    simp [State.setLane, State.lane]
  unfold State.fenceLane
  dsimp only
  split
  next hup => exact absurd hup h
  · exact ⟨_, rfl, rfl⟩
  · exact ⟨_, rfl, rfl⟩
  · exact ⟨_, hsame, rfl⟩
  · exact ⟨_, hsame, rfl⟩

/-- A lane that has changed elsewhere than in its queue and window. -/
theorem setLane_placed {s : State} {l : LaneId} {x : Lane} (h : x.places = (s.lane l).places) :
    s.LegsPlaced → (s.setLane l x).LegsPlaced :=
  legsPlaced_congr rfl rfl fun i => by
    rw [State.lane_setLane]
    split
    next e => rw [e, h]
    next => rfl

theorem fenceLane_stands {s : State} (h : s.LegsStand) {l : LaneId} (hup : (s.lane l).state = .up) :
    (s.fenceLane l).LegsStand := by
  rw [fenceLane_up hup]
  have hlane := fun i => (completeAll_frame (s.unsentLegs l) .fenced
    (s.setLane l (s.lane l).fenced)).lane i
  have hcounts : (s.setLane l (s.lane l).fenced).Counts := h.counted
  have hended := ended_setLane (completeAll_ended hcounts (o := .fenced) (by simp) (s.unsentLegs l))
  refine legsStand_of_ended h hended (fun i => ?_) fun i w q c m t d => ?_
  · rw [hlane, State.lane_setLane]
    by_cases hi : i = l
    · subst hi
      rw [if_pos rfl]
      refine (List.filter_eq_nil_iff.2 fun r hr => ?_).symm
      simp [State.unsentLegs, hr]
    · rw [if_neg hi, filter_not_eq_self fun r hr => ?_]
      exact decide_eq_false (not_mem_unsentLegs h (.inl hi) ((h.queued i r).1 hr))
  · have hslot : ((s.setLane l (s.lane l).fenced).lane i).slot w = (s.lane i).slot w := by
      rw [State.lane_setLane]
      split
      next e => rw [e]; rfl
      next => rfl
    rw [hlane, hslot]
    exact ⟨fun hw => ⟨hw, decide_eq_false (not_mem_unsentLegs h (.inr rfl) ((h.issued i c t).1 ⟨w, q, m, d, hw⟩))⟩, And.left⟩

theorem fenceLane_placed (s : State) (l : LaneId) : s.LegsPlaced → (s.fenceLane l).LegsPlaced := by
  by_cases hup : (s.lane l).state = .up
  · refine legsPlaced_of (congrArg Fixed.phase (fenceLane_frame s l).fixed) (fun c hc => ?_)
      fun _ h => fenceLane_stands h hup
    rw [fenceLane_up hup]
    refine completeAll_free ?_ _ _
    exact hc
  · obtain ⟨x, e, hx⟩ := fenceLane_notUp hup
    rw [e]; exact setLane_placed hx

/-! ## Occurrences (R140 to R145): only the fence of ISOLATE moves legs -/

theorem LegFrame.placed_of_contexts {s t : State} (h : LegFrame s t) (hc : t.contexts = s.contexts) :
    s.LegsPlaced → t.LegsPlaced :=
  legsPlaced_congr (congrArg (fun o => o.fixed.phase) h.outside) hc fun l => by rw [h.lane l]

theorem OnlyAlerts.placed {s t : State} (h : OnlyAlerts s t) : s.LegsPlaced → t.LegsPlaced := by
  have hl := h.lane
  unfold OnlyAlerts at h
  exact legsPlaced_congr (by rw [h]) (by rw [h]) fun l => by rw [hl]

theorem setRecord_placed (s : State) (t : Target) (x : TargetRecord) : s.LegsPlaced → (s.setRecord t x).LegsPlaced :=
  (setRecord_frame s t x).placed_of_contexts rfl

theorem isolateStep_placed (s : State) (x : Source) (f : FaultFields) : s.LegsPlaced → (s.isolateStep x f).LegsPlaced := by
  unfold State.isolateStep
  split
  · exact fenceLane_placed s _
  · exact setRecord_placed s _ _
  · exact id

theorem haltStep_placed (s : State) : s.LegsPlaced → s.haltStep.LegsPlaced := by
  unfold State.haltStep
  split
  · exact legsPlaced_congr rfl rfl fun _ => rfl
  · exact id

theorem act_placed (s : State) (a : Action) (x : Source) (f : FaultFields) (q : Option (BitVec 16)) :
    s.LegsPlaced → (s.act a x f q).LegsPlaced := by
  intro h
  have h1 := (alertsIf_only s a x q).placed h
  unfold State.act
  dsimp only
  split
  · exact isolateStep_placed _ x f h1
  · exact haltStep_placed _ h1
  · exact h1

theorem latch_placed (s : State) (x : Source) : s.LegsPlaced → (s.latch x).LegsPlaced :=
  legsPlaced_congr rfl rfl fun _ => rfl

theorem recordStep_placed (s : State) (x : Source) (f : FaultFields) : s.LegsPlaced → (s.recordStep x f).1.LegsPlaced := by
  unfold State.recordStep
  split
  · exact legsPlaced_congr rfl rfl fun _ => rfl
  · intro h
    have h1 : State.LegsPlaced { s with lostCount := min (s.lostCount + 1) 255 } :=
      legsPlaced_congr rfl rfl (fun _ => rfl) h
    exact act_placed _ _ _ _ _ (latch_placed _ _ h1)

theorem occur_placed (s : State) (x : Source) (f : FaultFields) : s.LegsPlaced → (s.occur x f).LegsPlaced := by
  intro h
  have h1 := latch_placed s x h
  unfold State.occur
  dsimp only
  split
  · exact h1
  · exact act_placed _ _ _ _ _ (recordStep_placed _ x f h1)

/-! ## A slot that gives up its leg, which ends (R96, R98) -/

/-- The leg of an ISSUED slot ends, and the slot no longer holds it. -/
theorem legsStand_slot_complete {s : State} (h : s.LegsStand) {l : LaneId} {w : SlotId} {q : Byte} {c : CtxId} {m : Master}
    {t : Target} {d : Time} (hw : (s.lane l).slot w = .issued q c m t d) {y : Lane} (hq : y.queue = (s.lane l).queue)
    (hfree : ∀ p b n i e, y.slot w ≠ .issued p b n i e) (hother : ∀ v, v ≠ w → y.slot v = (s.lane l).slot v)
    (o : LegOutcome) (ws : List Word) : ((s.setLane l y).complete ⟨c, t⟩ o ws).LegsStand := by
  have hleg := (h.issued l c t).1 ⟨w, q, m, d, hw⟩
  have hended : Ended s ((s.setLane l y).complete ⟨c, t⟩ o ws) (fun r => decide (r = ⟨c, t⟩)) :=
    ended_setLane (complete_ended (s := s.setLane l y) h.counted ⟨c, t⟩ o ws)
  have hlane := fun i => (complete_frame (s.setLane l y) ⟨c, t⟩ o ws).lane i
  refine legsStand_of_ended h hended (fun i => ?_) fun i v p b n j e => ?_
  · have hsame : ((s.setLane l y).lane i).queue = (s.lane i).queue := by
      rw [State.lane_setLane]
      split
      next e => rw [e, hq]
      next => rfl
    rw [hlane, hsame, filter_not_eq_self fun r hr => ?_]
    refine decide_eq_false fun e => ?_
    subst e
    cases (h.counted.hasLeg_unique ((h.queued i _).1 hr) hleg).2
  · rw [hlane, State.lane_setLane, decide_eq_false_iff_not, LegRef.mk.injEq]
    by_cases hi : i = l
    · subst hi
      rw [if_pos rfl]
      by_cases hv : v = w
      · subst hv
        refine ⟨fun e => (hfree _ _ _ _ _ e).elim, fun ⟨e, hne⟩ => absurd ?_ hne⟩
        rw [hw] at e
        cases e; exact ⟨rfl, rfl⟩
      · rw [hother v hv]
        refine ⟨fun e => ⟨e, ?_⟩, And.left⟩
        rintro ⟨rfl, rfl⟩
        exact hv (h.oneSlot i w q b m j d hw v p n _ e)
    · rw [if_neg hi]
      refine ⟨fun e => ⟨e, ?_⟩, And.left⟩
      rintro ⟨rfl, rfl⟩
      exact hi (h.counted.hasLeg_unique ((h.issued i b j).1 ⟨v, p, n, _, e⟩) hleg).1

theorem slot_setSlot (x : Lane) (w v : SlotId) (y : Slot) : (x.setSlot w y).slot v = if v = w then y else x.slot v := by
  simp only [Lane.slot, Lane.setSlot]
  by_cases h : v = w
  · subst h; simp
  · rw [if_neg h]
    have : w.val ≠ v.val := fun e => h (Fin.ext e.symm)
    simp [this]

theorem issuedSlot_eq_some {x : Lane} {q : Byte} {w : SlotId} {r : LegRef} {m : Master}
    (h : x.issuedSlot q = some (w, r, m)) : ∃ d, x.slot w = .issued q r.ctx m r.target d := by
  obtain ⟨v, -, e⟩ := List.exists_of_findSome?_eq_some h
  split at e
  next p c n t d hs =>
    split at e
    next hp => cases e; subst hp; exact ⟨d, hs⟩
    next => cases e
  next => cases e

theorem expiredSlot_eq_some {x : Lane} {q : Byte} {w : SlotId} {t : Target} {m : Master}
    (h : x.expiredSlot q = some (w, m, t)) : x.slot w = .expired q m t := by
  obtain ⟨v, -, e⟩ := List.exists_of_findSome?_eq_some h
  split at e
  next p n t hs =>
    split at e
    next hp => cases e; subst hp; exact hs
    next => cases e
  next => cases e

theorem expiring_eq_some {s : State} {l : LaneId} {w : SlotId} {q : Byte} {r : LegRef} {m : Master}
    (h : s.expiring l w = some (q, r, m)) : (s.lane l).slot w = .issued q r.ctx m r.target s.timebase := by
  unfold State.expiring at h
  split at h
  next p c n t d hs =>
    split at h
    next hd => cases h; subst hd; exact hs
    next => cases h
  next => cases h

/-- An EXPIRED slot that is freed names no leg. -/
theorem freeExpired_placed {s : State} {l : LaneId} {w : SlotId} {q : Byte} {m : Master} {t : Target}
    (hw : (s.lane l).slot w = .expired q m t) : s.LegsPlaced → (s.setLane l ((s.lane l).setSlot w .free)).LegsPlaced := by
  refine legsPlaced_of rfl (fun c hc => hc) fun _ h => ?_
  have hslot : ∀ i v p c n j d, ((s.setLane l ((s.lane l).setSlot w .free)).lane i).slot v = .issued p c n j d ↔
      (s.lane i).slot v = .issued p c n j d := fun i v p c n j d => by
    rw [State.lane_setLane]
    split
    next e =>
      subst e
      rw [slot_setSlot]
      split
      next e => subst e; simp [hw]
      next => rfl
    next => rfl
  have hqueue : ∀ i, ((s.setLane l ((s.lane l).setSlot w .free)).lane i).queue = (s.lane i).queue := fun i => by
    rw [State.lane_setLane]
    split
    next e => rw [e]; rfl
    next => rfl
  refine ⟨h.counted, fun i => by rw [hqueue]; exact h.nodup i, fun i r => by rw [hqueue]; exact h.queued i r,
    fun i c j => by simp only [hslot]; exact h.issued i c j, fun i v p c n j d => by rw [hslot]; exact h.master i v p c n j d,
    fun i v p c n j d => by simp only [hslot]; exact h.oneSlot i v p c n j d⟩

end Sys2Proof.Machine
end

section
/-! SUPPORT. Refill (R92), issue (R94), the withdrawals of a teardown (R71 to R75) and placement (R49, R51) keep each leg in
its place. -/

namespace Sys2Proof.Machine

/-! ## The state of one leg -/

/-- One leg of the list put into another state. -/
def Leg.turn (t : Target) (v : LegState) (g : Leg) : Leg := if g.target = t then { g with state := v } else g

theorem Ctx.setLegState_legs (x : Ctx) (t : Target) (v : LegState) :
    (x.setLegState t v).legs = x.legs.map (Leg.turn t v) := rfl

theorem Leg.turn_target (t : Target) (v : LegState) (g : Leg) : (g.turn t v).target = g.target := by
  unfold Leg.turn; split <;> rfl

theorem Leg.turn_other {t : Target} {g : Leg} (h : g.target ≠ t) (v : LegState) : g.turn t v = g := if_neg h

theorem Leg.turn_same {t : Target} {g : Leg} (h : g.target = t) (v : LegState) : g.turn t v = { g with state := v } :=
  if_pos h

/-- A leg of an ascending list that goes from one state that is not DONE to another counts as it did. -/
theorem turn_open {legs : List Leg} (hasc : Ascending legs) {g : Leg} (hg : g ∈ legs) (hu : g.unfinished = true)
    {v : LegState} (hv : v.Open) {k : Leg} (hk : k ∈ legs) :
    (k.turn g.target v).unfinished = k.unfinished ∧ ((k.turn g.target v).state = .done .ok ↔ k.state = .done .ok) ∧
      (k.turn g.target v).failure = k.failure := by
  by_cases e : k.target = g.target
  · have hkg := hasc.eq_of_target hk hg e
    rw [Leg.turn_same e, hkg]
    have hv' : Leg.unfinished { g with state := v } = true := (Leg.unfinished_iff _).2 hv
    exact ⟨hv'.trans hu.symm, ⟨fun h => absurd h (hv _), fun h => absurd h ((Leg.unfinished_iff g).1 hu _)⟩,
      (Leg.failure_of_unfinished hv').trans (Leg.failure_of_unfinished hu).symm⟩
  · rw [Leg.turn_other e]; exact ⟨rfl, Iff.rfl, rfl⟩

theorem findSome?_map_congr {α β : Type} {f : α → Option β} {k : α → α} {xs : List α} (h : ∀ x ∈ xs, f (k x) = f x) :
    (xs.map k).findSome? f = xs.findSome? f := by
  induction xs with
  | nil => rfl
  | cons x xs ih =>
    rw [List.map_cons, List.findSome?_cons, List.findSome?_cons, h x List.mem_cons_self,
      ih fun y hy => h y (List.mem_cons_of_mem _ hy)]

theorem Ctx.Counted.setLegState {x : Ctx} (h : x.Counted) {g : Leg} (hg : g ∈ x.legs) (hu : g.unfinished = true)
    {v : LegState} (hv : v.Open) : (x.setLegState g.target v).Counted := by
  obtain ⟨hasc, hunfinished, hpos, hok, hff, hmatch⟩ := h
  have hturn := fun k (hk : k ∈ x.legs) => turn_open hasc hg hu hv hk
  refine ⟨(ascending_map (Leg.turn_target _ v)).2 hasc, ?_, hpos, ?_, ?_, fun hk hs => ⟨?_, fun k hk' hkok => ?_⟩⟩
  · change x.unfinished = _
    rw [Ctx.setLegState_legs, List.countP_map, hunfinished]
    exact List.countP_congr fun k hk => by simp [(hturn k hk).1]
  · change x.legsOk = _
    rw [Ctx.setLegState_legs, List.countP_map, hok]
    exact List.countP_congr fun k hk => by simp [(hturn k hk).2.1]
  · change x.firstFailure = _
    rw [Ctx.setLegState_legs, hff, findSome?_map_congr fun k hk => (hturn k hk).2.2]
  · have hfind : (x.legs.map (Leg.turn g.target v)).find? (fun k => k.state = .done .ok) =
        x.legs.find? (fun k => k.state = .done .ok) := by
      rw [List.find?_map]
      have hcongr : x.legs.find? ((fun k => decide (k.state = .done .ok)) ∘ Leg.turn g.target v) =
          x.legs.find? (fun k => decide (k.state = .done .ok)) :=
        List.find?_congr fun k hk => by simp [(hturn k hk).2.1]
      rw [hcongr]
      cases hf : x.legs.find? (fun k => k.state = .done .ok) with
      | none => rfl
      | some k =>
        have hk2 := List.mem_of_find?_eq_some hf
        have hkok : k.state = .done .ok := by simpa using List.find?_some hf
        have hne : k.target ≠ g.target := fun e => by
          rw [Ascending.eq_of_target hasc hk2 hg e] at hkok
          exact (Leg.unfinished_iff g).1 hu _ hkok
        rw [Option.map_some, Leg.turn_other hne]
    rw [Ctx.setLegState_legs, hfind]
    exact (hmatch hk hs).1
  · rw [Ctx.setLegState_legs] at hk'
    obtain ⟨k0, hk0, rfl⟩ := List.mem_map.1 hk'
    have hok0 := (hturn k0 hk0).2.1.1 hkok
    have hdata : (k0.turn g.target v).data = k0.data := by unfold Leg.turn; split <;> rfl
    rw [hdata]
    exact (hmatch hk hs).2 k0 hk0 hok0

theorem hasLeg_leg {s : State} (hc : s.Counts) {c : CtxId} {t : Target} {l : LaneId} {v : LegState} (h : s.HasLeg c t l v) :
    ∃ x g, s.ctx c = some x ∧ g ∈ x.legs ∧ g.target = t ∧ g.lane = l ∧ g.state = v ∧ x.leg t = some g := by
  obtain ⟨x, g, hx, hg, ht, hl, hs⟩ := h
  exact ⟨x, g, hx, hg, ht, hl, hs, ht ▸ Ctx.leg_of_mem (hc c x hx).ascending hg⟩

/-- The contexts after one leg has changed its state. -/
theorem setLegState_ctx {s : State} {r : LegRef} {x : Ctx} (h : s.ctx r.ctx = some x) (v : LegState) (c : CtxId) :
    (s.setLegState r v).ctx c = if c = r.ctx then some (x.setLegState r.target v) else s.ctx c := by
  unfold State.setLegState
  rw [h]
  exact State.ctx_setCtx ..

section
variable {s : State} {r : LegRef} {l : LaneId} {u v : LegState}

theorem setLegState_counts (hc : s.Counts) (h : s.HasLeg r.ctx r.target l u) (hu : u.Open) (hv : v.Open) :
    (s.setLegState r v).Counts := fun c y hy => by
  obtain ⟨x, g, hx, hg, ht, -, hs⟩ := h
  rw [setLegState_ctx hx] at hy
  split at hy
  · cases hy
    rw [← ht]
    exact (hc _ x hx).setLegState hg (Leg.unfinished_of_state hs hu) hv
  · exact hc c y hy

/-- The named leg is in its new state, and every other leg where it was. -/
theorem setLegState_hasLeg (hc : s.Counts) (h : s.HasLeg r.ctx r.target l u) (c : CtxId) (t : Target) (i : LaneId)
    (w : LegState) :
    (s.setLegState r v).HasLeg c t i w ↔ if (⟨c, t⟩ : LegRef) = r then i = l ∧ w = v else s.HasLeg c t i w := by
  obtain ⟨x, g, hx, hg, ht, hl, hs⟩ := h
  obtain ⟨rc, rt⟩ := r
  dsimp only at hx ht
  unfold State.HasLeg
  rw [setLegState_ctx hx]
  simp only [LegRef.mk.injEq]
  by_cases hcr : c = rc
  · subst hcr
    rw [if_pos rfl]
    by_cases htr : t = rt
    · subst htr
      rw [if_pos ⟨rfl, rfl⟩]
      constructor
      · rintro ⟨y, k, hy, hk, hkt, hkl, hks⟩
        cases hy
        obtain ⟨k0, hk0, rfl⟩ := List.mem_map.1 hk
        have hk0t : k0.target = t := (Leg.turn_target t v k0).symm.trans hkt
        have e : k0 = g := (hc c x hx).ascending.eq_of_target hk0 hg (hk0t.trans ht.symm)
        subst e
        change (Leg.turn t v k0).lane = i at hkl
        change (Leg.turn t v k0).state = w at hks
        rw [Leg.turn_same hk0t] at hkl hks
        exact ⟨hkl.symm.trans hl, hks.symm⟩
      · rintro ⟨rfl, rfl⟩
        refine ⟨_, g.turn t w, rfl, List.mem_map_of_mem hg, ?_⟩
        rw [Leg.turn_same ht]
        exact ⟨ht, hl, rfl⟩
    · rw [if_neg fun e => htr e.2]
      constructor
      · rintro ⟨y, k, hy, hk, hkt, hkl, hks⟩
        cases hy
        obtain ⟨k0, hk0, rfl⟩ := List.mem_map.1 hk
        have hk0t : k0.target = t := (Leg.turn_target rt v k0).symm.trans hkt
        change (Leg.turn rt v k0).lane = i at hkl
        change (Leg.turn rt v k0).state = w at hks
        rw [Leg.turn_other (hk0t ▸ htr)] at hkl hks
        exact ⟨x, k0, hx, hk0, hk0t, hkl, hks⟩
      · rintro ⟨y, k, hy, hk, hkt, hkl, hks⟩
        rw [hx] at hy; cases hy
        have e : k.turn rt v = k := Leg.turn_other (hkt ▸ htr) v
        exact ⟨_, k, rfl, List.mem_map.2 ⟨k, hk, e⟩, hkt, hkl, hks⟩
  · rw [if_neg hcr, if_neg fun e => hcr e.1]

theorem setLegState_master (c : CtxId) (m : Master) :
    (∃ x, (s.setLegState r v).ctx c = some x ∧ x.master = m) ↔ ∃ x, s.ctx c = some x ∧ x.master = m := by
  unfold State.setLegState
  split
  next x hx =>
    rw [State.ctx_setCtx]
    split
    next e =>
      subst e
      rw [hx]
      constructor
      · rintro ⟨y, hy, hm⟩; cases hy; exact ⟨x, rfl, hm⟩
      · rintro ⟨y, hy, hm⟩; cases hy; exact ⟨_, rfl, hm⟩
    next => rfl
  next => rfl

theorem setLegState_free {c : CtxId} (h : s.ctx c = none) : (s.setLegState r v).ctx c = none := by
  unfold State.setLegState
  split
  next x hx =>
    rw [State.ctx_setCtx]
    split
    next e => rw [← e, h] at hx; cases hx
    next => exact h
  next => exact h

end

theorem setLegState_lane (s : State) (r : LegRef) (v : LegState) (l : LaneId) : (s.setLegState r v).lane l = s.lane l := by
  unfold State.setLegState
  split
  · exact State.lane_setCtx ..
  · rfl

theorem setLegState_phase (s : State) (r : LegRef) (v : LegState) : (s.setLegState r v).phase = s.phase := by
  unfold State.setLegState
  split <;> rfl

/-! ## Refill (R92) -/

/-- A PENDING leg that joins its lane's queue stands there. -/
theorem legsStand_enqueue {s : State} (h : s.LegsStand) {l : LaneId} {r : LegRef}
    (hr : s.HasLeg r.ctx r.target l .pending) :
    ((s.setLegState r .queued).setLane l { s.lane l with queue := (s.lane l).queue ++ [r] }).LegsStand := by
  have hleg := setLegState_hasLeg (v := .queued) h.counted hr
  have hslot : ∀ i w, (((s.setLegState r .queued).setLane l { s.lane l with queue := (s.lane l).queue ++ [r] }).lane i).slot w =
      (s.lane i).slot w := fun i w => by
    rw [State.lane_setLane]
    split
    next e => rw [e]; rfl
    next => rw [setLegState_lane]
  have hnot : r ∉ (s.lane l).queue := fun hq => by
    cases (h.counted.hasLeg_unique hr ((h.queued l r).1 hq)).2
  have hqueue : ∀ i, (((s.setLegState r .queued).setLane l { s.lane l with queue := (s.lane l).queue ++ [r] }).lane i).queue =
      if i = l then (s.lane l).queue ++ [r] else (s.lane i).queue := fun i => by
    rw [State.lane_setLane]
    split
    · rfl
    · rw [setLegState_lane]
  refine ⟨setLegState_counts h.counted hr open_pending open_queued, fun i => ?_, fun i q => ?_, fun i c t => ?_,
    fun i w q c m t d hw => ?_, fun i w q c m t d hw v p n e hv => ?_⟩
  · rw [hqueue]
    split
    · exact (h.nodup l).append (List.nodup_singleton r) (by simpa using hnot)
    · exact h.nodup i
  · rw [hqueue]
    refine Iff.trans ?_ (hleg q.ctx q.target i .queued).symm
    by_cases hqr : q = r
    · subst hqr
      rw [if_pos rfl]
      split
      next e => simp [e]
      next e =>
        refine ⟨fun hq => ?_, fun hq => absurd hq.1 e⟩
        cases (h.counted.hasLeg_unique hr ((h.queued i q).1 hq)).2
    · rw [if_neg hqr, ← h.queued]
      split
      next e => subst e; simp [hqr]
      next => rfl
  · simp only [hslot]
    rw [h.issued]
    refine Iff.trans ?_ (hleg c t i .issued).symm
    split
    next e =>
      subst e
      refine ⟨fun hi => ?_, fun hi => by cases hi.2⟩
      cases (h.counted.hasLeg_unique hr hi).2
    next => rfl
  · rw [hslot] at hw
    exact (setLegState_master c m).2 (h.master i w q c m t d hw)
  · rw [hslot] at hw hv
    exact h.oneSlot i w q c m t d hw v p n e hv

theorem refill_stands {s : State} (h : s.LegsStand) (l : LaneId) : (s.refill l).LegsStand := by
  unfold State.refill
  split
  · exact h
  next r rest hp =>
    have hr := (mem_pendingFor s l r).1 (by rw [hp]; exact List.mem_cons_self)
    have e := legsStand_enqueue h hr
    rw [State.modifyLane, setLegState_lane]
    exact e

theorem refill_free {s : State} {c : CtxId} (h : s.ctx c = none) (l : LaneId) : (s.refill l).ctx c = none := by
  unfold State.refill
  split
  · exact h
  · exact setLegState_free h

theorem refill_phase (s : State) (l : LaneId) : (s.refill l).phase = s.phase := by
  unfold State.refill
  split
  · rfl
  · exact setLegState_phase ..

theorem refill_placed (s : State) (l : LaneId) : s.LegsPlaced → (s.refill l).LegsPlaced :=
  legsPlaced_of (refill_phase s l) (fun _ h => refill_free h l) fun _ h => refill_stands h l

/-! ## Issue (R94) -/

/-- The head of a queue goes into a FREE slot of its lane's window. -/
theorem legsStand_issue {s : State} (h : s.LegsStand) {l : LaneId} {r : LegRef} {rest : List LegRef}
    (hq : (s.lane l).queue = r :: rest) {w : SlotId} (hfree : (s.lane l).slot w = .free) {x : Ctx}
    (hx : s.ctx r.ctx = some x) {y : Lane} (hyq : y.queue = rest) {q : Byte} {d : Time}
    (hyw : y.slot w = .issued q r.ctx x.master r.target d) (hother : ∀ v, v ≠ w → y.slot v = (s.lane l).slot v) :
    ((s.setLane l y).setLegState r .issued).LegsStand := by
  have hr : s.HasLeg r.ctx r.target l .queued := (h.queued l r).1 (by rw [hq]; exact List.mem_cons_self)
  have hr' : (s.setLane l y).HasLeg r.ctx r.target l .queued := hr
  have hcounts : (s.setLane l y).Counts := h.counted
  have hleg := setLegState_hasLeg (v := .issued) hcounts hr'
  have hlane : ∀ i, ((s.setLane l y).setLegState r .issued).lane i = if i = l then y else s.lane i := fun i => by
    rw [setLegState_lane, State.lane_setLane]
  have hnodup := h.nodup l
  rw [hq, List.nodup_cons] at hnodup
  have hold : ∀ i v p n e, (s.lane i).slot v = .issued p r.ctx n r.target e → False := fun i v p n e hs => by
    cases (h.counted.hasLeg_unique hr ((h.issued i _ _).1 ⟨v, p, n, e, hs⟩)).2
  refine ⟨setLegState_counts hcounts hr' open_queued open_issued, fun i => ?_, fun i k => ?_, fun i c t => ?_,
    fun i v p c n t e hv => ?_, fun i v p c n t e hv v' p' n' e' hv' => ?_⟩
  · rw [hlane]
    split
    · rw [hyq]; exact hnodup.2
    · exact h.nodup i
  · refine Iff.trans ?_ (hleg k.ctx k.target i .queued).symm
    rw [hlane]
    by_cases hk : k = r
    · subst hk
      rw [if_pos rfl]
      refine ⟨fun hm => ?_, fun hm => by cases hm.2⟩
      split at hm
      · rw [hyq] at hm; exact absurd hm hnodup.1
      next hi => exact absurd (h.counted.hasLeg_unique hr ((h.queued i k).1 hm)).1.symm hi
    · rw [if_neg hk]
      change _ ↔ s.HasLeg k.ctx k.target i .queued
      rw [← h.queued]
      split
      next e => subst e; rw [hyq, hq, List.mem_cons]; simp [hk]
      next => rfl
  · refine Iff.trans ?_ (hleg c t i .issued).symm
    simp only [hlane]
    by_cases hk : (⟨c, t⟩ : LegRef) = r
    · subst hk
      rw [if_pos rfl]
      refine ⟨fun ⟨v, p, n, e, hv⟩ => ⟨?_, trivial⟩, fun hi => ?_⟩
      · split at hv
        next e => exact e
        next => exact (hold i v p n e hv).elim
      · rw [if_pos hi.1]; exact ⟨w, q, x.master, d, hyw⟩
    · rw [if_neg hk]
      change _ ↔ s.HasLeg c t i .issued
      rw [← h.issued]
      split
      next e =>
        subst e
        refine exists_congr fun v => ?_
        by_cases hv : v = w
        · subst hv
          rw [hyw, hfree]
          refine ⟨fun ⟨p, n, e, hs⟩ => absurd ?_ hk, fun ⟨p, n, e, hs⟩ => by cases hs⟩
          cases hs; rfl
        · rw [hother v hv]
      next => rfl
  · rw [hlane] at hv
    rw [setLegState_master]
    change ∃ x, s.ctx c = some x ∧ x.master = n
    split at hv
    next e =>
      subst e
      by_cases hvw : v = w
      · subst hvw
        rw [hyw] at hv
        cases hv; exact ⟨x, hx, rfl⟩
      · rw [hother v hvw] at hv
        exact h.master i v p c n t _ hv
    next => exact h.master i v p c n t e hv
  · rw [hlane] at hv hv'
    split at hv
    next e =>
      subst e
      rw [if_pos rfl] at hv'
      by_cases hvw : v = w <;> by_cases hvw' : v' = w
      · rw [hvw, hvw']
      · subst hvw
        rw [hyw] at hv; cases hv
        rw [hother v' hvw'] at hv'
        exact (hold i v' p' n' e' hv').elim
      · subst hvw'
        rw [hyw] at hv'; cases hv'
        rw [hother v hvw] at hv
        exact (hold i v p n _ hv).elim
      · rw [hother v hvw] at hv
        rw [hother v' hvw'] at hv'
        exact h.oneSlot i v p c n t _ hv v' p' n' e' hv'
    next hi =>
      rw [if_neg hi] at hv'
      exact h.oneSlot i v p c n t e hv v' p' n' e' hv'

/-! ## Orphaning a master (R71 to R75) -/

theorem Ctx.Counted.orphan {x : Ctx} (h : x.Counted) : Ctx.Counted { x with state := .orphan } := by
  obtain ⟨hasc, hunfinished, hpos, hok, hff, -⟩ := h
  exact ⟨hasc, hunfinished, hpos, hok, hff, fun _ hs => absurd rfl hs⟩

theorem orphan_ctx (s : State) (c d : CtxId) :
    (s.orphan c).ctx d = if d = c then (s.ctx c).map (fun x => { x with state := .orphan }) else s.ctx d := by
  unfold State.orphan
  split
  next x hx => rw [State.ctx_setCtx, hx]; rfl
  next hx =>
    split
    next e => rw [e, hx]; rfl
    next => rfl

theorem orphan_ended {s : State} (hc : s.Counts) (c : CtxId) : Ended s (s.orphan c) (fun _ => false) where
  counts := fun d y hy => by
    rw [orphan_ctx] at hy
    split at hy
    · obtain ⟨x, hx, rfl⟩ := Option.map_eq_some_iff.1 hy
      exact (hc c x hx).orphan
    · exact hc d y hy
  legs := fun d t l v _ => by
    unfold State.HasLeg
    rw [orphan_ctx]
    split
    next e =>
      subst e
      cases s.ctx d <;> simp
    next => simp
  masters := fun d y hy => by
    rw [orphan_ctx] at hy
    split at hy
    next e =>
      subst e
      obtain ⟨x, hx, rfl⟩ := Option.map_eq_some_iff.1 hy
      exact ⟨x, hx, rfl⟩
    next => exact ⟨y, hy, rfl⟩

theorem orphan_free {s : State} {c d : CtxId} (h : s.ctx d = none) : (s.orphan c).ctx d = none := by
  rw [orphan_ctx]
  split
  next e => rw [← e, h]; rfl
  next => exact h

theorem orphan_lane (s : State) (c : CtxId) (l : LaneId) : (s.orphan c).lane l = s.lane l := by
  unfold State.orphan
  split
  · exact State.lane_setCtx ..
  · rfl

theorem Ended.congr_gone {s t : State} {p q : LegRef → Bool} (h : Ended s t p) (e : ∀ r, q r = p r) : Ended s t q := by
  have : q = p := funext e
  rw [this]; exact h

/-- The contexts of these numbers become ORPHAN. -/
def State.orphans' (s : State) (cs : List (CtxId × Ctx)) : State := cs.foldl (fun acc c => acc.orphan c.1) s

theorem orphans'_ended {s : State} (hc : s.Counts) (cs : List (CtxId × Ctx)) :
    Ended s (s.orphans' cs) (fun _ => false) := by
  induction cs generalizing s with
  | nil => exact ended_of_contexts hc rfl
  | cons c cs ih =>
    have h1 := orphan_ended hc c.1
    exact (h1.trans (ih h1.counts)).congr_gone fun _ => rfl

theorem orphans'_lane (s : State) (cs : List (CtxId × Ctx)) (l : LaneId) : (s.orphans' cs).lane l = s.lane l :=
  foldl_rel (R := fun s t => t.lane l = s.lane l) (f := fun (s : State) (c : CtxId × Ctx) => s.orphan c.1) (fun _ => rfl) (fun h k => k.trans h) (fun s c => orphan_lane s c.1 l) cs s

theorem orphans'_free {s : State} {d : CtxId} (h : s.ctx d = none) (cs : List (CtxId × Ctx)) :
    (s.orphans' cs).ctx d = none :=
  foldl_rel (R := fun s t => s.ctx d = none → t.ctx d = none) (fun _ => id) (fun h k => k ∘ h)
    (fun _ _ h => orphan_free h) cs s h

/-- Legs that are PENDING end: no queue and no window names one of them. -/
theorem legsStand_endPending {s : State} (h : s.LegsStand) {t : State} {rs : List LegRef} (he : Ended s t (fun r => decide (r ∈ rs)))
    (hlane : ∀ l, t.lane l = s.lane l) (hrs : ∀ r ∈ rs, ∃ l, s.HasLeg r.ctx r.target l .pending) : t.LegsStand := by
  have hnot : ∀ {c i l v}, s.HasLeg c i l v → v ≠ .pending → decide ((⟨c, i⟩ : LegRef) ∈ rs) = false := fun hleg hv =>
    decide_eq_false fun hm => by
      obtain ⟨l', hl'⟩ := hrs _ hm
      exact hv (h.counted.hasLeg_unique hleg hl').2
  refine legsStand_of_ended h he (fun l => ?_) fun l w q c m i d => ?_
  · rw [hlane, filter_not_eq_self fun r hr => hnot ((h.queued l r).1 hr) (by simp)]
  · rw [hlane]
    exact ⟨fun hw => ⟨hw, hnot ((h.issued l c i).1 ⟨w, q, m, d, hw⟩) (by simp)⟩, And.left⟩

theorem mem_legsInState {cs : List (CtxId × Ctx)} {v : LegState} {r : LegRef} :
    r ∈ legsInState cs v ↔ ∃ x g, (r.ctx, x) ∈ cs ∧ g ∈ x.legs ∧ g.target = r.target ∧ g.state = v := by
  simp only [legsInState, List.mem_flatMap, List.mem_map, List.mem_filter, decide_eq_true_eq]
  constructor
  · rintro ⟨⟨c, x⟩, hx, g, ⟨hg, hs⟩, rfl⟩
    exact ⟨x, g, hx, hg, rfl, hs⟩
  · rintro ⟨x, g, hx, hg, ht, hs⟩
    exact ⟨(r.ctx, x), hx, g, ⟨hg, hs⟩, by rw [ht]⟩

theorem mem_tornContexts {s : State} {m : Master} {c : CtxId} {x : Ctx} :
    (c, x) ∈ s.tornContexts m ↔ s.ctx c = some x ∧ x.master = m ∧ x.tag.isSome = true := by
  simp [State.tornContexts, mem_usedContexts]

/-- A lane gives up QUEUED legs, which end. -/
theorem legsStand_withdraw {s : State} (h : s.LegsStand) (gone : List LegRef) (l : LaneId) :
    ((s.setLane l { s.lane l with queue := (s.lane l).queue.filter (fun r => !gone.contains r) }).completeAll
      ((s.lane l).queue.filter (fun r => gone.contains r)) .cancelled).LegsStand := by
  generalize hrs : (s.lane l).queue.filter (fun r => gone.contains r) = rs
  generalize hx : ({ s.lane l with queue := (s.lane l).queue.filter (fun r => !gone.contains r) } : Lane) = x
  have hmem : ∀ r, r ∈ rs ↔ r ∈ (s.lane l).queue ∧ gone.contains r = true := fun r => by rw [← hrs, List.mem_filter]
  have hcounts : (s.setLane l x).Counts := h.counted
  have hended := ended_setLane (completeAll_ended hcounts (o := .cancelled) (by simp) rs)
  have hlane := fun i => (completeAll_frame rs .cancelled (s.setLane l x)).lane i
  refine legsStand_of_ended h hended (fun i => ?_) fun i w q c m t d => ?_
  · rw [hlane, State.lane_setLane]
    by_cases hi : i = l
    · subst hi
      rw [if_pos rfl, ← hx]
      refine List.filter_congr fun r hr => ?_
      rw [Bool.eq_iff_iff]
      simp [hmem, hr]
    · rw [if_neg hi, filter_not_eq_self fun r hr => decide_eq_false fun hr' => hi ?_]
      exact (h.counted.hasLeg_unique ((h.queued i r).1 hr) ((h.queued l r).1 ((hmem r).1 hr').1)).1
  · have hslot : ((s.setLane l x).lane i).slot w = (s.lane i).slot w := by
      rw [State.lane_setLane]
      split
      next e => rw [e, ← hx]; rfl
      next => rfl
    rw [hlane, hslot]
    refine ⟨fun hw => ⟨hw, decide_eq_false fun hr' => ?_⟩, And.left⟩
    cases (h.counted.hasLeg_unique ((h.issued i c t).1 ⟨w, q, m, d, hw⟩) ((h.queued l _).1 ((hmem _).1 hr').1)).2

theorem withdraw_stands {s : State} (h : s.LegsStand) (gone : List LegRef) (l : LaneId) :
    (s.withdraw gone l).LegsStand :=
  foldl_rel (R := fun s t => s.LegsStand → t.LegsStand) (fun _ => id) (fun h k => k ∘ h)
    (fun _ _ h => refill_stands h l) _ _ (legsStand_withdraw h gone l)

theorem withdraw_free {s : State} {c : CtxId} (h : s.ctx c = none) (gone : List LegRef) (l : LaneId) :
    (s.withdraw gone l).ctx c = none := by
  refine foldl_rel (R := fun s t => s.ctx c = none → t.ctx c = none) (fun _ => id) (fun h k => k ∘ h)
    (fun _ _ h => refill_free h l) _ _ (completeAll_free ?_ _ _)
  exact h

/-- The state of a teardown after the contexts have become ORPHAN and their PENDING legs have ended. -/
def State.pendingCancelled (s : State) (m : Master) : State :=
  (s.orphans' (s.tornContexts m)).completeAll (legsInState (s.tornContexts m) .pending) .cancelled

theorem orphanMaster_eq (s : State) (m : Master) :
    s.orphanMaster m =
      (List.finRange 12).foldl (fun acc l => acc.withdraw (legsInState (s.tornContexts m) .queued) l)
        (s.pendingCancelled m) := rfl

theorem pendingCancelled_ended {s : State} (hc : s.Counts) (m : Master) :
    Ended s (s.pendingCancelled m) (fun r => decide (r ∈ legsInState (s.tornContexts m) .pending)) := by
  have h1 := orphans'_ended hc (s.tornContexts m)
  exact (h1.trans (completeAll_ended h1.counts (by simp) _)).congr_gone fun _ => rfl

theorem pendingCancelled_lane (s : State) (m : Master) (l : LaneId) : (s.pendingCancelled m).lane l = s.lane l :=
  ((completeAll_frame _ _ _).lane l).trans (orphans'_lane ..)

theorem pendingCancelled_stands {s : State} (h : s.LegsStand) (m : Master) : (s.pendingCancelled m).LegsStand := by
  refine legsStand_endPending h (pendingCancelled_ended h.counted m) (pendingCancelled_lane s m) fun r hr => ?_
  obtain ⟨x, g, hx, hg, ht, hs⟩ := mem_legsInState.1 hr
  exact ⟨g.lane, x, g, (mem_tornContexts.1 hx).1, hg, ht, rfl, hs⟩

theorem orphanMaster_stands {s : State} (h : s.LegsStand) (m : Master) : (s.orphanMaster m).LegsStand :=
  foldl_rel (R := fun s t => s.LegsStand → t.LegsStand) (fun _ => id) (fun h k => k ∘ h)
    (fun _ l h => withdraw_stands h _ l) _ _ (pendingCancelled_stands h m)

theorem orphanMaster_free {s : State} {c : CtxId} (h : s.ctx c = none) (m : Master) : (s.orphanMaster m).ctx c = none :=
  foldl_rel (R := fun s t => s.ctx c = none → t.ctx c = none) (fun _ => id) (fun h k => k ∘ h)
    (fun _ l h => withdraw_free h _ l) _ _ (completeAll_free (orphans'_free h _) _ _)

/-! ## Placement (R49, R51) -/

/-- A leg list as admission hands it on: in ascending target ID, each leg PENDING or DONE and not OK, one to be sent. -/
structure Fresh (legs : List Leg) : Prop where
  ascending : Ascending legs
  state     : ∀ g ∈ legs, g.state = .pending ∨ ∃ o, o ≠ .ok ∧ g.state = .done o
  toSend    : ∃ g ∈ legs, g.unfinished = true

theorem placedAs_target {g h : Leg} (k : PlacedAs g h) : h.target = g.target ∧ h.lane = g.lane ∧ h.unfinished = g.unfinished := by
  rcases k with ⟨-, rfl⟩ | ⟨hu, rfl | rfl⟩
  · exact ⟨rfl, rfl, rfl⟩
  · exact ⟨rfl, rfl, hu.symm⟩
  · exact ⟨rfl, rfl, rfl⟩

/-- A placed leg is PENDING, QUEUED or DONE and not OK. -/
def Leg.IsPlaced (g : Leg) : Prop := g.state = .pending ∨ g.state = .queued ∨ ∃ o, o ≠ .ok ∧ g.state = .done o

theorem placed_targets {legs out : List Leg} (h : List.Forall₂ PlacedAs legs out) :
    out.map Leg.target = legs.map Leg.target := by
  induction h with
  | nil => rfl
  | cons hp _ ih => rw [List.map_cons, List.map_cons, ih, (placedAs_target hp).1]

theorem placed_isPlaced {legs out : List Leg} (h : List.Forall₂ PlacedAs legs out)
    (hs : ∀ g ∈ legs, g.state = .pending ∨ ∃ o, o ≠ .ok ∧ g.state = .done o) : ∀ g ∈ out, g.IsPlaced := by
  induction h with
  | nil => exact fun g hg => by cases hg
  | cons hp _ ih =>
    intro g hg
    rcases List.mem_cons.1 hg with rfl | hg
    · rcases hp with ⟨-, rfl⟩ | ⟨-, rfl | rfl⟩
      · exact (hs _ List.mem_cons_self).elim .inl fun h => .inr (.inr h)
      · exact .inr (.inl rfl)
      · exact (hs _ List.mem_cons_self).elim .inl fun h => .inr (.inr h)
    · exact ih (fun k hk => hs k (List.mem_cons_of_mem _ hk)) g hg

theorem placed_unfinished {legs out : List Leg} (h : List.Forall₂ PlacedAs legs out) :
    out.countP Leg.unfinished = legs.countP Leg.unfinished := by
  induction h with
  | nil => rfl
  | cons hp _ ih => rw [List.countP_cons, List.countP_cons, ih, (placedAs_target hp).2.2]

theorem Leg.IsPlaced.notOk {g : Leg} (h : g.IsPlaced) : g.state ≠ .done .ok := fun e => by
  rcases h with h | h | ⟨o, ho, h⟩ <;> rw [e] at h <;> cases h
  exact ho rfl

theorem Leg.IsPlaced.notIssued {g : Leg} (h : g.IsPlaced) : g.state ≠ .issued := fun e => by
  rcases h with h | h | ⟨o, ho, h⟩ <;> rw [e] at h <;> cases h

theorem firstDone_eq {legs : List Leg} (h : ∀ g ∈ legs, g.IsPlaced) : firstDone legs = legs.findSome? Leg.failure := by
  unfold firstDone
  induction legs with
  | nil => rfl
  | cons g gs ih =>
    rw [List.findSome?_cons, List.findSome?_cons, ih fun k hk => h k (List.mem_cons_of_mem _ hk)]
    have hg := h g List.mem_cons_self
    have e : g.outcome.map (fun o => (g.target, o)) = g.failure := by
      unfold Leg.outcome Leg.failure
      rcases hg with hs | hs | ⟨o, ho, hs⟩ <;> rw [hs]
      · rfl
      · rfl
      · cases o with
        | ok => exact absurd rfl ho
        | _ => rfl
    rw [e]

/-- The context that an admitted request takes has the right counts (R58, R62, R64). -/
theorem newContext_counted (s : State) (m : Master) (tag : Byte) (q : TargetRequest) {legs out : List Leg} (h : Fresh legs)
    (hp : List.Forall₂ PlacedAs legs out) : (s.newContext m tag q out).Counted := by
  have hplaced := placed_isPlaced hp h.state
  refine ⟨?_, rfl, ?_, ?_, firstDone_eq hplaced, fun _ _ => ⟨?_, fun g hg hs => absurd hs (hplaced g hg).notOk⟩⟩
  · change (out.map Leg.target).Pairwise (· < ·)
    rw [placed_targets hp]; exact h.ascending
  · change 0 < out.countP Leg.unfinished
    rw [placed_unfinished hp, List.countP_pos_iff]; exact h.toSend
  · change 0 = out.countP _
    exact (List.countP_eq_zero.2 fun g hg => by simpa using (hplaced g hg).notOk).symm
  · change none = (out.find? _).bind _
    rw [List.find?_eq_none.2 fun g hg => by simpa using (hplaced g hg).notOk]; rfl

theorem placeLegs_spec_fresh {legs : List Leg} (h : Fresh legs) (s : State) (m : Master) (c : CtxId) :
    Placed s (s.placeLegs m c [] legs).1 m c legs (s.placeLegs m c [] legs).2 := by
  obtain ⟨out, e, hp⟩ := placeLegs_spec m c legs s [] (fun g hg hu => (h.state g hg).elim id fun ⟨o, _, ho⟩ => by
    exact absurd ho ((Leg.unfinished_iff g).1 hu o)) (fun g hg => by cases hg)
  rw [e]; exact hp

theorem nodup_queuedOn {c : CtxId} {out : List Leg} (h : Ascending out) (l : LaneId) : (queuedOn c out l).Nodup := by
  have hn : (out.map Leg.target).Nodup := h.imp fun e => ne_of_lt e
  have hf : ((out.filter (fun g => g.lane = l ∧ g.state = .queued)).map Leg.target).Nodup :=
    hn.sublist ((List.filter_sublist).map _)
  have e : queuedOn c out l = ((out.filter (fun g => g.lane = l ∧ g.state = .queued)).map Leg.target).map (LegRef.mk c) := by
    simp [queuedOn]
  rw [e]
  exact hf.map fun a b hab => (LegRef.mk.inj hab).2

theorem mem_queuedOn {c : CtxId} {out : List Leg} {l : LaneId} {r : LegRef} :
    r ∈ queuedOn c out l ↔ r.ctx = c ∧ ∃ g ∈ out, g.target = r.target ∧ g.lane = l ∧ g.state = .queued := by
  simp only [queuedOn, List.mem_map, List.mem_filter, decide_eq_true_eq]
  constructor
  · rintro ⟨g, ⟨hg, hl, hs⟩, rfl⟩; exact ⟨rfl, g, hg, rfl, hl, hs⟩
  · rintro ⟨rfl, g, hg, ht, hl, hs⟩; exact ⟨g, ⟨hg, hl, hs⟩, by rw [ht]⟩

theorem allocate_stands {s : State} (h : s.LegsStand) {legs : List Leg} (hf : Fresh legs) {c : CtxId} (hc : s.ctx c = none)
    (m : Master) (tag : Byte) (q : TargetRequest) : (s.allocate m tag q legs c).LegsStand := by
  have hp := placeLegs_spec_fresh hf s m c
  have hnew := newContext_counted s m tag q hf hp.pairs
  have hplaced := placed_isPlaced hp.pairs hf.state
  have hasc : Ascending (s.placeLegs m c [] legs).2 := by
    unfold Ascending
    rw [placed_targets hp.pairs]; exact hf.ascending
  unfold State.allocate
  dsimp only
  generalize hu : (s.placeLegs m c [] legs).1 = u at hp
  generalize (s.placeLegs m c [] legs).2 = out at hp hnew hplaced hasc
  have hcontexts : ∀ d, u.ctx d = s.ctx d := fun d => by rw [hp.rest]; rfl
  have hctx : ∀ d, (State.setCtx { u with admission := s.admission + 1 } c (some (s.newContext m tag q out))).ctx d =
      if d = c then some (s.newContext m tag q out) else s.ctx d := fun d => by
    rw [State.ctx_setCtx, ← hcontexts]; rfl
  have hqueue : ∀ l, ((State.setCtx { u with admission := s.admission + 1 } c (some (s.newContext m tag q out))).lane l).queue =
      (s.lane l).queue ++ queuedOn c out l := fun l => congrArg Lane.queue (hp.lanes l)
  have hslot : ∀ l w, ((State.setCtx { u with admission := s.admission + 1 } c (some (s.newContext m tag q out))).lane l).slot w =
      (s.lane l).slot w := fun l w => by
    have e := congrArg Lane.window (hp.lanes l)
    change (u.lane l).window[w] = (s.lane l).window[w]
    rw [e]
  generalize State.setCtx { u with admission := s.admission + 1 } c (some (s.newContext m tag q out)) = t at hctx hqueue hslot
  have hother : ∀ d i l v, d ≠ c → (t.HasLeg d i l v ↔ s.HasLeg d i l v) := fun d i l v hd => by
    unfold State.HasLeg; rw [hctx, if_neg hd]
  have hnone : ∀ {i l v}, ¬ s.HasLeg c i l v := fun ⟨x, _, hx, _⟩ => by rw [hc] at hx; cases hx
  have hthis : ∀ i l v, t.HasLeg c i l v ↔ ∃ g ∈ out, g.target = i ∧ g.lane = l ∧ g.state = v := fun i l v => by
    unfold State.HasLeg
    rw [hctx, if_pos rfl]
    constructor
    · rintro ⟨x, g, hx, hg, hr⟩; cases hx; exact ⟨g, hg, hr⟩
    · rintro ⟨g, hg, hr⟩; exact ⟨_, g, rfl, hg, hr⟩
  refine ⟨fun d x hx => ?_, fun l => ?_, fun l r => ?_, fun l d i => ?_, fun l w p d n i e hw => ?_,
    fun l w p d n i e hw v p' n' e' hv => ?_⟩
  · rw [hctx] at hx
    split at hx
    · cases hx; exact hnew
    · exact h.counted d x hx
  · rw [hqueue]
    refine (h.nodup l).append (nodup_queuedOn hasc l) fun r hr hr' => ?_
    obtain ⟨e, -⟩ := mem_queuedOn.1 hr'
    have := (h.queued l r).1 hr
    rw [e] at this
    exact hnone this
  · rw [hqueue, List.mem_append, mem_queuedOn, h.queued]
    by_cases hr : r.ctx = c
    · rw [hr, hthis]
      simp [hnone]
    · rw [hother _ _ _ _ hr]
      simp [hr]
  · simp only [hslot]
    rw [h.issued]
    by_cases hd : d = c
    · subst hd
      rw [hthis]
      refine ⟨fun hl => absurd hl hnone, fun ⟨g, hg, _, _, hs⟩ => absurd hs (hplaced g hg).notIssued⟩
    · rw [hother _ _ _ _ hd]
  · rw [hslot] at hw
    obtain ⟨x, hx, hm⟩ := h.master l w p d n i e hw
    refine ⟨x, ?_, hm⟩
    rw [hctx, if_neg, hx]
    rintro rfl
    rw [hc] at hx; cases hx
  · rw [hslot] at hw hv
    exact h.oneSlot l w p d n i e hw v p' n' e' hv

end Sys2Proof.Machine
end

section
/-! SUPPORT. What every step keeps: the bounds (R55, R91, R149, R156, R161, R169, R170, R124) and each leg in its place
(R52), as one relation between a state and the next that composes. -/

namespace Sys2Proof.Machine

/-- The second state has the same waiting commands, and each bound that the first meets, but for the lane queues. -/
structure KeepsRest (s t : State) : Prop where
  queue    : t.pending = s.pending
  quotas   : s.QuotasFit → t.QuotasFit
  records  : s.RecordsConsecutive → t.RecordsConsecutive
  windows  : s.WindowsGuard → t.WindowsGuard
  slots    : s.SlotsFit → t.SlotsFit
  response : s.ResponseCreditFits → t.ResponseCreditFits
  credits  : s.CreditsFit → t.CreditsFit
  claims   : s.ClaimsApart → t.ClaimsApart

/-- The second state has the same waiting commands, and each bound that the first meets, and its legs in their places if
the first has. -/
structure Keeps (s t : State) : Prop extends KeepsRest s t where
  lanes : s.QueuesFit → t.QueuesFit
  legs  : s.LegsPlaced → t.LegsPlaced

theorem KeepsRest.refl (s : State) : KeepsRest s s := ⟨rfl, id, id, id, id, id, id, id⟩

theorem KeepsRest.trans {s t u : State} (h : KeepsRest s t) (k : KeepsRest t u) : KeepsRest s u where
  queue := k.queue.trans h.queue
  quotas := k.quotas ∘ h.quotas
  records := k.records ∘ h.records
  windows := k.windows ∘ h.windows
  slots := k.slots ∘ h.slots
  response := k.response ∘ h.response
  credits := k.credits ∘ h.credits
  claims := k.claims ∘ h.claims

theorem Keeps.refl (s : State) : Keeps s s := ⟨.refl s, id, id⟩

theorem Keeps.trans {s t u : State} (h : Keeps s t) (k : Keeps t u) : Keeps s u :=
  ⟨h.toKeepsRest.trans k.toKeepsRest, k.lanes ∘ h.lanes, k.legs ∘ h.legs⟩

/-! ## Claims by their owners and members -/

/-- That claims are apart is a fact about who owns a record and what it covers. -/
theorem claimsApart_iff (s : State) :
    s.ClaimsApart ↔ ∀ k j v w, s.scopeOf k = some v → s.scopeOf j = some w → k ≠ j → ∀ t ∈ v.2, t ∉ w.2 := by
  constructor
  · intro h k j v w hk hj
    obtain ⟨c, hc, rfl⟩ := Option.map_eq_some_iff.1 hk
    obtain ⟨d, hd, rfl⟩ := Option.map_eq_some_iff.1 hj
    exact h k j c d hc hd
  · intro h k j c d hc hd
    exact h k j (c.owner, c.members) (d.owner, d.members) (by simp [State.scopeOf, hc]) (by simp [State.scopeOf, hd])

theorem claimsApart_congr {s t : State} (h : ∀ k, t.scopeOf k = s.scopeOf k) : s.ClaimsApart → t.ClaimsApart := by
  simp only [claimsApart_iff, h, imp_self]

theorem claimsApart_setClaim_none (s : State) (k : ClaimId) (h : s.ClaimsApart) : (s.setClaim k none).ClaimsApart := by
  intro i j c d hc hd
  rw [State.claim_setClaim] at hc hd
  split at hc
  · cases hc
  · split at hd
    · cases hd
    · exact h i j c d hc hd

/-! ## Ports by what the bounds read of them -/

theorem asleep_congr {s t : State} (h : t.phase = s.phase) : t.Asleep ↔ s.Asleep := by
  unfold State.Asleep; rw [h]

theorem Port.outer_fields {p q : Port} (h : q.outer = p.outer) :
    q.link = p.link ∧ q.requestCredit = p.requestCredit ∧ q.buffer = p.buffer ∧ q.creditsOwed = p.creditsOwed ∧
      q.responseCredit = p.responseCredit :=
  ⟨show q.outer.link = p.outer.link by rw [h], show q.outer.requestCredit = p.outer.requestCredit by rw [h],
    show q.outer.buffer = p.outer.buffer by rw [h], show q.outer.creditsOwed = p.outer.creditsOwed by rw [h],
    show q.outer.responseCredit = p.outer.responseCredit by rw [h]⟩

/-- What an occurrence leaves alone keeps every bound. -/
theorem FaultFrame.keeps {s t : State} (h : FaultFrame s t) (hlegs : s.LegsPlaced → t.LegsPlaced) : Keeps s t where
  queue := congrArg Fixed.pending h.fixed
  quotas := fun hq => by
    have h0 : t.quotaM0 = s.quotaM0 := congrArg Fixed.quotaM0 h.fixed
    have h1 : t.quotaM1 = s.quotaM1 := congrArg Fixed.quotaM1 h.fixed
    rw [State.QuotasFit, h0, h1]; exact hq
  lanes := fun hl l => by
    rcases h.queues l with e | e <;> rw [e]
    · exact hl l
    · exact Nat.zero_le _
  records := h.records
  windows := h.windows
  slots := fun hs m => by
    have e := h.slots m
    unfold Port.slotsUsed at e
    rw [e]; exact hs m
  response := fun hr m => by
    obtain ⟨-, -, -, -, e⟩ := Port.outer_fields (h.outer m)
    rw [e]; exact hr m
  credits := fun hc => by
    have hp : t.phase = s.phase := congrArg Fixed.phase h.fixed
    refine ⟨fun m => ?_, fun hsleep m => ?_⟩ <;> obtain ⟨el, er, eb, eo, -⟩ := Port.outer_fields (h.outer m)
    · unfold Port.CreditsFit; rw [el, er, eb, eo]; exact hc.1 m
    · rw [el]; exact hc.2 ((asleep_congr hp).1 hsleep) m
  claims := claimsApart_congr h.scopes
  legs := hlegs

theorem LegFrame.keeps {s t : State} (h : LegFrame s t) (hlegs : s.LegsPlaced → t.LegsPlaced) : Keeps s t :=
  h.toFault.keeps hlegs

theorem occur_keeps (s : State) (x : Source) (f : FaultFields) : Keeps s (s.occur x f) := (occur_frame s x f).keeps (occur_placed s x f)

theorem fillSlot_keeps (s : State) (m : Master) (r : Response) : Keeps s (s.fillSlot m r) :=
  (fillSlot_frame s m r).keeps ((fillSlot_frame s m r).placed_of_contexts (fillSlot_contexts s m r))

theorem answer_keeps (s : State) (m : Master) (tag code : Byte) (status : Status) (g : Option (BitVec 16))
    (bytes : List Byte) : Keeps s (s.answer m tag code status g bytes) := fillSlot_keeps ..

theorem invalid_keeps (s : State) (m : Master) (tag code reason : Byte) : Keeps s (s.invalid m tag code reason) :=
  answer_keeps ..

/-- The fields that the bounds and the places of the legs read. -/
def State.bounded (s : State) :=
  (s.phase, s.pending, s.quotaM0, s.quotaM1, s.lanes, s.records, s.nextRecord, s.alertM0, s.alertM1, s.portM0, s.portM1,
    s.claims, s.contexts)

/-- Where no bound reads what has changed, every bound is kept. -/
theorem keeps_of_bounded {s t : State} (h : t.bounded = s.bounded) : Keeps s t := by
  simp only [State.bounded, Prod.mk.injEq] at h
  obtain ⟨hphase, hpending, hq0, hq1, hlanes, hrecords, hnext, ha0, ha1, hp0, hp1, hclaims, hcontexts⟩ := h
  have hport : ∀ m, t.port m = s.port m := fun m => by cases m <;> assumption
  have halert : ∀ m, t.alert m = s.alert m := fun m => by cases m <;> assumption
  have hlane : ∀ l, t.lane l = s.lane l := fun l => by simp [State.lane, hlanes]
  have hscope : ∀ k, t.scopeOf k = s.scopeOf k := fun k => by simp [State.scopeOf, State.claim, hclaims]
  refine ⟨⟨hpending, fun h => ?_, recordsConsecutive_of_eq hrecords hnext,
    windowsGuard_of_eq (fun m => by rw [hport]) (fun m => by rw [halert]), fun h m => ?_, fun h m => ?_,
    fun h => ⟨fun m => ?_, fun hs m => ?_⟩, claimsApart_congr hscope⟩, fun h l => ?_,
    legsPlaced_congr hphase hcontexts fun l => by rw [hlane]⟩
  · rw [State.QuotasFit, hq0, hq1]; exact h
  · rw [hport]; exact h m
  · rw [hport]; exact h m
  · rw [hport]; exact h.1 m
  · rw [hport]; exact h.2 ((asleep_congr hphase).1 hs) m
  · rw [hlane]; exact h l

/-- A port that keeps its bounds in every state of the part. -/
structure PortKeeps (p q : Port) : Prop where
  slots    : p.slotsUsed ≤ 24 → q.slotsUsed ≤ 24
  response : p.responseCredit ≤ 16 → q.responseCredit ≤ 16
  credits  : p.CreditsFit → q.CreditsFit
  ready    : q.alertReady = p.alertReady ∨ q.alertReady = none

/-- What the bounds read of a port, besides its ALERT ready. -/
def Port.bounded (p : Port) := (p.link, p.slotsUsed, p.responseCredit, p.requestCredit, p.buffer, p.creditsOwed)

theorem portKeeps_of_bounded {p q : Port} (h : q.bounded = p.bounded)
    (hr : q.alertReady = p.alertReady ∨ q.alertReady = none) : PortKeeps p q := by
  simp only [Port.bounded, Prod.mk.injEq] at h
  obtain ⟨hlink, hslots, hresponse, hrequest, hbuffer, howed⟩ := h
  refine ⟨fun h => by rwa [hslots], fun h => by rwa [hresponse], fun h => ?_, hr⟩
  unfold Port.CreditsFit; rw [hlink, hrequest, hbuffer, howed]; exact h

theorem PortKeeps.trans {p q r : Port} (h : PortKeeps p q) (k : PortKeeps q r) : PortKeeps p r where
  slots := k.slots ∘ h.slots
  response := k.response ∘ h.response
  credits := k.credits ∘ h.credits
  ready := k.ready.elim (fun e => by rw [e]; exact h.ready) .inr

/-- A port is replaced, on a part whose start-up hold has ended or without bringing its link UP. -/
theorem setPort_keeps {s : State} {m : Master} {q : Port} (h : PortKeeps (s.port m) q)
    (hl : s.Asleep → q.link = .up → (s.port m).link = .up) : Keeps s (s.setPort m q) where
  queue := by simp
  quotas := by simp [State.QuotasFit]
  lanes := by simp [State.QueuesFit]
  records := by simp [State.RecordsConsecutive]
  windows := fun hw i => by
    rw [State.port_setPort, State.alert_setPort]
    split
    next e =>
      subst e
      rcases h.ready with e | e <;> rw [e]
      · exact hw i
      · simp
    next => exact hw i
  slots := fun hs i => by
    rw [State.port_setPort]
    split
    next e => subst e; exact h.slots (hs i)
    next => exact hs i
  response := fun hr i => by
    rw [State.port_setPort]
    split
    next e => subst e; exact h.response (hr i)
    next => exact hr i
  credits := fun hc => by
    have hp : (s.setPort m q).phase = s.phase := by simp
    refine ⟨fun i => ?_, fun hs i => ?_⟩ <;> rw [State.port_setPort] <;> split
    next e => subst e; exact h.credits (hc.1 i)
    next => exact hc.1 i
    next e => subst e; exact fun hup => hc.2 ((asleep_congr hp).1 hs) i (hl ((asleep_congr hp).1 hs) hup)
    next => exact hc.2 ((asleep_congr hp).1 hs) i
  claims := claimsApart_congr fun k => by simp [State.scopeOf]
  legs := legsPlaced_congr (by simp) (by simp) fun l => by simp

theorem modifyPort_keeps {s : State} {m : Master} {f : Port → Port} (h : PortKeeps (s.port m) (f (s.port m)))
    (hl : s.Asleep → (f (s.port m)).link = .up → (s.port m).link = .up) : Keeps s (s.modifyPort m f) := setPort_keeps h hl

/-- Where nothing the bounds read of a port changes, they are kept. -/
theorem modifyPort_keeps_of_bounded {s : State} {m : Master} {f : Port → Port}
    (h : (f (s.port m)).bounded = (s.port m).bounded)
    (hr : (f (s.port m)).alertReady = (s.port m).alertReady ∨ (f (s.port m)).alertReady = none) :
    Keeps s (s.modifyPort m f) :=
  modifyPort_keeps (portKeeps_of_bounded h hr) fun _ hup => by
    have e : (f (s.port m)).link = (s.port m).link := congrArg Prod.fst h
    rwa [← e]

theorem setAlert_keeps {s : State} {m : Master} {a : AlertState}
    (h : (s.alert m).busy = true → a.busy = true ∨ (s.port m).alertReady = none) : Keeps s (s.setAlert m a) where
  queue := by simp
  quotas := by simp [State.QuotasFit]
  lanes := by simp [State.QueuesFit]
  records := by simp [State.RecordsConsecutive]
  windows := fun hw i hi => by
    rw [State.port_setAlert] at hi
    rw [State.alert_setAlert]
    split
    next e =>
      subst e
      rcases h (hw i hi) with e | e
      · exact e
      · simp [e] at hi
    next => exact hw i hi
  slots := by simp [State.SlotsFit]
  response := by simp [State.ResponseCreditFits]
  credits := fun hc => by
    have hp : (s.setAlert m a).phase = s.phase := by simp
    refine ⟨fun i => ?_, fun hs i => ?_⟩ <;> rw [State.port_setAlert]
    · exact hc.1 i
    · exact hc.2 ((asleep_congr hp).1 hs) i
  claims := claimsApart_congr fun k => by simp [State.scopeOf]
  legs := legsPlaced_congr (by simp) (by simp) fun l => by simp

theorem setLane_keepsRest (s : State) (l : LaneId) (x : Lane) : KeepsRest s (s.setLane l x) where
  queue := rfl
  quotas := id
  records := id
  windows := fun h m => by simpa using h m
  slots := fun h m => by simpa using h m
  response := fun h m => by simpa using h m
  credits := fun hc => ⟨fun m => by simpa using hc.1 m, fun hs m => by simpa using hc.2 hs m⟩
  claims := id

/-- A lane is replaced by one whose queue holds at most 16 legs where its own does. -/
theorem setLane_queuesFit {s : State} {l : LaneId} {x : Lane}
    (h : (s.lane l).queue.length ≤ 16 → x.queue.length ≤ 16) (hl : s.QueuesFit) : (s.setLane l x).QueuesFit := fun i => by
  rw [State.lane_setLane]
  split
  next => exact h (hl l)
  next => exact hl i

/-- A lane changes elsewhere than in its queue and window. -/
theorem setLane_keeps {s : State} {l : LaneId} {x : Lane} (h : x.places = (s.lane l).places) : Keeps s (s.setLane l x) :=
  ⟨setLane_keepsRest s l x, setLane_queuesFit fun hl => by rwa [queue_of_places h], setLane_placed h⟩

theorem modifyLane_keeps {s : State} {l : LaneId} {f : Lane → Lane} (h : (f (s.lane l)).places = (s.lane l).places) :
    Keeps s (s.modifyLane l f) := setLane_keeps h

theorem setClaim_none_keeps (s : State) (k : ClaimId) : Keeps s (s.setClaim k none) where
  queue := rfl
  quotas := id
  lanes := id
  records := id
  windows := id
  slots := id
  response := id
  credits := id
  claims := claimsApart_setClaim_none s k
  legs := legsPlaced_congr rfl rfl fun _ => rfl

theorem lane_mapLanes (s : State) (f : Lane → Lane) (l : LaneId) :
    State.lane { s with lanes := s.lanes.map f } l = f (s.lane l) := by simp [State.lane]

/-- Every lane is changed without its queue growing. -/
theorem mapLanes_keepsRest (s : State) (f : Lane → Lane) : KeepsRest s { s with lanes := s.lanes.map f } :=
  ⟨rfl, id, id, id, id, id, id, id⟩

theorem mapLanes_queuesFit {s : State} {f : Lane → Lane} (h : ∀ x, (f x).queue.length ≤ x.queue.length)
    (hl : s.QueuesFit) : State.QueuesFit { s with lanes := s.lanes.map f } := fun l => by
  rw [lane_mapLanes]; exact (h _).trans (hl l)

/-- Every lane is changed elsewhere than in its queue and window. -/
theorem mapLanes_keeps (s : State) (f : Lane → Lane) (h : ∀ x, (f x).places = x.places) :
    Keeps s { s with lanes := s.lanes.map f } :=
  ⟨mapLanes_keepsRest s f, mapLanes_queuesFit fun x => by rw [queue_of_places (h x)],
    legsPlaced_congr rfl rfl fun l => by rw [lane_mapLanes, h]⟩

/-! ## A fabric reset (R132, R133): no leg is left, and every queue and window is emptied -/

theorem resetLane_empty (now : Time) (x : Lane) :
    (x.fabricReset now).queue = [] ∧ ∀ w, (x.fabricReset now).slot w = .free := by
  rw [fabricReset_eq]
  unfold Lane.afterReset
  dsimp only
  have hslot : ∀ w : SlotId, emptyWindow[w] = .free := fun w => by simp [emptyWindow]
  split <;> exact ⟨rfl, hslot⟩

theorem resetLanes_queuesFit {s : State} : s.QueuesFit → s.resetLanes.QueuesFit :=
  mapLanes_queuesFit fun x => by rw [(resetLane_empty _ x).1]; exact Nat.zero_le _

/-- With no context in use and nothing in a queue or a window, the legs are in their places. -/
theorem legsStand_empty {s : State} (hc : ∀ c, s.ctx c = none) (hl : ∀ l, (s.lane l).queue = [])
    (hw : ∀ l w q c m t d, (s.lane l).slot w ≠ .issued q c m t d) : s.LegsStand := by
  have hnone : ∀ c t l v, ¬ s.HasLeg c t l v := fun c t l v ⟨x, _, hx, _⟩ => by rw [hc] at hx; cases hx
  refine ⟨fun c x hx => ?_, fun l => ?_, fun l r => ?_, fun l c t => ?_, fun l w q c m t d h => ?_,
    fun l w q c m t d h => ?_⟩
  · rw [hc] at hx; cases hx
  · rw [hl]; exact List.nodup_nil
  · rw [hl]; exact ⟨fun h => absurd h List.not_mem_nil, fun h => (hnone _ _ _ _ h).elim⟩
  · exact ⟨fun ⟨w, q, m, d, h⟩ => (hw _ _ _ _ _ _ _ h).elim, fun h => (hnone _ _ _ _ h).elim⟩
  · exact (hw _ _ _ _ _ _ _ h).elim
  · exact (hw _ _ _ _ _ _ _ h).elim

theorem setPhase_keepsRest {s : State} {v : Phase} (h : State.Asleep { s with phase := v } → s.Asleep) :
    KeepsRest s { s with phase := v } :=
  ⟨rfl, id, id, id, id, id, fun hc => ⟨hc.1, fun hs => hc.2 (h hs)⟩, id⟩

/-- The parts of a fabric reset that are due are done. -/
theorem parts_keeps {s : State} {before : Vector (Option Ctx) 32} (h : s.phase = .resetting before) :
    Keeps s { s.resetLanes with phase := .running } := by
  refine ⟨(mapLanes_keepsRest s _).trans (setPhase_keepsRest fun hs => ?_), fun hl => resetLanes_queuesFit hl, fun hp => ?_⟩
  · rcases hs with e | ⟨n, e⟩ <;> cases e
  · rw [legsPlaced_due (by unfold State.resetDue; rw [h])] at hp
    rw [legsPlaced_standing rfl]
    have hlane : ∀ l, State.lane { s.resetLanes with phase := .running } l = (s.lane l).fabricReset s.timebase := fun l => by
      simp [State.lane, State.resetLanes]
    refine legsStand_empty hp (fun l => ?_) fun l w q c m t d hw => ?_
    · rw [hlane]; exact (resetLane_empty _ _).1
    · rw [hlane, (resetLane_empty _ _).2] at hw; cases hw

/-! ## Reads of the tables, and the count of legs in flight (R18, R20) -/

theorem setRecord_keeps (s : State) (t : Target) (x : TargetRecord) : Keeps s (s.setRecord t x) :=
  (setRecord_frame s t x).keeps (setRecord_placed s t x)

theorem tableIntegrity_keeps (s : State) (t : Target) : Keeps s (s.tableIntegrity t) :=
  .trans (.trans (keeps_of_bounded (t := s.setActive t ⟨.absent, false⟩) rfl) (setRecord_keeps _ t _))
    (occur_keeps _ .tableParity (.ofTarget t))

theorem readActive_keeps (s : State) (t : Target) : Keeps s (s.readActive t).1 := by
  unfold State.readActive
  split
  · exact tableIntegrity_keeps s t
  · exact .refl s

theorem scanActive_keeps (ts : List Target) (s : State) : Keeps s (s.scanActive ts).1 := by
  induction ts generalizing s with
  | nil => exact .refl s
  | cons t ts ih => exact (readActive_keeps s t).trans (ih _)

theorem groupMembers_keeps (s : State) (g : Nat) : Keeps s (s.groupMembers g).1 := by
  have h := scanActive_keeps allTargets s
  unfold State.groupMembers
  generalize s.scanActive allTargets = p at h
  exact h

theorem grantClaim_keepsLegs (s : State) (k : ClaimId) : Keeps s (s.grantClaim k) :=
  (grantClaim_frame s k).keeps ((grantClaim_frame s k).placed_of_contexts (grantClaim_keeps s k).2)

theorem slotFreed_keeps (s : State) (m : Master) (t : Target) : Keeps s (s.slotFreed m t) := by
  refine (slotFreed_frame s m t).keeps ((slotFreed_frame s m t).placed_of_contexts ?_)
  unfold State.slotFreed
  split
  · rfl
  · exact fall_contexts s m t

end Sys2Proof.Machine
end

section
/-! SUPPORT. What a refill (R92), a teardown's withdrawals (R75, R106) and the orphaning of a master (R71) leave alone: as
the ending of a leg, but for the lane queues, which do not grow. -/

namespace Sys2Proof.Machine

/-- The two states agree but for contexts, Target Status records, the states of claims, response slots and the lane
queues. -/
structure PlaceFrame (s t : State) : Prop where
  outside : t.outside = { s.outside with lanes := t.lanes }
  lanes   : ∀ l, t.lane l = { s.lane l with queue := (t.lane l).queue }
  rest    : ∀ m, (t.port m).rest = (s.port m).rest
  slots   : ∀ m, (t.port m).slotsUsed = (s.port m).slotsUsed
  scopes  : ∀ k, t.scopeOf k = s.scopeOf k

theorem PlaceFrame.refl (s : State) : PlaceFrame s s :=
  ⟨rfl, fun _ => rfl, fun _ => rfl, fun _ => rfl, fun _ => rfl⟩

theorem PlaceFrame.trans {s t u : State} (h : PlaceFrame s t) (k : PlaceFrame t u) : PlaceFrame s u where
  outside := by rw [k.outside, h.outside]
  lanes := fun l => by rw [k.lanes l, h.lanes l]
  rest := fun m => (k.rest m).trans (h.rest m)
  slots := fun m => (k.slots m).trans (h.slots m)
  scopes := fun i => (k.scopes i).trans (h.scopes i)

theorem LegFrame.toPlace {s t : State} (h : LegFrame s t) : PlaceFrame s t where
  outside := by
    have e : t.lanes = s.lanes := congrArg Outside.lanes h.outside
    rw [h.outside, e]; rfl
  lanes := fun l => by rw [h.lane l]
  rest := h.rest
  slots := h.slots
  scopes := h.scopes

theorem setQueue_place (s : State) (l : LaneId) (q : List LegRef) :
    PlaceFrame s (s.setLane l { s.lane l with queue := q }) where
  outside := rfl
  lanes := fun i => by
    rw [State.lane_setLane]
    split
    next e => rw [e]
    next => rfl
  rest := fun m => by simp
  slots := fun m => by simp
  scopes := fun _ => rfl

theorem PlaceFrame.fixed {s t : State} (h : PlaceFrame s t) : t.fixed = s.fixed := by
  have e := congrArg Outside.fixed h.outside
  exact e

theorem PlaceFrame.phase {s t : State} (h : PlaceFrame s t) : t.phase = s.phase := congrArg Fixed.phase h.fixed

theorem PlaceFrame.alert {s t : State} (h : PlaceFrame s t) (m : Master) : t.alert m = s.alert m := by
  have e0 : t.alertM0 = s.alertM0 := by have e := congrArg Outside.alertM0 h.outside; exact e
  have e1 : t.alertM1 = s.alertM1 := by have e := congrArg Outside.alertM1 h.outside; exact e
  cases m <;> assumption

theorem PlaceFrame.keepsRest {s t : State} (h : PlaceFrame s t) : KeepsRest s t where
  queue := congrArg Fixed.pending h.fixed
  quotas := fun hq => by
    have h0 : t.quotaM0 = s.quotaM0 := congrArg Fixed.quotaM0 h.fixed
    have h1 : t.quotaM1 = s.quotaM1 := congrArg Fixed.quotaM1 h.fixed
    rw [State.QuotasFit, h0, h1]; exact hq
  records := by
    have hr : t.records = s.records := by have e := congrArg Outside.records h.outside; exact e
    have hn : t.nextRecord = s.nextRecord := by have e := congrArg Outside.nextRecord h.outside; exact e
    exact recordsConsecutive_of_eq hr hn
  windows := windowsGuard_of_eq
    (fun m => show (t.port m).rest.alertReady = (s.port m).rest.alertReady by rw [h.rest])
    (fun m => by rw [h.alert])
  slots := fun hs m => by
    have e := h.slots m
    unfold Port.slotsUsed at e
    rw [e]; exact hs m
  response := fun hr m => by
    obtain ⟨-, -, -, -, e⟩ := Port.outer_fields (Port.outer_of_rest (h.rest m))
    rw [e]; exact hr m
  credits := fun hc => by
    have hp : t.phase = s.phase := congrArg Fixed.phase h.fixed
    refine ⟨fun m => ?_, fun hsleep m => ?_⟩ <;>
      obtain ⟨el, er, eb, eo, -⟩ := Port.outer_fields (Port.outer_of_rest (h.rest m))
    · unfold Port.CreditsFit; rw [el, er, eb, eo]; exact hc.1 m
    · rw [el]; exact hc.2 ((asleep_congr hp).1 hsleep) m
  claims := claimsApart_congr h.scopes

theorem LegFrame.keepsRest {s t : State} (h : LegFrame s t) : KeepsRest s t := h.toPlace.keepsRest

theorem LegFrame.queuesFit {s t : State} (h : LegFrame s t) (hl : s.QueuesFit) : t.QueuesFit := fun l => by
  rw [h.lane]; exact hl l

theorem setLegState_frame (s : State) (r : LegRef) (v : LegState) : LegFrame s (s.setLegState r v) := by
  unfold State.setLegState
  split
  · exact setCtx_frame ..
  · exact .refl s

theorem refill_place (s : State) (l : LaneId) : PlaceFrame s (s.refill l) := by
  unfold State.refill
  split
  · exact .refl s
  · exact (setLegState_frame s _ _).toPlace.trans (setQueue_place _ _ _)

/-- A refill adds at most one leg, to its own lane's queue. -/
theorem refill_length (s : State) (l i : LaneId) :
    ((s.refill l).lane i).queue.length ≤ (s.lane i).queue.length + if i = l then 1 else 0 := by
  unfold State.refill
  split
  · exact Nat.le_add_right _ _
  · rw [State.modifyLane, State.lane_setLane, (setLegState_frame s _ _).lane]
    split
    next e => rw [e, List.length_append]; rfl
    next => rw [(setLegState_frame s _ _).lane]; exact Nat.le_refl _

/-- As many refills as the list has entries. -/
def State.refills {α : Type} (s : State) (l : LaneId) (xs : List α) : State := xs.foldl (fun acc _ => acc.refill l) s

theorem refills_place {α : Type} (s : State) (l : LaneId) (xs : List α) : PlaceFrame s (s.refills l xs) :=
  foldl_rel .refl .trans (fun s _ => refill_place s l) xs s

theorem refills_length {α : Type} (s : State) (l i : LaneId) (xs : List α) :
    ((s.refills l xs).lane i).queue.length ≤ (s.lane i).queue.length + if i = l then xs.length else 0 := by
  induction xs generalizing s with
  | nil => exact Nat.le_add_right _ _
  | cons x xs ih =>
    have h1 := ih (s.refill l)
    have h2 := refill_length s l i
    have e : s.refills l (x :: xs) = (s.refill l).refills l xs := rfl
    rw [e]
    by_cases hi : i = l
    · rw [if_pos hi] at h1 h2 ⊢; rw [List.length_cons]; omega
    · rw [if_neg hi] at h1 h2 ⊢; omega

/-- What a lane's queue keeps when a teardown withdraws legs from it. -/
def Lane.withdrawn (gone : List LegRef) (x : Lane) : Lane := { x with queue := x.queue.filter (fun r => !gone.contains r) }

theorem withdraw_eq (s : State) (gone : List LegRef) (l : LaneId) :
    s.withdraw gone l =
      ((s.setLane l ((s.lane l).withdrawn gone)).completeAll ((s.lane l).queue.filter (fun r => gone.contains r))
        .cancelled).refills l ((s.lane l).queue.filter (fun r => gone.contains r)) := rfl

theorem withdraw_place (s : State) (gone : List LegRef) (l : LaneId) : PlaceFrame s (s.withdraw gone l) := by
  rw [withdraw_eq]
  exact ((setQueue_place s l _).trans (completeAll_frame _ _ _).toPlace).trans (refills_place _ _ _)

theorem withdraw_length (s : State) (gone : List LegRef) (l i : LaneId) :
    ((s.withdraw gone l).lane i).queue.length ≤ (s.lane i).queue.length := by
  rw [withdraw_eq]
  refine (refills_length _ _ _ _).trans ?_
  rw [(completeAll_frame _ _ _).lane, State.lane_setLane]
  split
  next e =>
    rw [e, List.length_eq_length_filter_add (fun r => gone.contains r) (l := (s.lane l).queue), Nat.add_comm]
    rfl
  next => exact Nat.le_refl _

theorem orphan_frame (s : State) (c : CtxId) : LegFrame s (s.orphan c) := by
  unfold State.orphan
  split
  · exact setCtx_frame ..
  · exact .refl s

/-- A relation between states that also says that no lane queue has grown. -/
def Shrinks (s t : State) : Prop := PlaceFrame s t ∧ ∀ l, (t.lane l).queue.length ≤ (s.lane l).queue.length

theorem Shrinks.refl (s : State) : Shrinks s s := ⟨.refl s, fun _ => Nat.le_refl _⟩

theorem Shrinks.trans {s t u : State} (h : Shrinks s t) (k : Shrinks t u) : Shrinks s u :=
  ⟨h.1.trans k.1, fun l => (k.2 l).trans (h.2 l)⟩

theorem LegFrame.shrinks {s t : State} (h : LegFrame s t) : Shrinks s t := ⟨h.toPlace, fun l => by rw [h.lane l]⟩

theorem orphanMaster_shrinks (s : State) (m : Master) : Shrinks s (s.orphanMaster m) := by
  unfold State.orphanMaster
  refine .trans (.trans (foldl_rel .refl .trans (fun s c => ?_) _ _) (completeAll_frame _ _ _).shrinks)
    (foldl_rel .refl .trans (fun s l => ?_) _ _)
  · exact (orphan_frame s c.1).shrinks
  · exact ⟨withdraw_place s _ l, withdraw_length s _ l⟩

theorem orphanMaster_place (s : State) (m : Master) : PlaceFrame s (s.orphanMaster m) := (orphanMaster_shrinks s m).1

theorem orphanMaster_phase (s : State) (m : Master) : (s.orphanMaster m).phase = s.phase :=
  (orphanMaster_place s m).phase

theorem orphanMaster_queuesFit (s : State) (m : Master) (h : s.QueuesFit) : (s.orphanMaster m).QueuesFit := fun l =>
  ((orphanMaster_shrinks s m).2 l).trans (h l)

theorem PlaceFrame.keeps {s t : State} (h : PlaceFrame s t) (hq : s.QueuesFit → t.QueuesFit)
    (hfree : ∀ c, s.ctx c = none → t.ctx c = none) (hstand : s.resetDue = false → s.LegsStand → t.LegsStand) : Keeps s t :=
  ⟨h.keepsRest, hq, legsPlaced_of h.phase hfree hstand⟩

theorem orphanMaster_keeps (s : State) (m : Master) : Keeps s (s.orphanMaster m) :=
  (orphanMaster_place s m).keeps (orphanMaster_queuesFit s m) (fun _ h => orphanMaster_free h m)
    fun _ h => orphanMaster_stands h m

end Sys2Proof.Machine
end

section
/-! SUPPORT. Every event at a master's port keeps the bounds (chapter 9). -/

namespace Sys2Proof.Machine

/-! ## What the transmitter does (R171, R172) -/

theorem sendTrainingHello_bounded (p : Port) :
    p.sendTrainingHello.bounded = p.bounded ∧ p.sendTrainingHello.alertReady = p.alertReady := by
  unfold Port.sendTrainingHello
  split <;> exact ⟨rfl, rfl⟩

theorem sendResponse_keeps (now : Time) (p : Port) : PortKeeps p (p.sendResponse now) := by
  unfold Port.sendResponse
  split
  next r rest e =>
    exact ⟨fun h => by simp [Port.slotsUsed, Port.transmit, e] at h ⊢; omega,
      fun h => (Nat.sub_le _ _).trans h, id, .inl rfl⟩
  next => exact portKeeps_of_bounded rfl (.inl rfl)

theorem sendAlert_keeps (now : Time) (p : Port) : PortKeeps p (p.sendAlert now) := by
  unfold Port.sendAlert
  split
  · exact ⟨id, fun h => (Nat.sub_le _ _).trans h, id, .inr rfl⟩
  · exact portKeeps_of_bounded rfl (.inl rfl)

/-- A CREDIT sent turns a credit owed into request credit. -/
theorem sendCredit_fits {now : Time} {p : Port} (ho : 0 < p.creditsOwed) (h : p.CreditsFit) :
    (Port.transmit now .credit
      { p with creditsOwed := p.creditsOwed - 1, requestCredit := p.requestCredit + 1 }).CreditsFit := by
  unfold Port.CreditsFit Port.transmit at *
  by_cases hup : p.link = .up
  · simp only [hup, if_true] at h ⊢; omega
  · simp only [hup, if_false] at h; omega

theorem choose_keeps (now : Time) (p : Port) : PortKeeps p (p.choose now) := by
  unfold Port.choose
  split
  · exact portKeeps_of_bounded rfl (.inl rfl)
  · split
    next ho => exact ⟨id, id, sendCredit_fits ho, .inl rfl⟩
    next =>
      split
      · exact sendAlert_keeps now p
      · split
        · exact sendResponse_keeps now p
        · split <;> exact portKeeps_of_bounded rfl (.inl rfl)

theorem arbitrate_keeps (now : Time) (p : Port) : PortKeeps p (p.arbitrate now) := by
  unfold Port.arbitrate
  split
  · exact portKeeps_of_bounded rfl (.inl rfl)
  · split
    · split
      · exact portKeeps_of_bounded rfl (.inl rfl)
      · exact choose_keeps now p
    · exact portKeeps_of_bounded rfl (.inl rfl)

/-- The arbiter leaves the link state. -/
theorem arbitrate_link (now : Time) (p : Port) : (p.arbitrate now).link = p.link := by
  unfold Port.arbitrate Port.choose Port.sendAlert Port.sendResponse Port.transmit
  split
  · rfl
  · split
    · split
      · rfl
      · repeat' split
        all_goals rfl
    · rfl

theorem lookAgain_keeps (s : State) (m : Master) : Keeps s (s.lookAgain m) := by
  refine modifyPort_keeps ?_ fun _ hup => ?_
  · split
    · exact arbitrate_keeps ..
    · exact portKeeps_of_bounded rfl (.inl rfl)
  · split at hup
    · rwa [arbitrate_link] at hup
    · exact hup

theorem transmitArbiterEvent_keeps (m : Master) (s : State) : Keeps s (transmitArbiterEvent m s) := by
  refine modifyPort_keeps ?_ fun _ hup => ?_
  · exact .trans (portKeeps_of_bounded (q := { s.port m with line := none }) rfl (.inl rfl)) (arbitrate_keeps ..)
  · rwa [arbitrate_link] at hup

/-! ## Training and its timers (R163, R164) -/

/-- Entering TRAINING, from a link that is not UP or with nothing in the buffer and nothing owed. -/
theorem enterTraining_keeps {now : Time} {p : Port}
    (h : p.CreditsFit → p.buffer = [] ∧ p.creditsOwed = 0) : PortKeeps p (p.enterTraining now) := by
  rw [Port.enterTraining_eq]
  refine ⟨id, fun _ => Nat.zero_le _, fun hc => ?_, .inl rfl⟩
  simpa [Port.CreditsFit, Port.startedTraining] using h hc

theorem enterTraining_link (now : Time) (p : Port) : (p.enterTraining now).link = .training := by
  rw [Port.enterTraining_eq]; rfl

theorem CreditsFit.empty_of_not_up {p : Port} (hl : p.link ≠ .up) (h : p.CreditsFit) :
    p.buffer = [] ∧ p.creditsOwed = 0 := by
  unfold Port.CreditsFit at h
  rw [if_neg hl] at h
  exact h.2

theorem linkHelloIntervalEvent_keeps (m : Master) (s : State) : Keeps s (linkHelloIntervalEvent m s) := by
  unfold linkHelloIntervalEvent
  split
  · exact modifyPort_keeps_of_bounded (sendTrainingHello_bounded _).1 (.inl (sendTrainingHello_bounded _).2)
  · exact .refl s

theorem linkTrainingFailureEvent_keeps (m : Master) (s : State) : Keeps s (linkTrainingFailureEvent m s) := by
  unfold linkTrainingFailureEvent
  split
  next hdue =>
    have hl : (s.port m).link = .training := by
      simp only [State.linkFailureDue, Bool.and_eq_true, beq_iff_eq] at hdue
      exact hdue.1.1
    refine modifyPort_keeps ⟨id, id, fun h => ?_, .inl rfl⟩ fun _ hup => by simp at hup
    simpa [Port.CreditsFit, hl] using h
  next => exact .refl s

theorem linkRetryEvent_keeps (m : Master) (s : State) : Keeps s (linkRetryEvent m s) := by
  unfold linkRetryEvent
  split
  next hdue =>
    have hl : (s.port m).link = .down := by
      simp only [State.linkRetryDue, Bool.and_eq_true, beq_iff_eq] at hdue
      exact hdue.1
    refine modifyPort_keeps (enterTraining_keeps (CreditsFit.empty_of_not_up (by simp [hl]))) fun _ hup => ?_
    rw [enterTraining_link] at hup; cases hup
  next => exact .refl s

/-- The link comes UP with 4 credits and nothing else. -/
theorem comeUp_keeps {now : Time} {credit : Nat} (hc : credit ≤ 16) (p : Port) : PortKeeps p (p.comeUp now credit) := by
  unfold Port.comeUp Port.sendGrant
  split <;> exact ⟨id, fun _ => hc, fun _ => by simp [Port.CreditsFit, Config.requestCredit], .inl rfl⟩

theorem testAlert_keeps (s : State) (m : Master) : Keeps s (s.testAlert m) := 
  (testAlert_frame s m).keeps (testAlert_only s m).placed

theorem not_asleep_of_running {s : State} (h : s.phase = .running) : ¬ s.Asleep := by
  rintro (e | ⟨n, e⟩) <;> rw [h] at e <;> cases e

theorem takeMasterHello_keeps {s : State} (hrun : s.phase = .running) (m : Master) (value : Byte) :
    Keeps s (s.takeMasterHello m value) := by
  unfold State.takeMasterHello
  split
  next hc =>
    have hv : value.toNat ≤ 16 := by
      simp only [creditOk, decide_eq_true_eq] at hc
      exact hc.2
    exact (modifyPort_keeps (comeUp_keeps hv _) fun hs => absurd hs (not_asleep_of_running hrun)).trans
      (testAlert_keeps ..)
  next => exact occur_keeps ..

/-! ## Master teardown (R174) -/

theorem freeClaim_keeps (s : State) (m : Master) (k : ClaimId) :
    Keeps s (if (s.ownClaim m k).isSome then s.setClaim k none else s) := by
  split
  · exact setClaim_none_keeps s k
  · exact .refl s

theorem freeClaimsOf_keeps (s : State) (m : Master) : Keeps s (s.freeClaimsOf m) :=
  foldl_rel .refl .trans (fun s k => freeClaim_keeps s m k) _ s

/-- The Claim Unit's part of a teardown changes the claims and nothing else. -/
theorem freeClaimsOf_eq (s : State) (m : Master) : ∃ claims, s.freeClaimsOf m = { s with claims := claims } := by
  refine foldl_rel (R := fun s t => ∃ claims, t = { s with claims := claims }) (fun s => ⟨s.claims, rfl⟩) ?_
    (fun s k => ?_) _ s
  · rintro s t u ⟨_, rfl⟩ ⟨claims, rfl⟩
    exact ⟨claims, rfl⟩
  · split
    · exact ⟨_, rfl⟩
    · exact ⟨s.claims, rfl⟩

/-- A port as its own part of a teardown leaves it (R174, R163). -/
theorem Port.tearDown_eq (now : Time) (p : Port) :
    p.tearDown now =
      { p with buffer := [], creditsOwed := 0, reserved := 0, filled := [], alertReady := none,
               notice := none }.startedTraining now := Port.enterTraining_eq ..

theorem portTearDown_keeps (now : Time) (p : Port) : PortKeeps p (p.tearDown now) := by
  rw [Port.tearDown_eq]
  exact ⟨fun _ => Nat.zero_le _, fun _ => Nat.zero_le _,
    fun _ => by simp [Port.CreditsFit, Port.startedTraining], .inr rfl⟩

/-- The state of a teardown before UP_LOST occurs. -/
def State.tornDown (s : State) (m : Master) : State :=
  (((s.modifyPort m (Port.tearDown s.timebase)).orphanMaster m).freeClaimsOf m).clearAlerts m

theorem tearDown_eq (s : State) (m : Master) : s.tearDown m = (s.tornDown m).occur .upLost (.ofMaster m) := rfl

theorem PlaceFrame.alertReady {s t : State} (h : PlaceFrame s t) (m : Master) :
    (t.port m).alertReady = (s.port m).alertReady :=
  show (t.port m).rest.alertReady = (s.port m).rest.alertReady by rw [h.rest]

theorem freeClaimsOf_port (s : State) (m w : Master) : (s.freeClaimsOf m).port w = s.port w := by
  obtain ⟨claims, e⟩ := freeClaimsOf_eq s m
  rw [e]; cases w <;> rfl

/-- The emptying of the alerts of a master that has no ALERT ready. -/
theorem clearAlerts_keeps {s : State} {m : Master} (h : (s.port m).alertReady = none) : Keeps s (s.clearAlerts m) :=
  setAlert_keeps fun _ => .inr h

theorem modifyPort_tearDown_keeps (s : State) (m : Master) : Keeps s (s.modifyPort m (Port.tearDown s.timebase)) :=
  modifyPort_keeps (portTearDown_keeps ..) fun _ hup => by rw [Port.tearDown_eq] at hup; cases hup

theorem modifyPort_tearDown_alertReady (s : State) (m : Master) :
    ((s.modifyPort m (Port.tearDown s.timebase)).port m).alertReady = none := by
  rw [State.modifyPort, State.port_setPort_same, Port.tearDown_eq]; rfl

theorem tornDown_keeps (s : State) (m : Master) : Keeps s (s.tornDown m) := by
  have hport := modifyPort_tearDown_keeps s m
  have hready := modifyPort_tearDown_alertReady s m
  unfold State.tornDown
  generalize s.modifyPort m (Port.tearDown s.timebase) = u at hport hready ⊢
  refine ((hport.trans (orphanMaster_keeps u m)).trans (freeClaimsOf_keeps _ m)).trans (clearAlerts_keeps ?_)
  rw [freeClaimsOf_port, (orphanMaster_place u m).alertReady, hready]

theorem tearDown_keeps (s : State) (m : Master) : Keeps s (s.tearDown m) :=
  (tornDown_keeps s m).trans (occur_keeps ..)

theorem freeClaimsOf_fixed (s : State) (m : Master) : (s.freeClaimsOf m).fixed = s.fixed := by
  obtain ⟨claims, e⟩ := freeClaimsOf_eq s m
  rw [e]; rfl

theorem clearAlerts_fixed (s : State) (m : Master) : (s.clearAlerts m).fixed = s.fixed := by cases m <;> rfl

theorem modifyPort_fixed (s : State) (m : Master) (f : Port → Port) : (s.modifyPort m f).fixed = s.fixed := by
  cases m <;> rfl

theorem tornDown_fixed (s : State) (m : Master) : (s.tornDown m).fixed = s.fixed := by
  rw [State.tornDown, clearAlerts_fixed, freeClaimsOf_fixed, (orphanMaster_place _ m).fixed, modifyPort_fixed]

theorem tearDown_fixed (s : State) (m : Master) : (s.tearDown m).fixed = s.fixed :=
  (occur_frame (s.tornDown m) .upLost (.ofMaster m)).fixed.trans (tornDown_fixed s m)

theorem linkLossEvent_keeps (m : Master) (s : State) : Keeps s (linkLossEvent m s) := by
  unfold linkLossEvent
  split
  · exact tearDown_keeps s m
  · exact .refl s

theorem linkKeepaliveEvent_keeps (m : Master) (s : State) : Keeps s (linkKeepaliveEvent m s) := by
  unfold linkKeepaliveEvent
  split
  · exact lookAgain_keeps s m
  · exact .refl s

/-! ## Frames received (R162, R165 to R169, R186) -/

theorem upStart_keeps (s : State) (m : Master) : Keeps s (s.upStart m) := by
  unfold State.upStart
  split
  · exact .refl s
  · exact (modifyPort_keeps_of_bounded (m := m) rfl (.inl rfl)).trans (occur_keeps ..)

/-- A frame at a port keeps what its own effect keeps on a part that runs. -/
theorem upFrame_keeps {s : State} (hrun : s.phase = .running) (m : Master) (n : Nat) {take : State → State}
    (h : ∀ u : State, u.phase = .running → Keeps u (take u)) : Keeps s (s.upFrame m n take) := by
  unfold State.upFrame
  split
  · exact (upStart_keeps s m).trans (h _ (by rw [upStart_phase, hrun]))
  · exact (upStart_keeps s m).trans (occur_keeps ..)

theorem heard_keeps (s : State) (m : Master) : Keeps s (s.modifyPort m (Port.heard s.timebase)) :=
  modifyPort_keeps_of_bounded rfl (.inl rfl)

theorem masterHelloEvent_keeps (m : Master) (value : Byte) {s : State} (hrun : s.phase = .running) :
    Keeps s (masterHelloEvent m value s) := by
  refine upFrame_keeps hrun m 2 fun u hu => ?_
  unfold State.masterHello
  split
  · exact .refl u
  · exact takeMasterHello_keeps hu m value
  · have hphase : (u.tearDown m).phase = u.phase := congrArg Fixed.phase (tearDown_fixed u m)
    exact (tearDown_keeps u m).trans (takeMasterHello_keeps (hphase.trans hu) m value)

theorem upIdleEvent_keeps (m : Master) {s : State} (hrun : s.phase = .running) : Keeps s (upIdleEvent m s) := by
  refine upFrame_keeps hrun m 1 fun u _ => ?_
  unfold State.upIdle
  split
  · exact heard_keeps u m
  · exact .refl u

/-- A REQUEST that joins the buffer of an UP link takes one of its request credits. -/
theorem joinBuffer_keeps {p : Port} (r : RawRequest) (hup : p.link = .up) (hc : 0 < p.requestCredit) :
    PortKeeps p { p with buffer := p.buffer ++ [r], requestCredit := p.requestCredit - 1 } := by
  refine ⟨id, id, fun h => ?_, .inl rfl⟩
  simp only [Port.CreditsFit, hup, if_true, List.length_append, List.length_singleton] at h ⊢
  omega

theorem requestEvent_keeps (m : Master) (r : RawRequest) {s : State} (hrun : s.phase = .running) :
    Keeps s (requestEvent m r s) := by
  refine upFrame_keeps hrun m _ fun u _ => ?_
  unfold State.takeRequestFrame
  split
  · exact occur_keeps ..
  · split
    next hup =>
      refine .trans (heard_keeps u m) ?_
      split
      next hc =>
        refine modifyPort_keeps (joinBuffer_keeps r ?_ ?_) fun _ h => h <;>
          rw [State.modifyPort, State.port_setPort_same]
        · exact hup
        · exact hc
      next => exact occur_keeps ..
    next => exact .refl u

theorem creditEvent_keeps (m : Master) (count : Byte) {s : State} (hrun : s.phase = .running) :
    Keeps s (creditEvent m count s) := by
  refine upFrame_keeps hrun m 2 fun u _ => ?_
  unfold State.takeCredit
  split
  · refine .trans (heard_keeps u m) ?_
    dsimp only
    split
    next hc => exact .trans (modifyPort_keeps ⟨id, fun _ => hc.2, id, .inl rfl⟩ fun _ h => h) (lookAgain_keeps _ m)
    next => exact occur_keeps ..
  · exact .refl u

theorem upMalformedFrameEvent_keeps (m : Master) (frame : List Byte) {s : State} (hrun : s.phase = .running) :
    Keeps s (upMalformedFrameEvent m frame s) := by
  unfold upMalformedFrameEvent
  split
  · exact masterHelloEvent_keeps m _ hrun
  · exact upIdleEvent_keeps m hrun
  · exact creditEvent_keeps m _ hrun
  · exact requestEvent_keeps m _ hrun
  · exact upFrame_keeps hrun m _ fun u _ => occur_keeps ..

/-! ## Frames received change no setting, so what follows them runs too -/

theorem takeMasterHello_fixed (s : State) (m : Master) (value : Byte) :
    (s.takeMasterHello m value).fixed = s.fixed := by
  unfold State.takeMasterHello
  split
  · exact (testAlert_frame _ m).fixed.trans (modifyPort_fixed ..)
  · exact (occur_frame ..).fixed

theorem upStart_fixed (s : State) (m : Master) : (s.upStart m).fixed = s.fixed := by
  unfold State.upStart
  split
  · rfl
  · exact (occur_frame ..).fixed.trans (modifyPort_fixed ..)

theorem upFrame_fixed {s : State} (m : Master) (n : Nat) {take : State → State}
    (h : ∀ u : State, (take u).fixed = u.fixed) : (s.upFrame m n take).fixed = s.fixed := by
  unfold State.upFrame
  split
  · exact (h _).trans (upStart_fixed s m)
  · exact (occur_frame ..).fixed.trans (upStart_fixed s m)

theorem masterHello_fixed (s : State) (m : Master) (value : Byte) : (s.masterHello m value).fixed = s.fixed := by
  unfold State.masterHello
  split
  · rfl
  · exact takeMasterHello_fixed ..
  · exact (takeMasterHello_fixed ..).trans (tearDown_fixed s m)

theorem upIdle_fixed (s : State) (m : Master) : (s.upIdle m).fixed = s.fixed := by
  unfold State.upIdle
  split
  · exact modifyPort_fixed ..
  · rfl

theorem takeCredit_fixed (s : State) (m : Master) (count : Byte) : (s.takeCredit m count).fixed = s.fixed := by
  unfold State.takeCredit
  split
  · dsimp only
    split
    · exact (modifyPort_fixed ..).trans ((modifyPort_fixed ..).trans (modifyPort_fixed ..))
    · exact (occur_frame ..).fixed.trans (modifyPort_fixed ..)
  · rfl

theorem takeRequestFrame_fixed (s : State) (m : Master) (r : RawRequest) :
    (s.takeRequestFrame m r).fixed = s.fixed := by
  unfold State.takeRequestFrame
  split
  · exact (occur_frame ..).fixed
  · split
    · dsimp only
      split
      · exact (modifyPort_fixed ..).trans (modifyPort_fixed ..)
      · exact (occur_frame ..).fixed.trans (modifyPort_fixed ..)
    · rfl

theorem upMalformedFrameEvent_fixed (m : Master) (frame : List Byte) (s : State) :
    (upMalformedFrameEvent m frame s).fixed = s.fixed := by
  unfold upMalformedFrameEvent
  split
  · exact upFrame_fixed m 2 fun u => masterHello_fixed u m _
  · exact upFrame_fixed m 1 fun u => upIdle_fixed u m
  · exact upFrame_fixed m 2 fun u => takeCredit_fixed u m _
  · exact upFrame_fixed m _ fun u => takeRequestFrame_fixed u m _
  · exact upFrame_fixed m _ fun u => (occur_frame u _ _).fixed

theorem upSymbol_fixed (s : State) (m : Master) (x : Symbol) : (s.upSymbol m x).fixed = s.fixed := by
  unfold State.upSymbol
  dsimp only
  split
  · exact modifyPort_fixed ..
  · exact (occur_frame ..).fixed.trans (modifyPort_fixed ..)
  · exact (upMalformedFrameEvent_fixed ..).trans (modifyPort_fixed ..)

theorem upSymbol_keeps {s : State} (hrun : s.phase = .running) (m : Master) (x : Symbol) : Keeps s (s.upSymbol m x) := by
  have hs : ∀ r, Keeps s (s.modifyPort m (fun p => { p with receiver := r })) := fun r =>
    modifyPort_keeps_of_bounded rfl (.inl rfl)
  unfold State.upSymbol
  dsimp only
  split
  · exact hs _
  · exact (hs _).trans (occur_keeps ..)
  · exact (hs _).trans (upMalformedFrameEvent_keeps m _ (by simp [State.modifyPort, hrun]))

theorem upBadCrcEvent_keeps (m : Master) (symbols : List Symbol) {s : State} (hrun : s.phase = .running) :
    Keeps s (upBadCrcEvent m symbols s) := by
  induction symbols generalizing s with
  | nil => exact .refl s
  | cons x xs ih =>
    rw [upBadCrcEvent_cons]
    have hphase : (s.upSymbol m x).phase = s.phase := congrArg Fixed.phase (upSymbol_fixed s m x)
    exact (upSymbol_keeps hrun m x).trans (ih (hphase.trans hrun))

end Sys2Proof.Machine
end

section
/-! SUPPORT. Every event of a Lane Engine keeps the bounds and the settings (chapter 5). -/

namespace Sys2Proof.Machine

/-- The second state meets each bound that the first meets, with the same settings. -/
structure LaneKeeps (s t : State) : Prop extends Keeps s t where
  fixed : t.fixed = s.fixed

theorem LaneKeeps.refl (s : State) : LaneKeeps s s := ⟨.refl s, rfl⟩

theorem LaneKeeps.trans {s t u : State} (h : LaneKeeps s t) (k : LaneKeeps t u) : LaneKeeps s u :=
  ⟨h.toKeeps.trans k.toKeeps, k.fixed.trans h.fixed⟩

theorem occur_laneKeeps (s : State) (x : Source) (f : FaultFields) : LaneKeeps s (s.occur x f) :=
  ⟨occur_keeps s x f, (occur_frame s x f).fixed⟩

theorem setLane_laneKeeps {s : State} {l : LaneId} {x : Lane} (h : x.places = (s.lane l).places) :
    LaneKeeps s (s.setLane l x) := ⟨setLane_keeps h, rfl⟩

theorem modifyLane_laneKeeps {s : State} {l : LaneId} {f : Lane → Lane} (h : (f (s.lane l)).places = (s.lane l).places) :
    LaneKeeps s (s.modifyLane l f) := setLane_laneKeeps h

theorem endLaneWork_laneKeeps (s : State) (l : LaneId) : LaneKeeps s (s.endLaneWork l) := by
  have h := (endLaneWork_frame s l).toFault (.inr (by rw [endLaneWork_lane]))
  exact ⟨h.keeps (endLaneWork_placed s l), h.fixed⟩

theorem send_places (now : Time) (f : LaneFrame) (x : Lane) : (x.send now f).places = x.places := by
  unfold Lane.send
  split <;> rfl

theorem trainLane_laneKeeps (s : State) (l : LaneId) : LaneKeeps s (s.trainLane l) := by
  rw [trainLane_eq]
  exact setLane_laneKeeps rfl

/-! ## Frames received (R86, R89, R90, R186) -/

theorem laneStart_laneKeeps (s : State) (l : LaneId) : LaneKeeps s (s.laneStart l) := by
  unfold State.laneStart
  split
  · exact .refl s
  · exact (modifyLane_laneKeeps rfl).trans (occur_laneKeeps ..)

theorem laneFrame_laneKeeps (s : State) (l : LaneId) (n : Nat) {take : State → State}
    (h : ∀ u, LaneKeeps u (take u)) : LaneKeeps s (s.laneFrame l n take) := by
  unfold State.laneFrame
  split
  · split
    · exact (laneStart_laneKeeps s l).trans (h _)
    · exact (laneStart_laneKeeps s l).trans (occur_laneKeeps ..)
  · exact .refl s

theorem heard_laneKeeps (s : State) (l : LaneId) : LaneKeeps s (s.modifyLane l (Lane.heard s.timebase)) :=
  modifyLane_laneKeeps (by unfold Lane.heard; split <;> rfl)

theorem takeTrainingAnswer_laneKeeps (s : State) (l : LaneId) (stations : Byte) :
    LaneKeeps s (s.takeTrainingAnswer l stations) := by
  unfold State.takeTrainingAnswer
  split
  · exact modifyLane_laneKeeps rfl
  · exact .refl s

theorem deviceRestart_laneKeeps (s : State) (l : LaneId) (stations : Byte) :
    LaneKeeps s (s.deviceRestart l stations) := by
  unfold State.deviceRestart
  refine .trans (endLaneWork_laneKeeps s l) ?_
  dsimp only
  split
  · have h : LaneKeeps (s.endLaneWork l)
        ((((s.endLaneWork l).trainLane l).takeTrainingAnswer l stations).occur .laneLost (.ofLane l)) :=
      ((trainLane_laneKeeps _ l).trans (takeTrainingAnswer_laneKeeps ..)).trans (occur_laneKeeps ..)
    split
    · exact h
    · exact h.trans (occur_laneKeeps ..)
  · exact (modifyLane_laneKeeps rfl).trans (occur_laneKeeps ..)
  · exact (modifyLane_laneKeeps rfl).trans (occur_laneKeeps ..)

theorem deviceHelloEvent_laneKeeps (l : LaneId) (stations : Byte) (s : State) :
    LaneKeeps s (deviceHelloEvent l stations s) := by
  refine laneFrame_laneKeeps s l 2 fun u => ?_
  unfold State.deviceHello
  dsimp only
  split
  · exact deviceRestart_laneKeeps ..
  · split
    · split
      · exact takeTrainingAnswer_laneKeeps ..
      · exact occur_laneKeeps ..
    · exact .refl u

theorem laneIdleEvent_laneKeeps (l : LaneId) (s : State) : LaneKeeps s (laneIdleEvent l s) :=
  laneFrame_laneKeeps s l 1 fun u => heard_laneKeeps u l

/-! ## Answers (R95 to R97) -/

theorem slotFreed_laneKeeps (s : State) (m : Master) (t : Target) : LaneKeeps s (s.slotFreed m t) :=
  ⟨slotFreed_keeps s m t, (slotFreed_frame s m t).toPlace.fixed⟩

/-- The leg of an ISSUED slot ends, in any phase of the part; while the parts of a fabric reset are due, no context is in
use and the end is discarded. -/
theorem slotEnd_laneKeeps {s : State} {l : LaneId} {w : SlotId} {q : Byte} {c : CtxId} {m : Master} {t : Target} {d : Time}
    (hw : (s.lane l).slot w = .issued q c m t d) {v : Slot} (hv : ∀ p b n i e, v ≠ .issued p b n i e)
    (o : LegOutcome) (ws : List Word) :
    LaneKeeps s ((s.modifyLane l (fun x => x.setSlot w v)).complete ⟨c, t⟩ o ws) := by
  have hframe := complete_frame (s.modifyLane l (fun x => x.setSlot w v)) ⟨c, t⟩ o ws
  have hphase : ((s.modifyLane l (fun x => x.setSlot w v)).complete ⟨c, t⟩ o ws).phase = s.phase := hframe.toPlace.phase
  refine ⟨⟨(setLane_keepsRest s l _).trans hframe.keepsRest, fun h => hframe.queuesFit ?_,
    legsPlaced_of hphase (fun b hb => complete_free ?_ _ _ _) fun _ h => ?_⟩, hframe.toPlace.fixed⟩
  · exact setLane_queuesFit (x := (s.lane l).setSlot w v) id h
  · exact hb
  · refine legsStand_slot_complete (y := (s.lane l).setSlot w v) h hw rfl (fun p b n i e => ?_) (fun u hu => ?_) o ws
    · rw [slot_setSlot, if_pos rfl]; exact hv p b n i e
    · rw [slot_setSlot, if_neg hu]

/-- The answer of a leg whose context is discarded frees its slot, while the parts of a fabric reset are due. -/
theorem slotDrop_laneKeeps {s : State} {l : LaneId} {w : SlotId} {v : Slot} (h : s.resetDue = false → ¬ s.LegsStand) :
    LaneKeeps s (s.modifyLane l (fun x => x.setSlot w v)) :=
  ⟨⟨setLane_keepsRest s l _, setLane_queuesFit (x := (s.lane l).setSlot w v) id,
    legsPlaced_of rfl (fun _ hc => hc) fun hd hs => absurd hs (h hd)⟩, rfl⟩

theorem legBackFault_laneKeeps (s : State) (o : LegOutcome) (f : FaultFields) : LaneKeeps s (s.legBackFault o f) := by
  unfold State.legBackFault
  split
  · exact occur_laneKeeps ..
  · exact occur_laneKeeps ..
  · exact .refl s

theorem sentCtx_standing {s : State} (h : s.resetDue = false) (c : CtxId) : s.sentCtx c = s.ctx c := by
  unfold State.sentCtx
  split
  next hs => simp [State.resetDue, hs] at h
  next => rfl

theorem answerLeg_laneKeeps {s : State} {l : LaneId} {w : SlotId} {q : Byte} {r : LegRef} {m : Master} {d : Time}
    (hw : (s.lane l).slot w = .issued q r.ctx m r.target d) (f : LegBackFrame) :
    LaneKeeps s (s.answerLeg l w r m f) := by
  have hplaced : s.resetDue = false → s.LegsStand → ∃ x g, s.sentCtx r.ctx = some x ∧ x.leg r.target = some g :=
    fun hd h => by
      obtain ⟨x, g, hx, -, -, -, -, hg⟩ := hasLeg_leg h.counted ((h.issued l _ _).1 ⟨w, q, m, d, hw⟩)
      exact ⟨x, g, (sentCtx_standing hd _).trans hx, hg⟩
  unfold State.answerLeg
  dsimp only
  split
  next x hx =>
    split
    next g hg => exact (slotEnd_laneKeeps hw (by simp) _ _).trans (legBackFault_laneKeeps ..)
    next hg =>
      refine slotDrop_laneKeeps fun hd h => ?_
      obtain ⟨y, g, hy, hg'⟩ := hplaced hd h
      rw [hx] at hy; cases hy
      rw [hg] at hg'; cases hg'
  next hx =>
    refine slotDrop_laneKeeps fun hd h => ?_
    obtain ⟨y, g, hy, -⟩ := hplaced hd h
    rw [hx] at hy; cases hy

theorem freeExpired_laneKeeps {s : State} {l : LaneId} {w : SlotId} {q : Byte} {m : Master} {t : Target}
    (hw : (s.lane l).slot w = .expired q m t) : LaneKeeps s (s.modifyLane l (fun x => x.setSlot w .free)) :=
  ⟨⟨setLane_keepsRest s l _, setLane_queuesFit (x := (s.lane l).setSlot w .free) id, freeExpired_placed hw⟩, rfl⟩

theorem takeLegBack_laneKeeps (s : State) (l : LaneId) (f : LegBackFrame) : LaneKeeps s (s.takeLegBack l f) := by
  unfold State.takeLegBack
  split
  next w r m h =>
    obtain ⟨d, hw⟩ := issuedSlot_eq_some h
    exact answerLeg_laneKeeps hw f
  next =>
    split
    next w m t h =>
      exact ((freeExpired_laneKeeps (expiredSlot_eq_some h)).trans (slotFreed_laneKeeps _ m t)).trans (occur_laneKeeps ..)
    next => exact occur_laneKeeps ..

theorem legBackEvent_laneKeeps (l : LaneId) (f : LegBackFrame) (s : State) : LaneKeeps s (legBackEvent l f s) := by
  refine laneFrame_laneKeeps s l f.bytes fun u => ?_
  unfold State.judgeLegBack
  split
  · exact (heard_laneKeeps u l).trans (takeLegBack_laneKeeps ..)
  · exact occur_laneKeeps ..

theorem laneMalformedFrameEvent_laneKeeps (l : LaneId) (frame : List Byte) (s : State) :
    LaneKeeps s (laneMalformedFrameEvent l frame s) := by
  unfold laneMalformedFrameEvent
  split
  · exact deviceHelloEvent_laneKeeps ..
  · exact laneIdleEvent_laneKeeps ..
  · exact legBackEvent_laneKeeps ..
  · exact laneFrame_laneKeeps s l _ fun u => occur_laneKeeps ..

theorem laneSymbol_laneKeeps (l : LaneId) (s : State) (x : Symbol) : LaneKeeps s (s.laneSymbol l x) := by
  have hs : ∀ r, LaneKeeps s (s.modifyLane l (fun y => { y with receiver := r })) := fun r => modifyLane_laneKeeps rfl
  unfold State.laneSymbol
  dsimp only
  split
  · split
    · exact hs _
    · exact (hs _).trans (occur_laneKeeps ..)
    · exact (hs _).trans (laneMalformedFrameEvent_laneKeeps ..)
  · exact .refl s

theorem laneBadCrcEvent_laneKeeps (l : LaneId) (symbols : List Symbol) (s : State) :
    LaneKeeps s (laneBadCrcEvent l symbols s) :=
  foldl_rel .refl .trans (laneSymbol_laneKeeps l) symbols s

/-! ## Timers (R85, R87, R88, R98) -/

theorem laneHelloIntervalEvent_laneKeeps (l : LaneId) (s : State) : LaneKeeps s (laneHelloIntervalEvent l s) := by
  unfold laneHelloIntervalEvent
  split
  · exact modifyLane_laneKeeps (send_places ..)
  · exact .refl s

theorem laneTrainingFailureEvent_laneKeeps (l : LaneId) (s : State) :
    LaneKeeps s (laneTrainingFailureEvent l s) := by
  unfold laneTrainingFailureEvent
  split
  · exact (modifyLane_laneKeeps rfl).trans (occur_laneKeeps ..)
  · exact .refl s

theorem laneRetryEvent_laneKeeps (l : LaneId) (s : State) : LaneKeeps s (laneRetryEvent l s) := by
  unfold laneRetryEvent
  split
  · exact trainLane_laneKeeps s l
  · exact .refl s

theorem laneKeepaliveEvent_laneKeeps (l : LaneId) (s : State) : LaneKeeps s (laneKeepaliveEvent l s) := by
  unfold laneKeepaliveEvent
  split
  · exact modifyLane_laneKeeps (send_places s.timebase .idle (s.lane l))
  · exact .refl s

theorem placeLostLane_laneKeeps (s : State) (l : LaneId) : LaneKeeps s (s.placeLostLane l) := by
  unfold State.placeLostLane
  dsimp only
  split
  · exact trainLane_laneKeeps s l
  · exact modifyLane_laneKeeps rfl
  · exact modifyLane_laneKeeps rfl

theorem laneLossEvent_laneKeeps (l : LaneId) (s : State) : LaneKeeps s (laneLossEvent l s) := by
  unfold laneLossEvent
  split
  · exact ((endLaneWork_laneKeeps s l).trans (placeLostLane_laneKeeps ..)).trans (occur_laneKeeps ..)
  · exact .refl s

theorem thresholdTest_laneKeeps (s : State) (t : Target) : LaneKeeps s (s.thresholdTest t).1 := by
  unfold State.thresholdTest State.testThreshold
  split
  · exact .refl s
  · dsimp only
    have h : LaneKeeps s (s.readActive t).1 := ⟨readActive_keeps s t, (readActive_frame s t).fixed⟩
    split
    · exact h.trans ⟨setRecord_keeps .., rfl⟩
    · exact h

theorem occurIf_laneKeeps (s : State) (b : Bool) (x : Source) (f : FaultFields) : LaneKeeps s (s.occurIf b x f) := by
  unfold State.occurIf
  split
  · exact occur_laneKeeps ..
  · exact .refl s

theorem legExpiryEvent_laneKeeps (l : LaneId) (w : SlotId) (s : State) : LaneKeeps s (legExpiryEvent l w s) := by
  unfold legExpiryEvent
  split
  · exact .refl s
  next q r m h =>
    dsimp only
    have hend := slotEnd_laneKeeps (expiring_eq_some h) (v := .expired q m r.target) (by simp) .timeout []
    exact (((hend.trans (thresholdTest_laneKeeps ..)).trans (occur_laneKeeps ..)).trans (occurIf_laneKeeps ..)).trans
      (occurIf_laneKeeps ..)

/-! ## Issue (R94) and the transmitter -/

theorem laneTransmitterFreeEvent_laneKeeps (l : LaneId) (s : State) :
    LaneKeeps s (laneTransmitterFreeEvent l s) := by
  refine modifyLane_laneKeeps ?_
  split
  · exact send_places ..
  · rfl

/-- A lane after the head of its queue has gone into a slot of its window. -/
def Lane.issuing (x : Lane) (rest : List LegRef) (w : SlotId) (v : Slot) : Lane :=
  Lane.setSlot { x with nextSeq := x.freeSeq + 1, queue := rest } w v

theorem issueLeg_eq (s : State) (l : LaneId) (r : LegRef) (rest : List LegRef) (w : SlotId) (c : Ctx) (g : Leg) :
    s.issueLeg l r rest w c g =
      (((s.setLane l ((s.lane l).issuing rest w (.issued (s.lane l).freeSeq r.ctx c.master r.target
        (s.after (s.classDuration g.deadline))))).setLegState r .issued).refill l).modifyLane l
          (Lane.send s.timebase (.legOut ⟨(s.lane l).freeSeq, g.station, c.legOp, g.addr, c.count⟩)) := rfl

/-- The head of the queue leaves it, and at most one leg takes the freed position. -/
theorem issueLeg_keeps {s : State} {l : LaneId} {r : LegRef} {rest : List LegRef} {w : SlotId} {c : Ctx} (g : Leg)
    (h : (s.lane l).queue = r :: rest) (hw : (s.lane l).slot w = .free) (hc : s.ctx r.ctx = some c) :
    Keeps s (s.issueLeg l r rest w c g) := by
  rw [issueLeg_eq]
  generalize s.after (s.classDuration g.deadline) = d
  generalize hv : Slot.issued (s.lane l).freeSeq r.ctx c.master r.target d = v
  refine .trans (t := (((s.setLane l ((s.lane l).issuing rest w v)).setLegState r .issued).refill l)) ?_
    (modifyLane_keeps (send_places ..))
  have hleg := setLegState_frame (s.setLane l ((s.lane l).issuing rest w v)) r .issued
  have hplace := hleg.toPlace.trans (refill_place _ l)
  have hphase := hplace.phase
  refine ⟨(setLane_keepsRest s l _).trans hplace.keepsRest, fun hl i => ?_,
    legsPlaced_of hphase (fun b hb => refill_free (setLegState_free (by exact hb)) l) fun _ hs => ?_⟩
  · have hlen := refill_length ((s.setLane l ((s.lane l).issuing rest w v)).setLegState r .issued) l i
    rw [hleg.lane, State.lane_setLane] at hlen
    have hi := hl i
    split at hlen
    next e =>
      subst e
      rw [h, List.length_cons] at hi
      change _ ≤ rest.length + _ at hlen
      omega
    next e => omega
  · refine refill_stands (legsStand_issue hs h hw hc rfl (q := (s.lane l).freeSeq) (d := d) ?_ fun u hu => ?_) l
    · exact (slot_setSlot ..).trans ((if_pos rfl).trans hv.symm)
    · exact (slot_setSlot ..).trans (if_neg hu)

theorem freeSlot_eq_some {x : Lane} {w : SlotId} (h : x.freeSlot = some w) : x.slot w = .free := by
  simpa using List.find?_some h

theorem issueEvent_keeps (l : LaneId) (s : State) : Keeps s (issueEvent l s) := by
  unfold issueEvent
  split
  · dsimp only
    split
    next r rest w hq hw =>
      have hdrop : (s.resetDue = false → ¬ s.LegsStand) → Keeps s (s.setLane l { s.lane l with queue := rest }) := fun h =>
        ⟨setLane_keepsRest s l _, setLane_queuesFit fun hl => by
          rw [hq, List.length_cons] at hl
          exact (Nat.le_succ _).trans hl, legsPlaced_of rfl (fun _ hc => hc) fun hd hs => absurd hs (h hd)⟩
      have hplaced : s.LegsStand → ∃ x g, s.ctx r.ctx = some x ∧ x.leg r.target = some g := fun h => by
        obtain ⟨x, g, hx, -, -, -, -, hg⟩ := hasLeg_leg h.counted ((h.queued l r).1 (by rw [hq]; exact List.mem_cons_self))
        exact ⟨x, g, hx, hg⟩
      split
      next c hc =>
        split
        next g _ => exact issueLeg_keeps g hq (freeSlot_eq_some hw) hc
        next hg =>
          refine hdrop fun _ h => ?_
          obtain ⟨x, g, hx, hg'⟩ := hplaced h
          rw [hc] at hx; cases hx
          rw [hg] at hg'; cases hg'
      next hc =>
        refine hdrop fun _ h => ?_
        obtain ⟨x, g, hx, -⟩ := hplaced h
        rw [hc] at hx; cases hx
    next => exact .refl s
  · exact .refl s

end Sys2Proof.Machine
end

section
/-! SUPPORT. The claims' timers, the intake of a request and every management operation keep the bounds (chapters 1 to 3, 6
to 8 and 10). -/

namespace Sys2Proof.Machine

/-! ## Claims (chapter 7) -/

theorem drainDeadlineEvent_keeps (k : ClaimId) (s : State) : Keeps s (drainDeadlineEvent k s) := by
  unfold drainDeadlineEvent
  split
  · split
    · split
      · exact ((setClaim_none_keeps s k).trans (fillSlot_keeps ..)).trans (occur_keeps ..)
      · exact .refl s
    · exact .refl s
  · exact .refl s

theorem leaseExpiryEvent_keeps (k : ClaimId) (s : State) : Keeps s (leaseExpiryEvent k s) := by
  unfold leaseExpiryEvent
  split
  · split
    · split
      · exact (setClaim_none_keeps s k).trans (occur_keeps ..)
      · exact .refl s
    · exact .refl s
  · exact .refl s

/-- A claim record that holds the target has its owner's claim over it (R124). -/
theorem claimOver_isSome {s : State} {k : ClaimId} {c : Claim} {t : Target} (h : s.claim k = some c)
    (ht : t ∈ c.members) : (s.claimOver c.owner t).isSome = true :=
  (claimOver_isSome_iff s c.owner t).2 ⟨k, c, h, rfl, ht⟩

theorem claimClash_eq_none_iff (s : State) (owner : Master) (members : List Target) :
    s.claimClash owner members = none ↔ ∀ t ∈ members, ¬ s.Claimed owner t := by
  simp only [State.claimClash, List.findSome?_eq_none_iff, Option.map_eq_none_iff, ← claimOver_isSome_iff,
    Bool.not_eq_true, Option.isSome_eq_false_iff, Option.isNone_iff_eq_none]

theorem eq_or_eq_other (m w : Master) : w = m ∨ w = m.other := by
  cases m <;> cases w <;> simp [Master.other]

/-- Checks 3 to 6 of R124 let a claim through only over members that no record holds. -/
theorem judgeClaim_create {s : State} {m : Master} {members : List (Target × DirEntry)} {k : ClaimId}
    (h : s.judgeClaim m members = .create k) : ∀ w, ∀ t ∈ members.map Prod.fst, ¬ s.Claimed w t := by
  unfold State.judgeClaim at h
  split at h
  · cases h
  · split at h
    · cases h
    next hother =>
      split at h
      · cases h
      next hown =>
        intro w
        rcases eq_or_eq_other m w with e | e <;> rw [e]
        · exact (claimClash_eq_none_iff ..).1 hown
        · exact (claimClash_eq_none_iff ..).1 hother

/-- A record is created over members that no other record holds. -/
theorem setClaim_keeps {s : State} {k : ClaimId} {c : Claim} (h : ∀ w, ∀ t ∈ c.members, ¬ s.Claimed w t) :
    Keeps s (s.setClaim k (some c)) where
  queue := rfl
  quotas := id
  lanes := id
  records := id
  windows := id
  slots := id
  response := id
  credits := id
  claims := fun hc i j a b ha hb hij t hta htb => by
    rw [State.claim_setClaim] at ha hb
    split at ha <;> split at hb
    next hi hj => exact hij (hi.trans hj.symm)
    next hi hj => cases ha; exact h _ t hta ⟨j, b, hb, rfl, htb⟩
    next hi hj => cases hb; exact h _ t htb ⟨i, a, ha, rfl, hta⟩
    next hi hj => exact hc i j a b ha hb hij t hta htb
  legs := legsPlaced_congr rfl rfl fun _ => rfl

theorem createClaim_keeps {s : State} {m : Master} {tag : Byte} {k : ClaimId} {members : List Target}
    {lease drain : BitVec 16} (h : ∀ w, ∀ t ∈ members, ¬ s.Claimed w t) :
    Keeps s (s.createClaim m tag k members lease drain) := by
  unfold State.createClaim
  dsimp only
  split
  · exact (setClaim_keeps (by exact h)).trans (grantClaim_keepsLegs ..)
  · exact setClaim_keeps h

theorem concludeClaim_keeps {s : State} {m : Master} {tag : Byte} {members : List (Target × DirEntry)}
    {lease drain : BitVec 16} :
    Keeps s (s.concludeClaim m tag (members.map Prod.fst) lease drain (s.judgeClaim m members)) := by
  unfold State.concludeClaim
  split
  · exact fillSlot_keeps ..
  · exact fillSlot_keeps ..
  · exact fillSlot_keeps ..
  · exact fillSlot_keeps ..
  next hj => exact createClaim_keeps (judgeClaim_create hj)

theorem resolveScope_keeps (s : State) (scope : Scope) : Keeps s (s.resolveScope scope).1 := by
  unfold State.resolveScope
  split
  · exact scanActive_keeps ..
  · exact groupMembers_keeps ..

theorem opClaim_keeps (m : Master) (tag kind number : Byte) (lease drain : BitVec 16) (s : State) :
    Keeps s (opClaim m tag kind number lease drain s) := by
  unfold opClaim
  split
  · exact fillSlot_keeps ..
  · split
    · exact fillSlot_keeps ..
    next scope _ _ =>
      dsimp only
      refine (resolveScope_keeps s scope).trans ?_
      split
      · exact fillSlot_keeps ..
      · exact concludeClaim_keeps

/-- The lease of a record is set again: its owner and its members stay. -/
theorem ownClaim_scope {s : State} {m : Master} {k : ClaimId} {c : Claim} (h : s.ownClaim m k = some c)
    (v : ClaimState) :
    (some { c with state := v }).map (fun c : Claim => (c.owner, c.members)) = s.scopeOf k := by
  have hc : s.claim k = some c := by
    unfold State.ownClaim at h
    split at h
    next d hd => split at h <;> simp_all
    next => cases h
  rw [State.scopeOf, hc]; rfl

theorem opRenew_keeps (m : Master) (tag claimId : Byte) (s : State) : Keeps s (opRenew m tag claimId s) := by
  unfold opRenew
  split
  · exact invalid_keeps ..
  · split
    · exact answer_keeps ..
    next hown =>
      split
      · exact answer_keeps ..
      · exact ((setClaim_frame s _ _ (ownClaim_scope hown _)).keeps (legsPlaced_congr rfl rfl fun _ => rfl)).trans
          (answer_keeps ..)

theorem opRelease_keeps (m : Master) (tag claimId : Byte) (s : State) : Keeps s (opRelease m tag claimId s) := by
  unfold opRelease
  split
  · exact invalid_keeps ..
  · split
    · exact answer_keeps ..
    · split
      · exact ((setClaim_none_keeps s _).trans (fillSlot_keeps ..)).trans (answer_keeps ..)
      · exact (setClaim_none_keeps s _).trans (answer_keeps ..)

/-! ## Tables (chapters 1 and 2) -/

theorem heal_keeps (s : State) (t : Target) : Keeps s (s.heal t) := keeps_of_bounded rfl

theorem opDirRead_keeps (m : Master) (tag target copy : Byte) (s : State) :
    Keeps s (opDirRead m tag target copy s) := by
  unfold opDirRead
  split
  · exact invalid_keeps ..
  · exact invalid_keeps ..
  · exact answer_keeps ..
  · exact (readActive_keeps ..).trans (answer_keeps ..)

theorem opDirWrite_keeps (m : Master) (tag : Byte) (p : DirParams) (s : State) : Keeps s (opDirWrite m tag p s) := by
  unfold opDirWrite
  split
  · exact invalid_keeps ..
  next t e _ =>
    have h : Keeps s (s.setStaged t e) := keeps_of_bounded rfl
    exact h.trans (answer_keeps ..)

theorem discardEntry_keeps (s : State) (t : Target) : Keeps s (s.discardEntry t) := by
  unfold State.discardEntry
  split
  · exact tableIntegrity_keeps s t
  · exact keeps_of_bounded rfl

theorem opDiscard_keeps (m : Master) (tag : Byte) (s : State) : Keeps s (opDiscard m tag s) := by
  have h : Keeps s (allTargets.foldl State.discardEntry s) := foldl_rel .refl .trans discardEntry_keeps _ s
  unfold opDiscard State.discardTables
  generalize allTargets.foldl State.discardEntry s = u at h ⊢
  have hg : Keeps u { u with stagedGroups := u.activeGroups } := keeps_of_bounded rfl
  exact (h.trans hg).trans (answer_keeps ..)

theorem healRelocated_keeps (s : State) : Keeps s s.healRelocated := by
  refine foldl_rel .refl .trans (fun u t => ?_) _ s
  split
  · exact heal_keeps u t
  · exact .refl u

theorem acceptCommit_keeps (s : State) : Keeps s s.acceptCommit := by
  have h := healRelocated_keeps s
  unfold State.acceptCommit
  generalize s.healRelocated = u at h ⊢
  exact h.trans (keeps_of_bounded rfl)

theorem opCommit_keeps (m : Master) (tag : Byte) (s : State) : Keeps s (opCommit m tag s) := by
  unfold opCommit
  split
  · exact (answer_keeps ..).trans (occur_keeps ..)
  · exact (acceptCommit_keeps s).trans (answer_keeps ..)

theorem opStatusRead_keeps (m : Master) (tag target : Byte) (s : State) : Keeps s (opStatusRead m tag target s) := by
  unfold opStatusRead
  split
  · exact invalid_keeps ..
  · exact answer_keeps ..

theorem opRevive_keeps (m : Master) (tag target : Byte) (s : State) : Keeps s (opRevive m tag target s) := by
  unfold opRevive
  split
  · exact invalid_keeps ..
  · exact (heal_keeps s _).trans (answer_keeps ..)

theorem opGroupRead_keeps (m : Master) (tag group copy : Byte) (s : State) :
    Keeps s (opGroupRead m tag group copy s) := by
  unfold opGroupRead
  split
  · exact invalid_keeps ..
  · split
    · exact invalid_keeps ..
    · exact answer_keeps ..
    · exact answer_keeps ..
    · exact answer_keeps ..

theorem opGroupWrite_keeps (m : Master) (tag group enabled rightsM0 rightsM1 : Byte) (s : State) :
    Keeps s (opGroupWrite m tag group enabled rightsM0 rightsM1 s) := by
  unfold opGroupWrite
  split
  · exact invalid_keeps ..
  next g e _ =>
    have h : Keeps s { s with stagedGroups := s.stagedGroups.set g e } := keeps_of_bounded rfl
    exact h.trans (answer_keeps ..)

/-! ## Quotas, lanes and deadline classes -/

theorem opQuotaWrite_keeps (m : Master) (tag quotaM0 quotaM1 : Byte) (s : State) :
    Keeps s (opQuotaWrite m tag quotaM0 quotaM1 s) := by
  unfold opQuotaWrite
  split
  · exact invalid_keeps ..
  · split
    · exact invalid_keeps ..
    next hsum =>
      refine .trans (t := { s with quotaM0 := quotaM0.toNat, quotaM1 := quotaM1.toNat }) ?_ (answer_keeps ..)
      exact ⟨⟨rfl, fun _ => Nat.le_of_not_lt hsum, id, id, id, id, id, id⟩, id, legsPlaced_congr rfl rfl fun _ => rfl⟩

theorem opLaneRead_keeps (m : Master) (tag lane : Byte) (s : State) : Keeps s (opLaneRead m tag lane s) := by
  unfold opLaneRead
  split
  · exact invalid_keeps ..
  · exact answer_keeps ..

theorem fenceLane_keeps (s : State) (l : LaneId) : Keeps s (s.fenceLane l) :=
  ((fenceLane_frame s l).toFault (fenceLane_queue s l)).keeps (fenceLane_placed s l)

theorem endLaneWork_trainLane_keeps (s : State) (l : LaneId) : Keeps s ((s.endLaneWork l).trainLane l) :=
  ((endLaneWork_laneKeeps s l).trans (trainLane_laneKeeps _ l)).toKeeps

/-- Every action of LANE-CONTROL keeps the bounds. -/
theorem laneAction_keeps {action : Byte} {f : State → LaneId → State × Status} (h : laneAction action = some f)
    (s : State) (l : LaneId) : Keeps s (f s l).1 := by
  unfold laneAction at h
  split at h <;> cases h
  · unfold State.retrainLane
    split
    · exact .refl s
    · exact (trainLane_laneKeeps s l).toKeeps
    · exact endLaneWork_trainLane_keeps s l
    · exact .refl s
    · exact (trainLane_laneKeeps s l).toKeeps
  · unfold State.fenceCommand
    split
    · exact .refl s
    · exact fenceLane_keeps s l
  · unfold State.unfenceLane
    split
    · exact endLaneWork_trainLane_keeps s l
    · exact .refl s
  · unfold State.enableLane
    split
    · exact .trans (modifyLane_keeps rfl) (trainLane_laneKeeps _ l).toKeeps
    · exact .refl s
  · unfold State.disableLane
    split
    · exact .refl s
    · exact setLane_keeps (by rfl)
    · exact (endLaneWork_laneKeeps s l).toKeeps.trans (setLane_keeps (by rfl))
  · exact setLane_keeps (by rfl)
  · exact setLane_keeps (by rfl)

theorem opLaneControl_keeps (m : Master) (tag lane action : Byte) (s : State) :
    Keeps s (opLaneControl m tag lane action s) := by
  unfold opLaneControl
  split
  · exact invalid_keeps ..
  · exact invalid_keeps ..
  next hf => exact (laneAction_keeps hf s _).trans (answer_keeps ..)

theorem opDeadlineWrite_keeps (m : Master) (tag cls mantissa scale : Byte) (s : State) :
    Keeps s (opDeadlineWrite m tag cls mantissa scale s) := by
  unfold opDeadlineWrite
  split
  · exact invalid_keeps ..
  next c d _ =>
    have h : Keeps s { s with classes := s.classes.set c d } := keeps_of_bounded rfl
    exact h.trans (answer_keeps ..)

/-! ## Faults and alerts (chapter 8) -/

theorem opActionWrite_keeps (m : Master) (tag source action : Byte) (s : State) :
    Keeps s (opActionWrite m tag source action s) := by
  have h : ∀ (i : Fin 22) (a : Action), Keeps s { s with sources := s.sources.set i { s.sources[i] with action := a } } :=
    fun _ _ => keeps_of_bounded rfl
  unfold opActionWrite
  split
  · exact invalid_keeps ..
  · split
    · exact invalid_keeps ..
    · split
      · exact invalid_keeps ..
      · exact (h _ _).trans (answer_keeps ..)

/-- Without its first record the queue is still consecutive. -/
theorem recordsConsecutive_tail {s : State} {r : FaultRecord} {rest : List FaultRecord} (h : s.records = r :: rest)
    (hc : s.RecordsConsecutive) : State.RecordsConsecutive { s with records := rest, lostCount := 0 } := by
  obtain ⟨hlen, hseq⟩ := hc
  simp only [h, List.length_cons] at hlen hseq
  refine ⟨by dsimp only; omega, fun i hi => ?_⟩
  have e := hseq (i + 1) (by dsimp only at hi; omega)
  rw [List.getElem_cons_succ] at e
  dsimp only
  rw [e, show rest.length + 1 - (i + 1) = rest.length - i by omega]

theorem opFaultPop_keeps (m : Master) (tag : Byte) (s : State) : Keeps s (opFaultPop m tag s) := by
  unfold opFaultPop
  split
  next r rest hr =>
    refine .trans (t := { s with records := rest, lostCount := 0 }) ?_ (answer_keeps ..)
    exact ⟨⟨rfl, id, recordsConsecutive_tail hr, id, id, id, id, id⟩, id, legsPlaced_congr rfl rfl fun _ => rfl⟩
  next => exact answer_keeps ..

theorem opFaultClear_keeps (m : Master) (tag : Byte) (sources : BitVec 24) (s : State) :
    Keeps s (opFaultClear m tag sources s) := by
  unfold opFaultClear
  split
  · exact invalid_keeps ..
  · have h : Keeps s (s.clearSources sources) := keeps_of_bounded rfl
    exact h.trans (answer_keeps ..)

theorem opLevelWrite_keeps (m : Master) (tag master internal fabric link target floor : Byte) (s : State) :
    Keeps s (opLevelWrite m tag master internal fabric link target floor s) := by
  unfold opLevelWrite
  split
  · exact invalid_keeps ..
  next w levels fl _ =>
    have h : Keeps s (s.setAlert w { s.alert w with levels := levels, floor := fl }) := setAlert_keeps .inl
    exact (h.trans (testAlert_keeps ..)).trans (answer_keeps ..)

/-- A window becomes FREE together with the withdrawal of its ALERT (R157). -/
theorem freeWindow_keeps (s : State) (m : Master) : Keeps s (s.freeWindow m) := by
  have e : s.freeWindow m = (s.modifyPort m (fun p => { p with alertReady := none })).setAlert m
      { s.alert m with busy := false } := by cases m <;> rfl
  rw [e]
  exact (modifyPort_keeps_of_bounded rfl (.inr rfl)).trans
    (setAlert_keeps fun _ => .inr (by rw [State.modifyPort, State.port_setPort_same]))

theorem opAlertAck_keeps (m : Master) (tag : Byte) (s : State) : Keeps s (opAlertAck m tag s) := by
  unfold opAlertAck
  split
  · exact ((freeWindow_keeps s m).trans (testAlert_keeps ..)).trans (answer_keeps ..)
  · exact answer_keeps ..

/-! ## The hub (chapter 10) -/

theorem opRightsWrite_keeps (m : Master) (tag rights : Byte) (s : State) : Keeps s (opRightsWrite m tag rights s) := by
  unfold opRightsWrite
  split
  · exact invalid_keeps ..
  next r _ =>
    have h : Keeps s { s with rightsM1 := r } := keeps_of_bounded rfl
    exact h.trans (answer_keeps ..)

theorem opResume_keeps (m : Master) (tag : Byte) (s : State) : Keeps s (opResume m tag s) := by
  have h : Keeps s { s with hub := if s.hub = .halted then .run else s.hub } := keeps_of_bounded rfl
  exact h.trans (answer_keeps ..)

/-- A port's part of a fabric reset: its buffer's requests are owed as credits (R175). -/
theorem portFabricReset_keeps (notice : Notice) (p : Port) : PortKeeps p (p.fabricReset notice) := by
  refine ⟨fun _ => Nat.zero_le _, id, fun h => ?_, .inr rfl⟩
  unfold Port.CreditsFit Port.fabricReset at *
  split at h
  next hup => simp only [hup, if_true, List.length_nil]; omega
  next hup => obtain ⟨hr, hb, ho⟩ := h; simp [hup, hr, hb, ho]

/-- The parts of a fabric reset of the ports come before the emptying of the alerts as well as after it. -/
theorem resetBlocks_eq (s : State) :
    s.resetBlocks =
      ((((State.modifyPort { s with
        contexts := Vector.replicate 32 none
        claims := Vector.replicate 8 none
        status := s.status.map (fun r => { r with inFlightM0 := 0, inFlightM1 := 0 })
        hub := if s.hub = .halted then .run else s.hub
        fabricResets := s.fabricResets + 1 } .m0 (Port.fabricReset ⟨s.generation, s.timebase⟩)).modifyPort .m1
          (Port.fabricReset ⟨s.generation, s.timebase⟩)).clearAlerts .m0).clearAlerts .m1) := rfl

theorem resetBlocks_keepsRest (s : State) : KeepsRest s s.resetBlocks := by
  have hport : ∀ (u : State) m, Keeps u (u.modifyPort m (Port.fabricReset ⟨s.generation, s.timebase⟩)) :=
    fun u m => modifyPort_keeps (portFabricReset_keeps ..) fun _ h => h
  have hblocks := fun u => (((hport u .m0).trans (hport _ .m1)).trans (clearAlerts_keeps (m := .m0) rfl)).trans
    (clearAlerts_keeps (m := .m1) rfl)
  rw [resetBlocks_eq]
  refine .trans ?_ (hblocks _).toKeepsRest
  refine ⟨rfl, id, id, id, id, id, id, fun _ k j c d hk => ?_⟩
  simp [State.claim] at hk

theorem resetBlocks_lane (s : State) (l : LaneId) : s.resetBlocks.lane l = s.lane l := rfl

theorem resetBlocks_free (s : State) (c : CtxId) : s.resetBlocks.ctx c = none := by
  change (Vector.replicate 32 (none : Option Ctx))[c] = none
  simp

theorem lane_resetLanes (s : State) (l : LaneId) : s.resetLanes.lane l = (s.lane l).fabricReset s.timebase :=
  lane_mapLanes ..

/-- With every lane emptied and no context in use, the legs are in their places in any phase. -/
theorem resetLanes_placed {s : State} (h : ∀ c, s.ctx c = none) : s.resetLanes.LegsPlaced := by
  cases hd : s.resetLanes.resetDue with
  | true => exact (legsPlaced_due hd).2 h
  | false =>
    refine (legsPlaced_standing hd).2 (legsStand_empty h (fun l => ?_) fun l w q c m t d hw => ?_)
    · rw [lane_resetLanes]; exact (resetLane_empty _ _).1
    · rw [lane_resetLanes, (resetLane_empty _ _).2] at hw; cases hw

theorem fabricReset_keeps (s : State) : Keeps s s.fabricReset := by
  have h := resetBlocks_keepsRest s
  unfold State.fabricReset State.fabricResetAs
  split
  · refine ⟨h.trans (setPhase_keepsRest ?_), fun hl l => hl l, fun _ => (legsPlaced_due rfl).2 (resetBlocks_free s)⟩
    rintro (e | ⟨n, e⟩) <;> cases e
  · exact ⟨h.trans (mapLanes_keepsRest _ _), fun hl => resetLanes_queuesFit fun l => hl l,
      fun _ => resetLanes_placed (resetBlocks_free s)⟩

/-- The slot for the answer of a fabric reset, in a queue that the reset has emptied (R183). -/
theorem fabricReset_slots (s : State) (m : Master) : (s.fabricReset.port m).slotsUsed = 0 := by
  unfold State.fabricReset State.fabricResetAs
  split <;> cases m <;> rfl

theorem opFabricReset_keeps (m : Master) (tag : Byte) (s : State) :
    Keeps s (opFabricReset m tag s) := by
  have h0 := fabricReset_slots s m
  refine ((fabricReset_keeps s).trans ?_).trans (answer_keeps ..)
  refine modifyPort_keeps ⟨fun _ => ?_, id, id, .inl rfl⟩ fun _ h => h
  unfold Port.slotsUsed at h0 ⊢
  dsimp only; omega

theorem perform_keeps (m : Master) (tag : Byte) (op : HubOp) (s : State) : Keeps s (perform m tag op s) := by
  unfold perform
  cases op with
  | ident => exact answer_keeps ..
  | dirRead t c => exact opDirRead_keeps ..
  | dirWrite p => exact opDirWrite_keeps ..
  | discard => exact opDiscard_keeps ..
  | commit => exact opCommit_keeps ..
  | statusRead t => exact opStatusRead_keeps ..
  | revive t => exact opRevive_keeps ..
  | groupRead g c => exact opGroupRead_keeps ..
  | groupWrite g e r0 r1 => exact opGroupWrite_keeps ..
  | quotaRead => exact answer_keeps ..
  | quotaWrite q0 q1 => exact opQuotaWrite_keeps ..
  | laneRead l => exact opLaneRead_keeps ..
  | laneControl l a => exact opLaneControl_keeps ..
  | deadlineRead => exact answer_keeps ..
  | deadlineWrite c ma sc => exact opDeadlineWrite_keeps ..
  | claim k n lease drain => exact opClaim_keeps ..
  | renew k => exact opRenew_keeps ..
  | release k => exact opRelease_keeps ..
  | actionRead => exact answer_keeps ..
  | actionWrite n a => exact opActionWrite_keeps ..
  | faultRead => exact answer_keeps ..
  | faultPop => exact opFaultPop_keeps ..
  | faultClear b => exact opFaultClear_keeps ..
  | levelRead => exact answer_keeps ..
  | levelWrite w i f l t fl => exact opLevelWrite_keeps ..
  | alertAck => exact opAlertAck_keeps ..
  | rightsWrite r => exact opRightsWrite_keeps ..
  | resume => exact opResume_keeps ..
  | fabricReset => exact opFabricReset_keeps ..

theorem manage_keeps (m : Master) (tag : Byte) (op : HubOp) (s : State) : Keeps s (manage m tag op s) := by
  unfold manage
  split
  · exact perform_keeps ..
  · exact (fillSlot_keeps ..).trans (occur_keeps ..)

/-! ## Admission (chapter 3) -/

theorem rise_keeps (s : State) (m : Master) (t : Target) : Keeps s (s.rise m t) := setRecord_keeps ..

/-- A leg joins a queue only while it has room (R51). -/
theorem placeLegs_keepsRest (m : Master) (c : CtxId) (legs : List Leg) (s : State) (placed : List Leg) :
    KeepsRest s (s.placeLegs m c placed legs).1 ∧ (s.QueuesFit → (s.placeLegs m c placed legs).1.QueuesFit) := by
  induction legs generalizing s placed with
  | nil => exact ⟨.refl s, id⟩
  | cons g gs ih =>
    unfold State.placeLegs
    split
    · split
      next hroom =>
        have hlen : (s.lane g.lane).queue.length < 16 := by
          obtain ⟨hblocked, -⟩ := (hasRoom_iff s placed g.lane).1 hroom
          exact Nat.lt_of_not_le fun h => hblocked (.inr h)
        have hrise := rise_keeps (s.setLane g.lane { s.lane g.lane with queue := (s.lane g.lane).queue ++ [⟨c, g.target⟩] })
          m g.target
        refine ⟨.trans (.trans (setLane_keepsRest ..) hrise.toKeepsRest) (ih ..).1, fun hl => (ih ..).2 (hrise.lanes ?_)⟩
        refine setLane_queuesFit (fun _ => ?_) hl
        rw [List.length_append]; exact hlen
      next => exact ⟨(rise_keeps ..).toKeepsRest.trans (ih ..).1, fun hl => (ih ..).2 ((rise_keeps ..).lanes hl)⟩
    · exact ih ..

theorem freeContext_eq_some {s : State} {c : CtxId} (h : s.freeContext = some c) : s.ctx c = none := by
  simpa using List.find?_some h

/-- An allocated context puts its legs in their places, while no part of a fabric reset is due. -/
theorem allocate_keeps {s : State} (hd : s.resetDue = false) {legs : List Leg} (hf : Fresh legs) {c : CtxId}
    (hc : s.ctx c = none) (m : Master) (tag : Byte) (q : TargetRequest) : Keeps s (s.allocate m tag q legs c) := by
  obtain ⟨hrest, hqueues⟩ := placeLegs_keepsRest m c legs s []
  have hstand := fun h => allocate_stands (s := s) h hf hc m tag q
  have hphase : (s.placeLegs m c [] legs).1.phase = s.phase := by
    have e := congrArg State.phase (placeLegs_spec_fresh hf s m c).rest
    exact e
  unfold State.allocate at hstand ⊢
  generalize s.placeLegs m c [] legs = u at hrest hqueues hstand hphase ⊢
  have hnew : KeepsRest u.1 (State.setCtx { u.1 with admission := s.admission + 1 } c (some (s.newContext m tag q u.2))) :=
    ⟨rfl, id, id, id, id, id, id, id⟩
  refine ⟨hrest.trans hnew, fun hl l => hqueues hl l, fun hp => ?_⟩
  refine (legsPlaced_standing ?_).2 (hstand ((legsPlaced_standing hd).1 hp))
  exact (resetDue_congr hphase).trans hd

theorem admitLegs_keeps {s : State} (hd : s.resetDue = false) (m : Master) (tag : Byte) (q : TargetRequest)
    {legs : List Leg} (hf : Fresh legs) : Keeps s (s.admitLegs m tag q legs) := by
  have hbusy : Keeps s ((s.refuse m tag .busy).occur .contextExhausted (requestFields m tag)) :=
    (fillSlot_keeps ..).trans (occur_keeps ..)
  unfold State.admitLegs
  split
  next c hc =>
    split
    · exact allocate_keeps hd hf (freeContext_eq_some hc) m tag q
    · exact hbusy
  next => exact hbusy

/-- No check of a target passes with an outcome of OK. -/
theorem targetCheck_ne_ok (s : State) (m : Master) (q : TargetRequest) (t : Target) (e : DirEntry) :
    s.targetCheck m q t e ≠ some .ok := by
  unfold State.targetCheck State.targetCondition
  repeat' split
  all_goals simp

theorem legOf_state (q : TargetRequest) (t : Target) (e : DirEntry) {failed : Option LegOutcome} (h : failed ≠ some .ok) :
    (legOf q t e failed).state = .pending ∨ ∃ o, o ≠ .ok ∧ (legOf q t e failed).state = .done o := by
  cases failed with
  | none => exact .inl rfl
  | some o => exact .inr ⟨o, fun ho => h (by rw [ho]), rfl⟩

theorem fresh_single (q : TargetRequest) (t : Target) (e : DirEntry) : Fresh [legOf q t e none] where
  ascending := List.pairwise_singleton _ _
  state := fun g hg => by rw [List.mem_singleton.1 hg]; exact .inl rfl
  toSend := ⟨_, List.mem_singleton_self _, rfl⟩

theorem FaultFrame.resetDue {s t : State} (h : FaultFrame s t) : t.resetDue = s.resetDue :=
  resetDue_congr (congrArg Fixed.phase h.fixed)

theorem admitUnicast_keeps {s : State} (hd : s.resetDue = false) (m : Master) (tag : Byte) (q : TargetRequest) :
    Keeps s (s.admitUnicast m tag q) := by
  unfold State.admitUnicast
  split
  · exact fillSlot_keeps ..
  next t _ =>
    refine .trans (readActive_keeps s t) ?_
    dsimp only
    split
    · split
      · exact fillSlot_keeps ..
      · exact admitLegs_keeps ((readActive_frame s t).resetDue.trans hd) m tag q (fresh_single ..)
    · exact fillSlot_keeps ..

theorem filterMap_keys_sublist {α β : Type} {f : α → Option (α × β)} (h : ∀ a b, f a = some b → b.1 = a) (xs : List α) :
    ((xs.filterMap f).map Prod.fst).Sublist xs := by
  induction xs with
  | nil => exact .slnil
  | cons x xs ih =>
    rw [List.filterMap_cons]
    split
    next => exact ih.cons x
    next b hb => rw [List.map_cons, h x b hb]; exact ih.cons_cons x

/-- The members of a group are in ascending target ID (R26). -/
theorem groupMembers_ascending (s : State) (g : Nat) :
    ((s.groupMembers g).2.map Prod.fst).Pairwise (· < ·) := by
  have hall : allTargets.Pairwise (· < ·) := List.pairwise_lt_finRange 63
  have hscan := scanActive_eq allTargets s (hall.imp fun h => ne_of_lt h)
  unfold State.groupMembers
  generalize allTargets = ts at hall hscan
  rw [hscan]
  refine hall.sublist (((List.filter_sublist).map _).trans (filterMap_keys_sublist (fun t b hb => ?_) ts))
  dsimp only at hb
  split at hb
  · cases hb; rfl
  · cases hb

theorem fresh_members {s : State} {g : Nat} (m : Master) (q : TargetRequest) (u : State)
    (h : ∃ k ∈ (s.groupMembers g).2.map (fun p => legOf q p.1 p.2 (u.targetCheck m q p.1 p.2)), k.unfinished = true) :
    Fresh ((s.groupMembers g).2.map (fun p => legOf q p.1 p.2 (u.targetCheck m q p.1 p.2))) where
  ascending := by
    have e := groupMembers_ascending s g
    unfold Ascending
    rw [List.map_map]
    exact e
  state := fun k hk => by
    obtain ⟨p, -, rfl⟩ := List.mem_map.1 hk
    exact legOf_state q _ _ (targetCheck_ne_ok u m q _ _)
  toSend := h

theorem admitLegList_keeps {s : State} (hd : s.resetDue = false) (m : Master) (tag : Byte) (q : TargetRequest)
    {legs : List Leg} (hf : (∃ g ∈ legs, g.unfinished = true) → Fresh legs) : Keeps s (s.admitLegList m tag q legs) := by
  unfold State.admitLegList
  split
  · exact fillSlot_keeps ..
  · split
    · exact fillSlot_keeps ..
    next hall =>
      refine admitLegs_keeps hd m tag q (hf ?_)
      simpa using hall

theorem admitGroup_keeps {s : State} (hd : s.resetDue = false) (m : Master) (tag : Byte) (q : TargetRequest) :
    Keeps s (s.admitGroup m tag q) := by
  have hfresh := fun u => fresh_members (s := s) (g := q.dest) m q u
  have hdue := (groupMembers_frame s q.dest).resetDue.trans hd
  have hmembers := groupMembers_keeps s q.dest
  unfold State.admitGroup
  split
  · generalize s.groupMembers q.dest = p at hfresh hdue hmembers ⊢
    refine .trans hmembers ?_
    dsimp only
    split
    · exact fillSlot_keeps ..
    · split
      · exact admitLegList_keeps hdue m tag q (hfresh _)
      · exact fillSlot_keeps ..
  · exact fillSlot_keeps ..

theorem dropTag_keeps (s : State) (m : Master) (tag : Byte) : Keeps s (s.dropTag m tag) := by
  refine .trans (modifyPort_keeps ⟨fun h => ?_, id, id, .inl rfl⟩ fun _ h => h) (occur_keeps ..)
  unfold Port.slotsUsed at h ⊢
  dsimp only; omega

theorem admitRequest_keeps {s : State} (hd : s.resetDue = false) (m : Master) (r : RawRequest) :
    Keeps s (s.admitRequest m r) := by
  unfold State.admitRequest
  split
  · exact fillSlot_keeps ..
  · split
    · exact dropTag_keeps ..
    · unfold State.admitAsked
      split
      · exact manage_keeps ..
      · split
        · exact fillSlot_keeps ..
        · exact admitUnicast_keeps hd ..
      · split
        · exact fillSlot_keeps ..
        · exact admitGroup_keeps hd ..

theorem nextMaster_takeable {s : State} {m : Master} (h : s.nextMaster = some m) : (s.port m).takeable = true := by
  unfold State.nextMaster at h
  split at h
  · cases h; assumption
  · split at h
    · cases h; assumption
    · cases h

/-- What is next to take is the oldest request of a takeable port (R38). -/
theorem nextTake_takeable {s : State} {m : Master} {r : RawRequest} (h : s.nextTake = some (m, r)) :
    (∃ rest, (s.port m).buffer = r :: rest) ∧ (s.port m).slotsUsed < 24 := by
  unfold State.nextTake at h
  split at h
  next w hw =>
    obtain ⟨r', hr', e⟩ := Option.map_eq_some_iff.1 h
    cases e
    have ht := nextMaster_takeable hw
    simp only [Port.takeable, Bool.and_eq_true, decide_eq_true_eq] at ht
    exact ⟨List.head?_eq_some_iff.1 hr', ht.2⟩
  next => cases h

/-- A take moves a request of the buffer to the credits owed, and reserves one of fewer than 24 slots (R39). -/
theorem portTake_keeps {p : Port} {r : RawRequest} {rest : List RawRequest} (hb : p.buffer = r :: rest)
    (hs : p.slotsUsed < 24) : PortKeeps p p.take := by
  refine ⟨fun _ => ?_, id, fun h => ?_, .inl rfl⟩
  · unfold Port.slotsUsed Port.take at *
    dsimp only; omega
  · unfold Port.CreditsFit Port.take at *
    rw [hb] at h
    split at h
    next hup => simp only [hup, if_true, hb, List.tail_cons, List.length_cons] at h ⊢; omega
    next => cases h.2.1

theorem takeRequest_keeps {s : State} {m : Master} {r : RawRequest} (h : s.nextTake = some (m, r)) :
    Keeps s (s.takeRequest m) := by
  obtain ⟨⟨rest, hb⟩, hs⟩ := nextTake_takeable h
  exact .trans (modifyPort_keeps (portTake_keeps hb hs) fun _ h => h) (keeps_of_bounded rfl)

theorem intakeEvent_keeps {s : State} (hrun : s.phase = .running) : Keeps s (intakeEvent s) := by
  unfold intakeEvent
  split
  next m r h =>
    have hphase : (s.takeRequest m).phase = s.phase := by cases m <;> rfl
    exact (takeRequest_keeps h).trans (admitRequest_keeps (by simp [State.resetDue, hphase, hrun]) m r)
  next => exact .refl s

/-! ## Every event -/

theorem laneEnding_keeps {f : State → State} (hf : LaneEnding f) (s : State) : Keeps s (f s) := by
  cases hf with
  | legBack l f => exact (legBackEvent_laneKeeps l f s).toKeeps
  | deviceHello l stations => exact (deviceHelloEvent_laneKeeps l stations s).toKeeps
  | laneLoss l => exact (laneLossEvent_laneKeeps l s).toKeeps
  | legExpiry l w => exact (legExpiryEvent_laneKeeps l w s).toKeeps

theorem event_keeps {f : State → State} (hf : Event f) {s : State} (hrun : s.phase = .running) : Keeps s (f s) := by
  cases hf with
  | request m r => exact requestEvent_keeps m r hrun
  | credit m count => exact creditEvent_keeps m count hrun
  | masterHello m value => exact masterHelloEvent_keeps m value hrun
  | upIdle m => exact upIdleEvent_keeps m hrun
  | upBadCrc m symbols => exact upBadCrcEvent_keeps m symbols hrun
  | upMalformed m frame => exact upMalformedFrameEvent_keeps m frame hrun
  | linkHelloInterval m => exact linkHelloIntervalEvent_keeps m s
  | linkTrainingFailure m => exact linkTrainingFailureEvent_keeps m s
  | linkRetry m => exact linkRetryEvent_keeps m s
  | linkKeepalive m => exact linkKeepaliveEvent_keeps m s
  | linkLoss m => exact linkLossEvent_keeps m s
  | transmitArbiter m => exact transmitArbiterEvent_keeps m s
  | intake => exact intakeEvent_keeps hrun
  | laneIdle l => exact (laneIdleEvent_laneKeeps l s).toKeeps
  | laneBadCrc l symbols => exact (laneBadCrcEvent_laneKeeps l symbols s).toKeeps
  | laneMalformed l frame => exact (laneMalformedFrameEvent_laneKeeps l frame s).toKeeps
  | laneHelloInterval l => exact (laneHelloIntervalEvent_laneKeeps l s).toKeeps
  | laneTrainingFailure l => exact (laneTrainingFailureEvent_laneKeeps l s).toKeeps
  | laneRetry l => exact (laneRetryEvent_laneKeeps l s).toKeeps
  | laneKeepalive l => exact (laneKeepaliveEvent_laneKeeps l s).toKeeps
  | issue l => exact issueEvent_keeps l s
  | laneTransmitterFree l => exact (laneTransmitterFreeEvent_laneKeeps l s).toKeeps
  | drainDeadline k => exact drainDeadlineEvent_keeps k s
  | leaseExpiry k => exact leaseExpiryEvent_keeps k s
  | atLane h => exact laneEnding_keeps h s

end Sys2Proof.Machine
end

section
/-! SUPPORT. The bounds that every step keeps, and that every command runs and keeps the queue of waiting commands. -/

namespace Sys2Proof.Machine

theorem reset_quotasFit : State.reset.QuotasFit := Nat.le_refl 32

theorem reset_recordsConsecutive : State.reset.RecordsConsecutive :=
  ⟨Nat.zero_le _, fun _ h => absurd h (Nat.not_lt_zero _)⟩

theorem reset_slotsFit : State.reset.SlotsFit := fun m => by cases m <;> exact Nat.zero_le _

theorem reset_creditsFit : State.reset.CreditsFit := by
  refine ⟨fun m => ?_, fun _ m => ?_⟩ <;> cases m
  · exact ⟨rfl, rfl, rfl⟩
  · exact ⟨rfl, rfl, rfl⟩
  · exact fun h => by cases h
  · exact fun h => by cases h

theorem reset_responseCreditFits : State.reset.ResponseCreditFits := fun m => by cases m <;> exact Nat.zero_le _

theorem reset_lane (l : LaneId) : State.reset.lane l = Lane.initial := by simp [State.lane, State.reset]

theorem reset_claim (k : ClaimId) : State.reset.claim k = none := by simp [State.claim, State.reset]

theorem reset_ctx (c : CtxId) : State.reset.ctx c = none := by simp [State.ctx, State.reset]

theorem reset_queuesFit : State.reset.QueuesFit := fun l => by rw [reset_lane]; exact Nat.zero_le _

theorem reset_windowsGuard : State.reset.WindowsGuard := fun m h => by cases m <;> cases h

theorem reset_claimsApart : State.reset.ClaimsApart := fun k _ _ _ h => by rw [reset_claim] at h; cases h

theorem reset_legsStand : State.reset.LegsStand :=
  legsStand_empty reset_ctx (fun l => by rw [reset_lane]; rfl) fun l w q c m t d h => by
    have hfree : Lane.initial.slot w = .free := by
      change emptyWindow[w] = .free
      simp [emptyWindow]
    rw [reset_lane, hfree] at h; cases h

theorem reset_legsPlaced : State.reset.LegsPlaced := (legsPlaced_standing rfl).2 reset_legsStand

/-! ## The commands of the reset pin and of the start-up -/

theorem resetLowEvent_keeps (s : State) : Keeps s (resetLowEvent s) where
  queue := rfl
  quotas := fun _ => reset_quotasFit
  lanes := fun _ => reset_queuesFit
  records := fun _ => reset_recordsConsecutive
  windows := fun _ => reset_windowsGuard
  slots := fun _ => reset_slotsFit
  response := fun _ => reset_responseCreditFits
  credits := fun _ => reset_creditsFit
  claims := fun _ => reset_claimsApart
  legs := fun _ => legsPlaced_congr rfl rfl (fun _ => rfl) reset_legsPlaced

/-- The places of the legs read of the phase whether the parts of a fabric reset are due. -/
theorem legsPlaced_standing_congr {s t : State} (hs : s.resetDue = false) (ht : t.resetDue = false)
    (hc : t.contexts = s.contexts) (hl : ∀ l, (t.lane l).places = (s.lane l).places) (h : s.LegsPlaced) : t.LegsPlaced :=
  (legsPlaced_standing ht).2 (legsStand_congr hc hl ((legsPlaced_standing hs).1 h))

theorem asleep_resetDue {s : State} (h : s.Asleep) : s.resetDue = false := by
  unfold State.resetDue
  rcases h with e | ⟨n, e⟩ <;> rw [e]

/-- A part that is asleep goes from one phase into another. -/
theorem setPhase_keeps {s : State} {v : Phase} (h : s.Asleep) (hv : State.resetDue { s with phase := v } = false) :
    Keeps s { s with phase := v } :=
  ⟨setPhase_keepsRest fun _ => h, id, legsPlaced_standing_congr (asleep_resetDue h) hv rfl fun _ => rfl⟩

theorem resetRiseEvent_keeps (s : State) : Keeps s (resetRiseEvent s) := by
  unfold resetRiseEvent
  split
  next hlow => exact setPhase_keeps (.inl hlow) rfl
  next => exact .refl s

/-- When the hold has run out no link is UP, so nothing is lost as both enter TRAINING. -/
theorem startUpHoldEndEvent_keeps (s : State) : Keeps s (startUpHoldEndEvent s) := by
  unfold startUpHoldEndEvent
  split
  next hend =>
    have hlanes : Keeps s { s with lanes := s.lanes.map (Lane.enterTraining s.timebase) } :=
      mapLanes_keeps s _ fun x => by rw [enterTraining_eq]; rfl
    have hslots : ∀ (now : Time) (p : Port), (p.enterTraining now).slotsUsed = p.slotsUsed := fun now p => by
      rw [Port.enterTraining_eq]; rfl
    have hresponse : ∀ (now : Time) (p : Port), (p.enterTraining now).responseCredit = 0 := fun now p => by
      rw [Port.enterTraining_eq]; rfl
    have hready : ∀ (now : Time) (p : Port), (p.enterTraining now).alertReady = p.alertReady := fun now p => by
      rw [Port.enterTraining_eq]; rfl
    refine ⟨⟨hlanes.queue, hlanes.quotas, hlanes.records, fun h m => ?_, fun h m => ?_, fun h m => ?_,
      fun h => ⟨fun m => ?_, fun hs m => ?_⟩, hlanes.claims⟩, hlanes.lanes,
      legsPlaced_standing_congr (asleep_resetDue (.inr ⟨0, hend⟩)) rfl rfl fun l => ?_⟩
    · have hm := h m
      rw [← hready s.timebase] at hm
      cases m <;> exact hm
    · have hm : (s.port m).slotsUsed ≤ 24 := h m
      rw [← hslots s.timebase] at hm
      cases m <;> exact hm
    · have hm : ((s.port m).enterTraining s.timebase).responseCredit ≤ 16 := by
        rw [hresponse]; exact Nat.zero_le _
      cases m <;> exact hm
    · have hm : ((s.port m).enterTraining s.timebase).CreditsFit :=
        (enterTraining_keeps (CreditsFit.empty_of_not_up (h.2 (.inr ⟨0, hend⟩) m))).credits (h.1 m)
      cases m <;> exact hm
    · exact absurd hs (not_asleep_of_running (by rfl))
    · have e : (Lane.enterTraining s.timebase (s.lane l)).places = (s.lane l).places := by rw [enterTraining_eq]; rfl
      exact (congrArg Lane.places (lane_mapLanes s (Lane.enterTraining s.timebase) l)).trans e
  next => exact .refl s

/-- Every property that the relation of a step carries over is kept by every step. -/
theorem inductive_of_keeps {P : State → Prop} (h : ∀ s t, Keeps s t → P s → P t)
    (hqueue : ∀ s q, P s → P { s with pending := q }) : Inductive P where
  queue := hqueue
  resetLow := fun s => h _ _ (resetLowEvent_keeps s)
  rise := fun s => h _ _ (resetRiseEvent_keeps s)
  holdEnd := fun s => h _ _ (startUpHoldEndEvent_keeps s)
  time := fun _ _ => h _ _ (keeps_of_bounded rfl)
  hold := fun _ n _ hs => h _ _ (setPhase_keeps (.inr ⟨n, hs⟩) rfl)
  parts := fun _ _ hs => h _ _ (parts_keeps hs)
  event := fun hf _ hrun => h _ _ (event_keeps hf hrun)
  apart := fun hf s _ _ => h _ _ (laneEnding_keeps hf s)

/-- Settles O55, from the bounds that every event keeps. -/
theorem stepsKeepQuotasAndQueuesFit : Obligations.StepsKeepQuotasAndQueuesFit := fun _ _ hstep =>
  ⟨(inductive_of_keeps (fun _ _ h => h.quotas) fun _ _ h => h).step hstep,
    (inductive_of_keeps (fun _ _ h => h.lanes) fun _ _ h => h).step hstep⟩

/-- Settles O56, from the bounds that every event keeps. -/
theorem stepsKeepRecordsAndWindows : Obligations.StepsKeepRecordsAndWindows := fun _ _ hstep =>
  ⟨(inductive_of_keeps (fun _ _ h => h.records) fun _ _ h => h).step hstep,
    (inductive_of_keeps (fun _ _ h => h.windows) fun _ _ h => h).step hstep⟩

/-- Settles O57, from the bounds that every event keeps. -/
theorem stepsKeepResponseBounds : Obligations.StepsKeepResponseBounds := fun _ _ hstep =>
  ⟨(inductive_of_keeps (fun _ _ h => h.slots) fun _ _ h => h).step hstep,
    (inductive_of_keeps (fun _ _ h => h.response) fun _ _ h => h).step hstep⟩

/-- Settles O58, from the bounds that every event keeps. -/
theorem stepsKeepRequestCredit : Obligations.StepsKeepRequestCredit := fun _ _ hstep =>
  (inductive_of_keeps (fun _ _ h => h.credits) fun _ _ h => h).step hstep

/-- Settles O59, from the bounds that every event keeps. -/
theorem stepsKeepClaimsApart : Obligations.StepsKeepClaimsApart := fun _ _ hstep =>
  (inductive_of_keeps (fun _ _ h => h.claims) fun _ _ h => h).step hstep

/-- Settles O60, from the places of the legs that every event keeps. -/
theorem stepsKeepLegsPlaced : Obligations.StepsKeepLegsPlaced := fun _ _ hstep =>
  (inductive_of_keeps (fun _ _ h => h.legs) fun _ _ h => legsPlaced_congr rfl rfl (fun _ => rfl) h).step hstep

/-- Settles O54: the state of the reset pin meets every bound. -/
theorem boundsHoldAtReset : Obligations.BoundsHoldAtReset :=
  ⟨reset_quotasFit, reset_recordsConsecutive, reset_slotsFit, reset_creditsFit, reset_responseCreditFits, reset_queuesFit,
    reset_windowsGuard, reset_claimsApart, reset_legsPlaced⟩

/-! ## Every command runs -/

theorem whenRunning_keeps {f : State → State} (hf : ∀ {s : State}, s.phase = .running → Keeps s (f s)) (s : State) :
    ∃ t, happens f s = .next t ∧ Keeps s t := by
  rcases phase_cases s with hs | hs | ⟨before, hs⟩
  · exact ⟨s, happens_held f s hs, .refl s⟩
  · exact ⟨f s, happens_running f s hs, hf hs⟩
  · exact ⟨_, happens_resetting f s before hs, (parts_keeps hs).trans (hf rfl)⟩

/-- Every command answers a next state, which keeps the bounds and the waiting commands. -/
theorem exec_keeps (i : Instr) (s : State) : ∃ t, exec i s = .next t ∧ Keeps s t := by
  have hi := exec_meaning i
  generalize exec i = run at hi ⊢
  cases hi with
  | resetLow => exact ⟨_, rfl, resetLowEvent_keeps s⟩
  | holdEnd => exact ⟨_, rfl, startUpHoldEndEvent_keeps s⟩
  | rise => exact ⟨_, rfl, resetRiseEvent_keeps s⟩
  | runs hf => exact whenRunning_keeps (event_keeps hf) s
  | row m tag op =>
    refine whenRunning_keeps (fun {u} hu => ?_) s
    unfold hubEvent
    split
    · exact intakeEvent_keeps hu
    · exact .refl u
  | atLane _ hf =>
    unfold happensAtLane
    split
    · exact ⟨_, rfl, laneEnding_keeps hf s⟩
    · exact whenRunning_keeps (fun {u} _ => laneEnding_keeps hf u) s

/-- Settles O3, from what every command keeps. -/
theorem everyCommandRunsAndKeepsQueue : Obligations.EveryCommandRunsAndKeepsQueue := fun i s => by
  obtain ⟨t, ht, hk⟩ := exec_keeps i s
  exact ⟨t, ht, hk.queue⟩

end Sys2Proof.Machine
end

section
/-! SUPPORT. How a step chooses what to do, and the reset pin with its start-up (R179 to R181). -/

namespace Sys2Proof.Machine

/-! ## A step -/

/-- Settles O1. -/
theorem stepTakesFrontCommand : Obligations.StepTakesFrontCommand := fun _ _ _ h => by
  unfold step
  rw [h]

theorem step_ownEvent {s : State} (h : s.pending = []) {i : Instr} (hi : s.ownEvent = some i) : step s = exec i s := by
  unfold step
  rw [h, hi]

theorem step_passTime {s : State} (h : s.pending = []) (hi : s.ownEvent = none) : step s = .next s.passTime := by
  unfold step
  rw [h, hi]

/-- Settles O2, from what the passing of time does in each phase. -/
theorem emptyQueueTakesOwnEventOrTime : Obligations.EmptyQueueTakesOwnEventOrTime := fun s h =>
  ⟨fun _ hi => step_ownEvent h hi, fun hi => by
    rw [step_passTime h hi]
    unfold State.passTime
    refine ⟨fun hs => ?_, fun n hs => ?_, fun hs => ?_, fun before hs => ?_⟩
    · rw [hs]
    · rw [hs]; rfl
    · rw [hs]
    · have e := settle_resetting s before hs
      rw [hs]
      exact congrArg _ e⟩

/-! ## The reset pin -/

/-- Settles O4: the state of the reset pin, with the queue of waiting commands. -/
theorem resetNLowGivesFullReset : Obligations.ResetNLowGivesFullReset := fun s => by
  refine ⟨resetLowEvent s, rfl, rfl, rfl, rfl, rfl, rfl, rfl, rfl, rfl, rfl, rfl, fun i => ?_, fun g => ?_, reset_ctx,
    reset_claim, fun l => ?_, rfl, fun x => ?_, rfl, rfl, rfl, rfl, rfl, rfl, fun m => ?_⟩
  · have hstaged : State.reset.stagedEntry i = .absent := by simp [State.stagedEntry, State.reset]
    have hactive : State.reset.activeEntry i = ⟨.absent, false⟩ := by simp [State.activeEntry, State.reset]
    have hrecord : State.reset.record i = ⟨.healthy, 0, 0, 0, 0⟩ := by
      simp [State.record, State.reset, TargetRecord.initial]
    exact ⟨hstaged, hactive, hrecord⟩
  · have hgroup : (Vector.replicate 15 GroupEntry.initial)[g] = ⟨false, .none, .none⟩ := by simp [GroupEntry.initial]
    exact ⟨hgroup, hgroup⟩
  · have e : (resetLowEvent s).lane l = Lane.initial := reset_lane l
    have hslot : ∀ w : SlotId, emptyWindow[w] = .free := fun w => by simp [emptyWindow]
    rw [e]
    exact ⟨rfl, rfl, rfl, rfl, rfl, rfl, rfl, rfl, rfl, rfl, rfl, hslot, rfl, rfl, rfl, rfl⟩
  · cases x <;> exact ⟨rfl, rfl⟩
  · cases m <;> exact ⟨rfl, rfl, rfl, rfl, rfl, rfl, rfl, rfl, rfl, rfl, rfl, rfl, rfl, rfl, rfl, rfl, rfl, rfl⟩

/-! ## The start-up hold -/

/-- While the part is asleep nothing happens, but for the reset pin and the end of the hold. -/
theorem exec_asleep {s : State} (h : s.Asleep) {i : Instr} (hlow : i ≠ .resetNLow) (hrise : i ≠ .resetNRise)
    (hend : i ≠ .startUpHoldEnd) : exec i s = .next s := by
  have hi := exec_meaning i
  generalize exec i = run at hi ⊢
  cases hi with
  | resetLow => exact absurd rfl hlow
  | rise => exact absurd rfl hrise
  | holdEnd => exact absurd rfl hend
  | runs hf => exact happens_held _ s h
  | row m tag op => exact happens_held _ s h
  | atLane _ hf => exact happensAtLane_held _ s h

/-- When the hold has run out every Lane Engine and both ports enter TRAINING (R84, R163). -/
theorem startUpHoldEndEvent_eq {s : State} (h : s.phase = .holding 0) :
    startUpHoldEndEvent s = { s with
      phase := .running, lanes := s.lanes.map (Lane.startedTraining s.timebase),
      portM0 := s.portM0.startedTraining s.timebase, portM1 := s.portM1.startedTraining s.timebase } := by
  have hlane : Lane.enterTraining s.timebase = Lane.startedTraining s.timebase := funext (enterTraining_eq _)
  have hport : Port.enterTraining s.timebase = Port.startedTraining s.timebase := funext (Port.enterTraining_eq _)
  unfold startUpHoldEndEvent
  rw [if_pos h, hlane, hport]
  rfl

/-- Settles O5. -/
theorem holdIsCountedThenTrainingStarts : Obligations.HoldIsCountedThenTrainingStarts := fun _ =>
  ⟨fun h _ hlow hrise hend => exec_asleep h hlow hrise hend, fun h => congrArg _ (if_pos h),
    fun h => congrArg _ (if_neg h), fun h => congrArg _ (if_neg h), fun h => congrArg _ (startUpHoldEndEvent_eq h)⟩

end Sys2Proof.Machine
end

section
/-! SUPPORT. The frames of a master, the timers of a link and its transmit arbiter (R162 to R172), as the statements write
what they do. -/

namespace Sys2Proof.Machine

/-- On the part as it runs an event of its row comes about. -/
theorem happens_eq {f : State → State} {s t : State} (hrun : s.phase = .running) (h : f s = t) : happens f s = .next t := by
  rw [happens_running f s hrun, h]

/-! ## Frames at a port that is hunting -/

section
variable {s : State} {m : Master} (hr : (s.port m).receiver = .hunting)
include hr

theorem upFrame_fits {n : Nat} (h1 : 1 ≤ n) (h2 : n ≤ 1021) (take : State → State) : s.upFrame m n take = take s := by
  rw [upFrame_hunting hr, if_pos ((frameFits_iff n).2 ⟨h1, h2⟩)]

theorem upFrame_misfits {n : Nat} (h : n = 0 ∨ 1021 < n) (take : State → State) :
    s.upFrame m n take = s.occur .upCrc (.ofMaster m) := by
  rw [upFrame_hunting hr, if_neg]
  rw [frameFits_iff]; omega

theorem requestEvent_hunting {r : RawRequest} (h : r.rest.length ≤ 1017) :
    requestEvent m r s = s.takeRequestFrame m r := by
  have e : r.bytes = 4 + r.rest.length := rfl
  exact upFrame_fits hr (by omega) (by omega) _

theorem creditEvent_hunting (count : Byte) : creditEvent m count s = s.takeCredit m count :=
  upFrame_fits hr (by omega) (by omega) _

theorem masterHelloEvent_hunting (value : Byte) : masterHelloEvent m value s = s.masterHello m value :=
  upFrame_fits hr (by omega) (by omega) _

end

theorem link_cases (v : LinkState) : v = .up ∨ v ≠ .up := by cases v <;> simp

section
variable {s : State} {m : Master}

theorem takeRequestFrame_malformed {r : RawRequest} (h : 36 < r.rest.length) :
    s.takeRequestFrame m r = s.occur .frameMalformed (.ofMaster m) := if_pos h

theorem takeRequestFrame_notUp {r : RawRequest} (h : r.rest.length ≤ 36) (hl : (s.port m).link ≠ .up) :
    s.takeRequestFrame m r = s := by
  unfold State.takeRequestFrame
  rw [if_neg (Nat.not_lt.2 h)]
  split
  · contradiction
  · rfl

theorem takeRequestFrame_credit {r : RawRequest} (h : r.rest.length ≤ 36) (hl : (s.port m).link = .up)
    (hc : 0 < (s.port m).requestCredit) :
    s.takeRequestFrame m r = s.setPort m { s.port m with
      lastReceived := some s.timebase, buffer := (s.port m).buffer ++ [r],
      requestCredit := (s.port m).requestCredit - 1 } := by
  unfold State.takeRequestFrame
  rw [if_neg (Nat.not_lt.2 h), hl]
  simp [hc, State.modifyPort, Port.heard]

theorem takeRequestFrame_noCredit {r : RawRequest} (h : r.rest.length ≤ 36) (hl : (s.port m).link = .up)
    (hc : (s.port m).requestCredit = 0) :
    s.takeRequestFrame m r =
      (s.setPort m { s.port m with lastReceived := some s.timebase }).occur .upCredit (.ofMaster m) := by
  unfold State.takeRequestFrame
  rw [if_neg (Nat.not_lt.2 h), hl]
  simp [hc, State.modifyPort, Port.heard]

theorem takeCredit_notUp {count : Byte} (hl : (s.port m).link ≠ .up) : s.takeCredit m count = s := by
  unfold State.takeCredit
  split
  · contradiction
  · rfl

theorem takeCredit_malformed {count : Byte} (hl : (s.port m).link = .up)
    (h : count.toNat = 0 ∨ 16 < (s.port m).responseCredit + count.toNat) :
    s.takeCredit m count =
      (s.setPort m { s.port m with lastReceived := some s.timebase }).occur .frameMalformed (.ofMaster m) := by
  unfold State.takeCredit
  rw [hl]
  dsimp only
  rw [if_neg]
  · rfl
  · change ¬ (1 ≤ count.toNat ∧ _ ≤ 16); omega

theorem takeCredit_taken {count : Byte} (hl : (s.port m).link = .up) (h1 : 1 ≤ count.toNat)
    (h2 : (s.port m).responseCredit + count.toNat ≤ 16) {p : Port}
    (hp : p = { s.port m with
      lastReceived := some s.timebase, responseCredit := (s.port m).responseCredit + count.toNat }) :
    s.takeCredit m count = s.setPort m (if p.line = none then p.arbitrate s.timebase else p) := by
  unfold State.takeCredit
  rw [hl]
  dsimp only
  rw [if_pos (show 1 ≤ count.toNat ∧ _ ≤ Config.maxResponseCredit from ⟨h1, h2⟩)]
  simp [State.modifyPort, State.lookAgain, Port.heard, hp]

end

/-- Settles O6. -/
theorem requestAndCreditAtPort : Obligations.RequestAndCreditAtPort := fun s m hrun hr =>
  ⟨fun r =>
    ⟨fun h => happens_eq hrun (upFrame_misfits hr (.inr (by change 1021 < 4 + _; omega)) _),
      fun h h' => happens_eq hrun ((requestEvent_hunting hr h').trans (takeRequestFrame_malformed h)),
      fun h hl => happens_eq hrun ((requestEvent_hunting hr (by omega)).trans (takeRequestFrame_notUp h hl)),
      fun h hl hc => happens_eq hrun ((requestEvent_hunting hr (by omega)).trans (takeRequestFrame_credit h hl hc)),
      fun h hl hc => happens_eq hrun ((requestEvent_hunting hr (by omega)).trans (takeRequestFrame_noCredit h hl hc))⟩,
  fun count =>
    ⟨fun hl => happens_eq hrun ((creditEvent_hunting hr count).trans (takeCredit_notUp hl)),
      fun hl h => happens_eq hrun ((creditEvent_hunting hr count).trans (takeCredit_malformed hl h)),
      fun hl h1 h2 => ⟨_, rfl, happens_eq hrun ((creditEvent_hunting hr count).trans (takeCredit_taken hl h1 h2 rfl))⟩⟩⟩

/-! ## The HELLO of a master (R165) -/

theorem creditOk_iff (b : Byte) : creditOk b = true ↔ 1 ≤ b.toNat ∧ b.toNat ≤ 16 := decide_eq_true_iff

theorem takeMasterHello_malformed {s : State} {m : Master} {value : Byte} (h : value.toNat < 1 ∨ 16 < value.toNat) :
    s.takeMasterHello m value = s.occur .frameMalformed (.ofMaster m) := by
  refine if_neg fun hc => ?_
  have := (creditOk_iff value).1 hc
  omega

theorem takeMasterHello_taken {s : State} {m : Master} {value : Byte} (h1 : 1 ≤ value.toNat) (h2 : value.toNat ≤ 16) :
    s.takeMasterHello m value = (s.modifyPort m (Port.comeUp s.timebase value.toNat)).testAlert m :=
  if_pos ((creditOk_iff value).2 ⟨h1, h2⟩)

/-- Settles O7. -/
theorem masterHelloBringsLinkUp : Obligations.MasterHelloBringsLinkUp := fun s m value hrun hr => by
  have h : ∀ {t}, s.masterHello m value = t → exec (.masterHello m value) s = .next t := fun e =>
    happens_eq hrun ((masterHelloEvent_hunting hr value).trans e)
  refine ⟨fun hl => h ?_, fun hl hv => h ?_, fun hl h1 h2 => ⟨_, rfl, h ?_⟩⟩
  · simp [State.masterHello, hl]
  · simpa [State.masterHello, hl] using takeMasterHello_malformed hv
  · have e : s.masterHello m value = s.takeMasterHello m value := by simp [State.masterHello, hl]
    exact e.trans (takeMasterHello_taken h1 h2)

/-! ## The timers of a link -/

theorem arrives_of_arrived {s : State} {start : Option Time} {n : Nat} (h : s.Arrived start (BitVec.ofNat 32 n)) :
    s.arrives start n = true := by
  obtain ⟨u, rfl, hu⟩ := h
  exact beq_iff_eq.2 hu

theorem sendTrainingHello_eq (p : Port) :
    p.sendTrainingHello = { p with
      line := if p.line = none then some (.hello 0) else p.line,
      hellosWaiting := if p.line = none then p.hellosWaiting else p.hellosWaiting + 1 } := by
  unfold Port.sendTrainingHello
  split
  next h => rw [h]; rfl
  next h => rw [h]; rfl

theorem startedTraining_eq (now : Time) (p : Port) :
    p.startedTraining now = { p with
      link := .training, hellosSent := 1, helloTime := some now, retryTime := none, lastReceived := none,
      lastSent := none, requestCredit := 0, responseCredit := 0, grantWaiting := false,
      line := if p.line = none then some (.hello 0) else p.line,
      hellosWaiting := if p.line = none then p.hellosWaiting else p.hellosWaiting + 1 } := by
  unfold Port.startedTraining
  cases p.line <;> rfl

/-! ## The transmit arbiter (R171), line by line of its table -/

section
variable {p : Port} {now : Time}

theorem arbitrate_hello (h : 0 < p.hellosWaiting) :
    p.arbitrate now = { p with
      line := some (.hello 0), hellosWaiting := p.hellosWaiting - 1,
      lastSent := if p.link = .up then some now else p.lastSent } := if_pos h

theorem arbitrate_notUp (h : p.hellosWaiting = 0) (hl : p.link ≠ .up) : p.arbitrate now = p := by
  unfold Port.arbitrate
  rw [if_neg (by omega), if_neg hl]

section
variable (hl : p.link = .up) (h : p.hellosWaiting = 0)
include hl h

theorem arbitrate_grant (hg : p.grantWaiting = true) :
    p.arbitrate now = { p with line := some (.hello 4), grantWaiting := false, lastSent := some now } := by
  unfold Port.arbitrate
  rw [if_neg (by omega), if_pos hl, if_pos hg]; rfl

theorem arbitrate_choose (hg : p.grantWaiting = false) : p.arbitrate now = p.choose now := by
  unfold Port.arbitrate
  rw [if_neg (by omega), if_pos hl, if_neg (by simp [hg])]

end

theorem choose_notice {n : Notice} (h : p.notice = some n) :
    p.choose now = { p with line := some (.notice n), notice := none, lastSent := some now } := by
  unfold Port.choose
  rw [h]; rfl

section
variable (hn : p.notice = none)
include hn

theorem choose_credit (h : 0 < p.creditsOwed) :
    p.choose now = { p with
      line := some .credit, creditsOwed := p.creditsOwed - 1, requestCredit := p.requestCredit + 1,
      lastSent := some now } := by
  unfold Port.choose
  rw [hn]
  dsimp only
  rw [if_pos h]; rfl

variable (ho : p.creditsOwed = 0)
include ho

theorem choose_alert (hc : 0 < p.responseCredit) {a : Alert} (h : p.alertReady = some a) :
    p.choose now = { p with
      line := some (.alert a), alertReady := none, responseCredit := p.responseCredit - 1, lastSent := some now } := by
  simp [Port.choose, hn, ho, h, Port.hasCredit, hc, Port.sendAlert, Port.transmit]

theorem choose_response (hc : 0 < p.responseCredit) (ha : p.alertReady = none) {r : Response} {rest : List Response}
    (h : p.filled = r :: rest) :
    p.choose now = { p with
      line := some (.response r), filled := rest, responseCredit := p.responseCredit - 1, lastSent := some now } := by
  simp [Port.choose, hn, ho, ha, h, Port.hasCredit, hc, Port.sendResponse, Port.transmit]

/-- With no notice, no credit owed and nothing that a response credit would send, the arbiter sends an IDLE when it is
due. -/
theorem choose_quiet (ha : p.alertReady = none ∨ p.responseCredit = 0) (hf : p.filled = [] ∨ p.responseCredit = 0) :
    p.choose now = if p.idleDue now then { p with line := some .idle, lastSent := some now } else p := by
  have hsend : ¬ (p.alertReady.isSome ∧ p.hasCredit) := by
    rcases ha with ha | ha <;> simp [ha, Port.hasCredit]
  have hfill : ¬ (p.filled ≠ [] ∧ p.hasCredit) := by
    rcases hf with hf | hf <;> simp [hf, Port.hasCredit]
  unfold Port.choose
  rw [hn]
  dsimp only
  rw [if_neg (by omega), if_neg hsend, if_neg hfill, Port.transmit, hn]

end

end

theorem idleDue_iff (p : Port) (now : Time) : p.idleDue now = true ↔ ∃ u, p.lastSent = some u ∧ 100 ≤ (now - u).toNat := by
  unfold Port.idleDue passed
  split
  next u hu => rw [decide_eq_true_iff, hu]; simp [Config.keepalive]
  next hu => simp [hu]

/-- A port whose line has become free. -/
def Port.lineFree (p : Port) : Port := { p with line := none }

/-- Settles O12, line by line of the arbiter's table. -/
theorem arbiterFollowsItsTable : Obligations.ArbiterFollowsItsTable := fun s m hrun => by
  have sends : ∀ {q}, (s.port m).lineFree.arbitrate s.timebase = q →
      exec (.transmitArbiter m) s = .next (s.setPort m q) := fun e =>
    happens_eq hrun (congrArg (s.setPort m) e)
  refine ⟨fun hl h => sends ?_, fun hl h => ⟨fun hg => sends (arbitrate_grant hl h hg), fun hg n hn => sends ?_,
    fun hg hn => ?_⟩, fun hl h => sends (arbitrate_notUp h hl), fun hl h => sends ?_⟩
  · exact (arbitrate_hello (p := (s.port m).lineFree) h).trans (by rw [if_pos (by exact hl)]; rfl)
  · exact (arbitrate_choose (p := (s.port m).lineFree) hl h hg).trans (choose_notice (p := (s.port m).lineFree) hn)
  · have hchoose := arbitrate_choose (p := (s.port m).lineFree) (now := s.timebase) hl h hg
    have hquiet := choose_quiet (p := (s.port m).lineFree) (now := s.timebase) hn
    refine ⟨fun ho => sends (hchoose.trans (choose_credit (p := (s.port m).lineFree) hn ho)),
      fun ho hc a ha => sends (hchoose.trans (choose_alert (p := (s.port m).lineFree) hn ho hc ha)),
      fun ho hc ha r rest hf => sends (hchoose.trans (choose_response (p := (s.port m).lineFree) hn ho hc ha hf)),
      fun ho h => ⟨fun u hu hp => sends ?_, fun hp => sends ?_⟩⟩
    · exact hchoose.trans ((hquiet ho (h.elim .inr fun h => .inl h.1) (h.elim .inr fun h => .inl h.2)).trans
        (if_pos ((idleDue_iff _ _).2 ⟨u, hu, hp⟩)))
    · refine hchoose.trans ((hquiet ho (h.elim .inr fun h => .inl h.1) (h.elim .inr fun h => .inl h.2)).trans
        (if_neg fun hi => ?_))
      obtain ⟨u, hu, h100⟩ := (idleDue_iff _ _).1 hi
      exact absurd h100 (Nat.not_le.2 (hp u hu))
  · exact (arbitrate_hello (p := (s.port m).lineFree) h).trans (by rw [if_neg (by exact hl)]; rfl)

/-- Settles O11. -/
theorem linkTimersTrainAndKeepAlive : Obligations.LinkTimersTrainAndKeepAlive := fun s m hrun => by
  refine ⟨fun hl hn ha => happens_eq hrun ?_, fun hl hn ha => happens_eq hrun ?_, fun hl hr => happens_eq hrun ?_,
    fun hl hline hh hg hn ho halert hfilled ha => happens_eq hrun ?_⟩
  · have hdue : s.linkHelloDue m = true := by
      simp [State.linkHelloDue, hl, Config.maxHellos, hn, arrives_of_arrived (n := Config.helloInterval) ha]
    rw [linkHelloIntervalEvent, if_pos hdue, State.modifyPort, sendTrainingHello_eq]
  · have hdue : s.linkFailureDue m = true := by
      simp [State.linkFailureDue, hl, Config.maxHellos, hn, arrives_of_arrived (n := Config.helloInterval) ha]
    exact if_pos hdue
  · have hdue : s.linkRetryDue m = true := by
      simp [State.linkRetryDue, hl, hr, State.due]
    rw [linkRetryEvent, if_pos hdue, State.modifyPort, Port.enterTraining_eq, startedTraining_eq]
  · have hdue : s.linkKeepaliveDue m = true := by
      simp [State.linkKeepaliveDue, hl, hline, arrives_of_arrived (n := Config.keepalive) ha]
    have hidle : (s.port m).idleDue s.timebase = true := by
      obtain ⟨u, hu, h⟩ := ha
      simp [Port.idleDue, passed, hu, ← h, Config.keepalive]
    rw [linkKeepaliveEvent, if_pos hdue, State.lookAgain, State.modifyPort, if_pos hline, arbitrate_choose hl hh hg,
      choose_quiet hn ho halert hfilled, if_pos hidle]

end Sys2Proof.Machine
end

section
/-! SUPPORT. A run of symbols at a receiver, and a frame given otherwise than by its own command (R90, R185 to R187): each
comes down to the command that the frame is. -/

namespace Sys2Proof.Machine

/-! ## Frames at a port, by their command -/

/-- On the part as it runs what a frame is does what the frame does. -/
theorem exec_upCommand {s : State} (hrun : s.phase = .running) (m : Master) (frame : List Byte) :
    exec (upCommand m frame) s = .next (upMalformedFrameEvent m frame s) := by
  cases h : readUpFrame frame with
  | hello value => simp only [upCommand, upMalformedFrameEvent, h]; exact happens_running _ s hrun
  | idle => simp only [upCommand, upMalformedFrameEvent, h]; exact happens_running _ s hrun
  | credit count => simp only [upCommand, upMalformedFrameEvent, h]; exact happens_running _ s hrun
  | request r => simp only [upCommand, upMalformedFrameEvent, h]; exact happens_running _ s hrun
  | malformed =>
    simp only [upCommand, h]
    exact happens_running (upMalformedFrameEvent m frame) s hrun

/-- The bytes of a frame by what a port reads it as (section 11.2). -/
def upReadBytes (frame : List Byte) : UpFrameRead → Nat
  | .hello _ | .credit _ => 2
  | .idle => 1
  | .request r => 4 + r.rest.length
  | .malformed => frame.length

theorem upReadBytes_readUpFrame (frame : List Byte) : upReadBytes frame (readUpFrame frame) = frame.length := by
  unfold readUpFrame
  split
  · rfl
  · split
    · rfl
    · rfl
    · rfl
    · split
      · simp only [upReadBytes, List.length_cons]; omega
      · rfl
    · rfl

/-- A frame given by its bytes is taken as a frame of as many. -/
theorem upMalformedFrameEvent_eq (m : Master) (frame : List Byte) :
    ∃ take : State → State, ∀ s : State, upMalformedFrameEvent m frame s = s.upFrame m frame.length take := by
  have hlen := upReadBytes_readUpFrame frame
  unfold upMalformedFrameEvent
  cases hread : readUpFrame frame <;> rw [hread] at hlen <;> rw [← hlen]
  case hello value => exact ⟨State.masterHello m value, fun _ => rfl⟩
  case idle => exact ⟨State.upIdle m, fun _ => rfl⟩
  case credit count => exact ⟨State.takeCredit m count, fun _ => rfl⟩
  case request r => exact ⟨State.takeRequestFrame m r, fun _ => rfl⟩
  case malformed => exact ⟨State.upMalformed m, fun _ => rfl⟩

/-- Every frame given by its content is what `take` does with a frame of its bytes. -/
theorem exec_upFrame {i : Instr} {m : Master} {n : Nat} (h : i.upFrameBytes m = some n) :
    ∃ take : State → State, ∀ s : State, s.phase = .running → exec i s = .next (s.upFrame m n take) := by
  unfold Instr.upFrameBytes at h
  split at h
  next w value =>
    obtain ⟨rfl, hn⟩ := Option.ite_none_right_eq_some.1 h
    cases hn
    exact ⟨_, fun s hrun => happens_running (masterHelloEvent w value) s hrun⟩
  next w count =>
    obtain ⟨rfl, hn⟩ := Option.ite_none_right_eq_some.1 h
    cases hn
    exact ⟨_, fun s hrun => happens_running (creditEvent w count) s hrun⟩
  next w =>
    obtain ⟨rfl, hn⟩ := Option.ite_none_right_eq_some.1 h
    cases hn
    exact ⟨_, fun s hrun => happens_running (upIdleEvent w) s hrun⟩
  next w r =>
    obtain ⟨rfl, hn⟩ := Option.ite_none_right_eq_some.1 h
    cases hn
    exact ⟨_, fun s hrun => happens_running (requestEvent w r) s hrun⟩
  next w frame =>
    obtain ⟨rfl, hn⟩ := Option.ite_none_right_eq_some.1 h
    cases hn
    obtain ⟨take, htake⟩ := upMalformedFrameEvent_eq w frame
    exact ⟨take, fun s hrun => (happens_running (upMalformedFrameEvent w frame) s hrun).trans (congrArg _ (htake s))⟩
  next => cases h

/-- A frame at a port that is collecting another ends that one first. -/
theorem exec_upFrame_inFrame {s : State} (hrun : s.phase = .running) {i : Instr} {m : Master} {n : Nat}
    (h : i.upFrameBytes m = some n) {bytes : List Byte} (hr : (s.port m).receiver = .inFrame bytes) :
    exec i s = exec i ((s.setPort m { s.port m with receiver := .hunting }).occur .upCrc (.ofMaster m)) := by
  obtain ⟨take, htake⟩ := exec_upFrame h
  rw [← upStart_inFrame hr, htake s hrun, htake _ ((upStart_phase s m).trans hrun), upFrame_upStart]

theorem exec_upFrame_misfits {s : State} (hrun : s.phase = .running) {i : Instr} {m : Master} {n : Nat}
    (h : i.upFrameBytes m = some n) (hr : (s.port m).receiver = .hunting) (hn : n = 0 ∨ 1021 < n) :
    exec i s = .next (s.occur .upCrc (.ofMaster m)) := by
  obtain ⟨take, htake⟩ := exec_upFrame h
  rw [htake s hrun, upFrame_misfits hr hn]

/-! ## Symbols at a port -/

/-- What a port does when a frame has ended, if one has. -/
def State.upEnded (m : Master) (s : State) : Option FrameEnd → State
  | none => s
  | some .badCrc => s.occur .upCrc (.ofMaster m)
  | some (.handedOn frame) => upMalformedFrameEvent m frame s

theorem upSymbol_eq {s : State} {m : Master} {x : Symbol} {after : Receiver} {ends : Option FrameEnd}
    (h : receiveSymbol (s.port m).receiver x = (after, ends)) :
    s.upSymbol m x = (s.setPort m { s.port m with receiver := after }).upEnded m ends := by
  unfold State.upSymbol
  rw [h]
  cases ends with
  | none => rfl
  | some e => cases e <;> rfl

theorem upSymbol_phase {s : State} (m : Master) (x : Symbol) : (s.upSymbol m x).phase = s.phase :=
  congrArg Fixed.phase (upSymbol_fixed s m x)

theorem setPort_self (s : State) (m : Master) : s.setPort m (s.port m) = s := by cases m <;> rfl

/-- A run of symbols that ends no frame changes the receiver alone. -/
theorem upBadCrcEvent_noEnd {m : Master} {xs : List Symbol} {s : State} {after : Receiver}
    (h : receiveSymbols (s.port m).receiver xs = (after, [])) :
    upBadCrcEvent m xs s = s.setPort m { s.port m with receiver := after } := by
  induction xs generalizing s with
  | nil =>
    cases h
    exact (setPort_self s m).symm
  | cons x xs ih =>
    obtain ⟨r, ends, hx⟩ : ∃ r ends, receiveSymbol (s.port m).receiver x = (r, ends) := ⟨_, _, rfl⟩
    simp only [receiveSymbols, hx, Prod.mk.injEq, List.append_eq_nil_iff] at h
    obtain ⟨hafter, hnone, hrest⟩ := h
    have hends : ends = none := by cases ends <;> simp_all
    subst hends
    have hs : s.upSymbol m x = s.setPort m { s.port m with receiver := r } := upSymbol_eq hx
    rw [upBadCrcEvent_cons, hs, ih]
    · simp
    · simp [Prod.ext_iff, hafter, hrest]

/-! ## Frames at a lane, by their command -/

theorem exec_laneCommand {s : State} (hrun : s.phase = .running) (l : LaneId) (frame : List Byte) :
    exec (laneCommand l frame) s = .next (laneMalformedFrameEvent l frame s) := by
  cases h : readLaneFrame frame with
  | hello stations =>
    simp only [laneCommand, laneMalformedFrameEvent, h]; exact happensAtLane_running (deviceHelloEvent l stations) s hrun
  | idle => simp only [laneCommand, laneMalformedFrameEvent, h]; exact happens_running _ s hrun
  | legBack f =>
    simp only [laneCommand, laneMalformedFrameEvent, h]; exact happensAtLane_running (legBackEvent l f) s hrun
  | malformed =>
    simp only [laneCommand, h]
    exact happens_running (laneMalformedFrameEvent l frame) s hrun

/-- The bytes of a frame by what a lane reads it as (section 11.3). -/
def laneReadBytes (frame : List Byte) : LaneFrameRead → Nat
  | .hello _ => 2
  | .idle => 1
  | .legBack f => 5 + f.rest.length
  | .malformed => frame.length

theorem laneReadBytes_readLaneFrame (frame : List Byte) : laneReadBytes frame (readLaneFrame frame) = frame.length := by
  unfold readLaneFrame
  split
  · rfl
  · split
    · rfl
    · rfl
    · dsimp only
      split
      · simp only [laneReadBytes, List.length_cons]; omega
      · rfl
    · rfl

/-- A frame given by its bytes is taken as a frame of as many. -/
theorem laneMalformedFrameEvent_eq (l : LaneId) (frame : List Byte) :
    ∃ take : State → State, ∀ s : State, laneMalformedFrameEvent l frame s = s.laneFrame l frame.length take := by
  have hlen := laneReadBytes_readLaneFrame frame
  unfold laneMalformedFrameEvent
  cases hread : readLaneFrame frame <;> rw [hread] at hlen <;> rw [← hlen]
  case hello stations => exact ⟨State.deviceHello l stations, fun _ => rfl⟩
  case idle => exact ⟨State.laneIdle l, fun _ => rfl⟩
  case legBack f => exact ⟨State.judgeLegBack l f, fun _ => rfl⟩
  case malformed => exact ⟨State.laneMalformed l, fun _ => rfl⟩

/-- A frame of the lane may come on the part as it runs; a LEG-BACK or a HELLO may also fall between the parts of a fabric
reset (R80). -/
def MayCome (s : State) (l : LaneId) (i : Instr) : Prop :=
  s.phase = .running ∨ ((∃ before, s.phase = .resetting before) ∧
    ((∃ f, i = .legBack l f) ∨ ∃ stations, i = .deviceHello l stations))

theorem mayCome_congr {s t : State} (h : t.phase = s.phase) {l : LaneId} {i : Instr} (hs : MayCome s l i) :
    MayCome t l i := by unfold MayCome; rw [h]; exact hs

theorem happensAtLane_eq {f : State → State} {s : State} (h : s.phase = .running ∨ ∃ before, s.phase = .resetting before) :
    happensAtLane f s = .next (f s) := by
  rcases h with h | ⟨before, h⟩
  · exact happensAtLane_running f s h
  · exact happensAtLane_resetting f s before h

/-- Every frame given by its content is what `take` does with a frame of its bytes. -/
theorem exec_laneFrame {i : Instr} {l : LaneId} {n : Nat} (h : i.laneFrameBytes l = some n) :
    ∃ take : State → State, ∀ s : State, MayCome s l i → exec i s = .next (s.laneFrame l n take) := by
  unfold Instr.laneFrameBytes at h
  split at h
  next j stations =>
    obtain ⟨rfl, hn⟩ := Option.ite_none_right_eq_some.1 h
    cases hn
    exact ⟨_, fun s hs => happensAtLane_eq (f := deviceHelloEvent j stations) (hs.imp id And.left)⟩
  next j =>
    obtain ⟨rfl, hn⟩ := Option.ite_none_right_eq_some.1 h
    cases hn
    exact ⟨_, fun s hs => happens_running (laneIdleEvent j) s (hs.resolve_right (by simp))⟩
  next j f =>
    obtain ⟨rfl, hn⟩ := Option.ite_none_right_eq_some.1 h
    cases hn
    exact ⟨_, fun s hs => happensAtLane_eq (f := legBackEvent j f) (hs.imp id And.left)⟩
  next j frame =>
    obtain ⟨rfl, hn⟩ := Option.ite_none_right_eq_some.1 h
    cases hn
    obtain ⟨take, htake⟩ := laneMalformedFrameEvent_eq j frame
    exact ⟨take, fun s hs =>
      (happens_running (laneMalformedFrameEvent j frame) s (hs.resolve_right (by simp))).trans (congrArg _ (htake s))⟩
  next => cases h

theorem listens_iff (x : Lane) : x.listens = true ↔ x.state ≠ .disabled := by
  unfold Lane.listens; exact bne_iff_ne

/-- A frame at a lane that is collecting another ends that one first. -/
theorem exec_laneFrame_inFrame {s : State} {l : LaneId} {i : Instr} (hs : MayCome s l i) {n : Nat}
    (h : i.laneFrameBytes l = some n) (hd : (s.lane l).state ≠ .disabled) {bytes : List Byte}
    (hr : (s.lane l).receiver = .inFrame bytes) :
    exec i s = exec i ((s.setLane l { s.lane l with receiver := .hunting }).occur .laneCrc (.ofLane l)) := by
  obtain ⟨take, htake⟩ := exec_laneFrame h
  rw [← laneStart_inFrame hr, htake s hs, htake _ (mayCome_congr (laneStart_phase s l) hs),
    laneFrame_laneStart ((listens_iff _).2 hd)]

section
variable {s : State} {l : LaneId} (hd : (s.lane l).state ≠ .disabled) (hr : (s.lane l).receiver = .hunting)
include hd hr

theorem laneFrame_fits {n : Nat} (h1 : 1 ≤ n) (h2 : n ≤ 1021) (take : State → State) : s.laneFrame l n take = take s := by
  rw [laneFrame_hunting ((listens_iff _).2 hd) hr, if_pos ((frameFits_iff n).2 ⟨h1, h2⟩)]

theorem laneFrame_misfits {n : Nat} (h : n = 0 ∨ 1021 < n) (take : State → State) :
    s.laneFrame l n take = s.occur .laneCrc (.ofLane l) := by
  rw [laneFrame_hunting ((listens_iff _).2 hd) hr, if_neg]
  rw [frameFits_iff]; omega

end

/-! ## Symbols at a lane -/

/-- What a lane does when a frame has ended, if one has. -/
def State.laneEnded (l : LaneId) (s : State) : Option FrameEnd → State
  | none => s
  | some .badCrc => s.occur .laneCrc (.ofLane l)
  | some (.handedOn frame) => laneMalformedFrameEvent l frame s

theorem laneSymbol_eq {s : State} {l : LaneId} (hd : (s.lane l).state ≠ .disabled) {x : Symbol} {after : Receiver}
    {ends : Option FrameEnd} (h : receiveSymbol (s.lane l).receiver x = (after, ends)) :
    s.laneSymbol l x = (s.setLane l { s.lane l with receiver := after }).laneEnded l ends := by
  unfold State.laneSymbol
  rw [if_pos ((listens_iff _).2 hd), h]
  cases ends with
  | none => rfl
  | some e => cases e <;> rfl

theorem laneSymbol_phase {s : State} (l : LaneId) (x : Symbol) : (s.laneSymbol l x).phase = s.phase :=
  congrArg Fixed.phase (laneSymbol_laneKeeps l s x).fixed

theorem setLane_self (s : State) (l : LaneId) : s.setLane l (s.lane l) = s := by simp [State.setLane, State.lane]

/-- A run of symbols that ends no frame changes the receiver alone. -/
theorem laneBadCrcEvent_noEnd {l : LaneId} {xs : List Symbol} {s : State} (hd : (s.lane l).state ≠ .disabled)
    {after : Receiver} (h : receiveSymbols (s.lane l).receiver xs = (after, [])) :
    laneBadCrcEvent l xs s = s.setLane l { s.lane l with receiver := after } := by
  induction xs generalizing s with
  | nil =>
    cases h
    exact (setLane_self s l).symm
  | cons x xs ih =>
    obtain ⟨r, ends, hx⟩ : ∃ r ends, receiveSymbol (s.lane l).receiver x = (r, ends) := ⟨_, _, rfl⟩
    simp only [receiveSymbols, hx, Prod.mk.injEq, List.append_eq_nil_iff] at h
    obtain ⟨hafter, hnone, hrest⟩ := h
    have hends : ends = none := by cases ends <;> simp_all
    subst hends
    have hs : s.laneSymbol l x = s.setLane l { s.lane l with receiver := r } := laneSymbol_eq hd hx
    rw [laneBadCrcEvent_cons, hs, ih]
    · simp
    · simpa using hd
    · simp [Prod.ext_iff, hafter, hrest]

/-! ## O10 -/

theorem upBadCrc_row (s : State) (hrun : s.phase = .running) (m : Master) :
    exec (.upBadCrcFrame m []) s = .next s ∧
      (∀ (x : Symbol) (xs : List Symbol), ∃ t, exec (.upBadCrcFrame m [x]) s = .next t ∧
        exec (.upBadCrcFrame m (x :: xs)) s = exec (.upBadCrcFrame m xs) t) ∧
      ∀ (x : Symbol) (after : Receiver) (ends : Option FrameEnd),
        receiveSymbol (s.port m).receiver x = (after, ends) →
        exec (.upBadCrcFrame m [x]) s = .next ((s.setPort m { s.port m with receiver := after }).upEnded m ends) := by
  have row : ∀ {u : State} xs, u.phase = .running → exec (.upBadCrcFrame m xs) u = .next (upBadCrcEvent m xs u) :=
    fun xs hu => happens_running (upBadCrcEvent m xs) _ hu
  refine ⟨row [] hrun, fun x xs => ⟨s.upSymbol m x, row [x] hrun, ?_⟩, fun x after ends h => ?_⟩
  · rw [row (x :: xs) hrun, row xs ((upSymbol_phase m x).trans hrun), upBadCrcEvent_cons]
  · rw [row [x] hrun]
    exact congrArg _ (upSymbol_eq h)

theorem laneBadCrc_row (s : State) (hrun : s.phase = .running) {l : LaneId} (hd : (s.lane l).state ≠ .disabled) :
    exec (.laneBadCrcFrame l []) s = .next s ∧
      (∀ (x : Symbol) (xs : List Symbol), ∃ t, exec (.laneBadCrcFrame l [x]) s = .next t ∧
        exec (.laneBadCrcFrame l (x :: xs)) s = exec (.laneBadCrcFrame l xs) t) ∧
      ∀ (x : Symbol) (after : Receiver) (ends : Option FrameEnd),
        receiveSymbol (s.lane l).receiver x = (after, ends) →
        exec (.laneBadCrcFrame l [x]) s = .next ((s.setLane l { s.lane l with receiver := after }).laneEnded l ends) := by
  have row : ∀ {u : State} xs, u.phase = .running → exec (.laneBadCrcFrame l xs) u = .next (laneBadCrcEvent l xs u) :=
    fun xs hu => happens_running (laneBadCrcEvent l xs) _ hu
  refine ⟨row [] hrun, fun x xs => ⟨s.laneSymbol l x, row [x] hrun, ?_⟩, fun x after ends h => ?_⟩
  · rw [row (x :: xs) hrun, row xs ((laneSymbol_phase l x).trans hrun), laneBadCrcEvent_cons]
  · rw [row [x] hrun]
    exact congrArg _ (laneSymbol_eq hd h)

theorem lane_heard (now : Time) (x : Lane) :
    x.heard now = { x with lastReceived := if x.contact = true then some now else x.lastReceived } := by
  unfold Lane.heard
  split <;> rfl

/-- Settles O10. -/
theorem idleAndBadFrames : Obligations.IdleAndBadFrames := by
  refine ⟨fun s hrun m => ⟨?_, fun frame => ?_, fun i n bytes h hr => exec_upFrame_inFrame hrun h hr, fun hr =>
      ⟨fun hl => happens_eq hrun ?_, fun hl => happens_eq hrun ?_, fun frame hbad h1 h2 => happens_eq hrun ?_,
        fun i n h hn => exec_upFrame_misfits hrun h hr hn⟩⟩,
    fun s hrun l => ⟨fun hd => ?_, fun hd => ⟨?_, fun frame => ?_, fun hr =>
      ⟨happens_eq hrun ?_, fun frame hbad h1 h2 => happens_eq hrun ?_⟩⟩⟩,
    fun s l i n h hd hs => ⟨fun bytes hr => exec_laneFrame_inFrame hs h hd hr, fun hr hn => ?_⟩⟩
  · obtain ⟨hnil, hcons, hone⟩ := upBadCrc_row s hrun m
    refine ⟨hnil, hcons, fun x after ends h => ?_⟩
    rw [hone x after ends h]
    match ends with
    | none => rfl
    | some .badCrc => rfl
    | some (.handedOn frame) => exact (exec_upCommand (by simpa using hrun) m frame).symm
  · exact (happens_running (upMalformedFrameEvent m frame) s hrun).trans (exec_upCommand hrun m frame).symm
  · refine (upFrame_fits hr (by omega) (by omega) _).trans ?_
    simp [State.upIdle, hl, State.modifyPort, Port.heard]
  · refine (upFrame_fits hr (by omega) (by omega) _).trans ?_
    unfold State.upIdle
    split
    · contradiction
    · rfl
  · unfold upMalformedFrameEvent
    rw [hbad]
    exact upFrame_fits hr h1 h2 _
  · have hdeaf : (s.lane l).listens = false := by rw [Lane.listens, hd]; rfl
    refine ⟨happens_eq hrun (laneFrame_deaf hdeaf _ _), fun xs => happens_eq hrun (laneBadCrcEvent_deaf hdeaf xs),
      fun frame => happens_eq hrun ?_⟩
    obtain ⟨take, htake⟩ := laneMalformedFrameEvent_eq l frame
    rw [htake, laneFrame_deaf hdeaf]
  · obtain ⟨hnil, hcons, hone⟩ := laneBadCrc_row s hrun hd
    refine ⟨hnil, hcons, fun y after ends h => ?_⟩
    rw [hone y after ends h]
    match ends with
    | none => rfl
    | some .badCrc => rfl
    | some (.handedOn frame) => exact (exec_laneCommand (by simpa using hrun) l frame).symm
  · exact (happens_running (laneMalformedFrameEvent l frame) s hrun).trans (exec_laneCommand hrun l frame).symm
  · refine (laneFrame_fits hd hr (by omega) (by omega) _).trans ?_
    rw [← lane_heard]; rfl
  · unfold laneMalformedFrameEvent
    rw [hbad]
    exact laneFrame_fits hd hr h1 h2 _
  · obtain ⟨take, htake⟩ := exec_laneFrame h
    rw [htake s hs, laneFrame_misfits hd hr hn]

/-! ## A frame on the line (section 11.1) -/

theorem receiveSymbols_append (xs ys : List Symbol) (r : Receiver) :
    receiveSymbols r (xs ++ ys) =
      ((receiveSymbols (receiveSymbols r xs).1 ys).1, (receiveSymbols r xs).2 ++ (receiveSymbols (receiveSymbols r xs).1 ys).2) := by
  induction xs generalizing r with
  | nil => rfl
  | cons x xs ih => simp [receiveSymbols, ih]

/-- Data in the frame that is collected, as long as it does not reach 1,024 bytes. -/
theorem receiveSymbols_data (bytes ds : List Byte) (h : bytes.length + ds.length < 1024) :
    receiveSymbols (.inFrame bytes) (ds.map .data) = (.inFrame (bytes ++ ds), []) := by
  induction ds generalizing bytes with
  | nil => simp [receiveSymbols]
  | cons d ds ih =>
    rw [List.length_cons] at h
    have hroom : bytes.length + 1 < Config.maxCollection := by change _ < 1024; omega
    simp [receiveSymbols, receiveSymbol, hroom, ih (bytes ++ [d]) (by simp; omega)]

theorem receiveSymbols_hunting (xs : List Symbol) (h : .sof ∉ xs) : receiveSymbols .hunting xs = (.hunting, []) := by
  induction xs with
  | nil => rfl
  | cons x xs ih =>
    rw [List.mem_cons, not_or] at h
    cases x <;> simp_all [receiveSymbols, receiveSymbol]

/-- What a receiver makes of a frame on the line: one of 1 to 1,021 bytes is handed on (R186). -/
def lineEnd (frame : List Byte) : FrameEnd := if 1 ≤ frame.length ∧ frame.length ≤ 1021 then .handedOn frame else .badCrc

theorem lineEnd_fits {frame : List Byte} (h1 : 1 ≤ frame.length) (h2 : frame.length ≤ 1021) :
    lineEnd frame = .handedOn frame := if_pos ⟨h1, h2⟩

theorem lineEnd_misfits {frame : List Byte} (h : frame.length = 0 ∨ 1021 < frame.length) : lineEnd frame = .badCrc :=
  if_neg (by omega)

theorem checkFrame_crc (frame : List Byte) :
    checkFrame (frame ++ crcBytes frame) = if 1 ≤ frame.length then .handedOn frame else .badCrc := by
  have hcrc : (crcBytes frame).length = 2 := rfl
  have hlen : (frame ++ crcBytes frame).length - 2 = frame.length := by rw [List.length_append, hcrc]; omega
  unfold checkFrame
  rw [hlen, List.take_left, List.drop_left, List.length_append, hcrc]
  by_cases h : 1 ≤ frame.length
  · simp [h, show ¬ frame.length + 2 < 3 by omega]
  · simp [h, show frame.length + 2 < 3 by omega]

/-- After its SOF a frame on the line ends at one symbol, the last but where it is too long. -/
theorem lineSymbols_split (frame : List Byte) : ∃ pre y post b,
    lineSymbols frame = .sof :: (pre ++ y :: post) ∧ receiveSymbols (.inFrame []) pre = (.inFrame b, []) ∧
      receiveSymbol (.inFrame b) y = (.hunting, some (lineEnd frame)) ∧ .sof ∉ post ∧
      (post = [] ∨ lineEnd frame = .badCrc) := by
  have hcrc : (crcBytes frame).length = 2 := rfl
  by_cases hlong : 1021 < frame.length
  · have hlen : 1023 < (frame ++ crcBytes frame).length := by rw [List.length_append, hcrc]; omega
    have hend : lineEnd frame = .badCrc := if_neg (by omega)
    generalize hds : frame ++ crcBytes frame = ds at hlen
    refine ⟨(ds.take 1023).map .data, .data ds[1023], (ds.drop 1024).map .data ++ [.eof], ds.take 1023, ?_, ?_, ?_, ?_,
      .inr hend⟩
    · have e : ds = ds.take 1023 ++ ds[1023] :: ds.drop 1024 := by
        rw [List.getElem_cons_drop, List.take_append_drop]
      have hmap := congrArg (fun l => List.map Symbol.data l) e
      simp only [List.map_append, List.map_cons] at hmap
      rw [lineSymbols, hds, hmap]
      simp
    · exact receiveSymbols_data [] _ (by simp)
    · rw [hend]
      have hfull : ¬ (ds.take 1023).length + 1 < Config.maxCollection := by
        rw [List.length_take]; change ¬ _ < 1024; omega
      simp only [receiveSymbol, if_neg hfull]
    · rw [List.mem_append, List.mem_map]; simp
  · refine ⟨(frame ++ crcBytes frame).map .data, .eof, [], frame ++ crcBytes frame, rfl,
      receiveSymbols_data [] _ ?_, ?_, List.not_mem_nil, .inl rfl⟩
    · rw [List.length_append, hcrc, List.length_nil]; omega
    · simp only [receiveSymbol, checkFrame_crc, lineEnd]
      congr 2
      simp [Nat.le_of_not_lt hlong]

/-- A frame on the line at a receiver: what was collected before it is found bad. -/
theorem receiveSymbols_line (r : Receiver) (frame : List Byte) :
    receiveSymbols r (lineSymbols frame ++ [.fill]) =
      (.hunting, (if r = .hunting then [] else [.badCrc]) ++ [lineEnd frame]) := by
  obtain ⟨pre, y, post, b, hline, hpre, hy, hpost, -⟩ := lineSymbols_split frame
  have htail : receiveSymbols .hunting (post ++ [.fill]) = (.hunting, []) :=
    receiveSymbols_hunting _ (by simpa using hpost)
  have hbody : receiveSymbols (.inFrame []) (pre ++ y :: (post ++ [.fill])) = (.hunting, [lineEnd frame]) := by
    rw [receiveSymbols_append, hpre]
    simp [receiveSymbols, hy, htail]
  have hsplit : lineSymbols frame ++ [.fill] = .sof :: (pre ++ y :: (post ++ [.fill])) := by rw [hline]; simp
  rw [hsplit]
  cases r <;> simp [receiveSymbols, receiveSymbol, hbody]

theorem upBadCrcEvent_line {s : State} {m : Master} (hr : (s.port m).receiver = .hunting) (frame : List Byte) :
    upBadCrcEvent m (lineSymbols frame) s = s.upEnded m (some (lineEnd frame)) := by
  obtain ⟨pre, y, post, b, hline, hpre, hy, hpost, hlast⟩ := lineSymbols_split frame
  have hstart : receiveSymbols (s.port m).receiver (.sof :: pre) = (.inFrame b, []) := by
    simp [hr, receiveSymbols, receiveSymbol, hpre]
  have hend : (s.setPort m { s.port m with receiver := .inFrame b }).upSymbol m y = s.upEnded m (some (lineEnd frame)) := by
    rw [upSymbol_eq (ends := some (lineEnd frame)) (after := .hunting) (by simpa using hy)]
    have e : ({ s.port m with receiver := .hunting } : Port) = s.port m := by rw [← hr]
    simp [e, setPort_self]
  have hfold : upBadCrcEvent m (lineSymbols frame) s =
      upBadCrcEvent m post ((upBadCrcEvent m (.sof :: pre) s).upSymbol m y) := by
    rw [hline]
    exact List.foldl_append (l := .sof :: pre) (l' := y :: post)
  rw [hfold, upBadCrcEvent_noEnd hstart, hend]
  rcases hlast with hnil | hbad
  · rw [hnil]; rfl
  · have hrecv : ((s.upEnded m (some (lineEnd frame))).port m).receiver = .hunting := by
      rw [hbad]; exact (occur_portReceiver ..).trans hr
    rw [upBadCrcEvent_noEnd (after := .hunting) (by rw [hrecv]; exact receiveSymbols_hunting post hpost)]
    have e : ({ (s.upEnded m (some (lineEnd frame))).port m with receiver := .hunting } : Port) =
        (s.upEnded m (some (lineEnd frame))).port m := by rw [← hrecv]
    rw [e, setPort_self]

theorem laneBadCrcEvent_line {s : State} {l : LaneId} (hd : (s.lane l).state ≠ .disabled)
    (hr : (s.lane l).receiver = .hunting) (frame : List Byte) :
    laneBadCrcEvent l (lineSymbols frame) s = s.laneEnded l (some (lineEnd frame)) := by
  obtain ⟨pre, y, post, b, hline, hpre, hy, hpost, hlast⟩ := lineSymbols_split frame
  have hstart : receiveSymbols (s.lane l).receiver (.sof :: pre) = (.inFrame b, []) := by
    simp [hr, receiveSymbols, receiveSymbol, hpre]
  have hend : (s.setLane l { s.lane l with receiver := .inFrame b }).laneSymbol l y =
      s.laneEnded l (some (lineEnd frame)) := by
    rw [laneSymbol_eq (ends := some (lineEnd frame)) (after := .hunting) (by simpa using hd) (by simpa using hy)]
    have e : ({ s.lane l with receiver := .hunting } : Lane) = s.lane l := by rw [← hr]
    simp [e, setLane_self]
  have hfold : laneBadCrcEvent l (lineSymbols frame) s =
      laneBadCrcEvent l post ((laneBadCrcEvent l (.sof :: pre) s).laneSymbol l y) := by
    rw [hline]
    exact List.foldl_append (l := .sof :: pre) (l' := y :: post)
  rw [hfold, laneBadCrcEvent_noEnd hd hstart, hend]
  rcases hlast with hnil | hbad
  · rw [hnil]; rfl
  · have hrecv : ((s.laneEnded l (some (lineEnd frame))).lane l).receiver = .hunting := by
      rw [hbad]; exact (occur_laneReceiver ..).trans hr
    have hstate : ((s.laneEnded l (some (lineEnd frame))).lane l).state ≠ .disabled := by
      rw [← listens_iff, hbad]
      exact (occur_listens ..).trans ((listens_iff _).2 hd)
    rw [laneBadCrcEvent_noEnd hstate (after := .hunting) (by rw [hrecv]; exact receiveSymbols_hunting post hpost)]
    have e : ({ (s.laneEnded l (some (lineEnd frame))).lane l with receiver := .hunting } : Lane) =
        (s.laneEnded l (some (lineEnd frame))).lane l := by rw [← hrecv]
    rw [e, setLane_self]

/-- Settles O53: the frame on the line ends once, and what it ends as is what its command does. -/
theorem lineCarriesFrames : Obligations.LineCarriesFrames := by
  refine ⟨fun s frame hrun => ⟨fun m hr => ?_, fun l hr => ?_⟩, fun r frame => ⟨fun h1 h2 => ?_, fun h => ?_⟩⟩
  · rw [exec_upCommand hrun]
    refine happens_eq hrun ((upBadCrcEvent_line hr frame).trans ?_)
    unfold lineEnd
    split
    · rfl
    next hlen =>
      obtain ⟨take, htake⟩ := upMalformedFrameEvent_eq m frame
      rw [htake, upFrame_misfits hr (by omega)]; rfl
  · rw [exec_laneCommand hrun]
    refine happens_eq hrun ?_
    obtain ⟨take, htake⟩ := laneMalformedFrameEvent_eq l frame
    by_cases hd : (s.lane l).state = .disabled
    · have hdeaf : (s.lane l).listens = false := by rw [Lane.listens, hd]; rfl
      rw [laneBadCrcEvent_deaf hdeaf, htake, laneFrame_deaf hdeaf]
    · refine (laneBadCrcEvent_line hd hr frame).trans ?_
      unfold lineEnd
      split
      · rfl
      next hlen => rw [htake, laneFrame_misfits hd hr (by omega)]; rfl
  · rw [receiveSymbols_line, lineEnd_fits h1 h2]
  · rw [receiveSymbols_line, lineEnd_misfits h]

end Sys2Proof.Machine
end

section
/-! SUPPORT. The REQUESTs of section 11.3 and what they are read as (R42). -/

namespace Sys2Proof.Machine

theorem countBits_byteOf (combine : Nat) {count : Nat} (h : count < 16) : countBits (byteOf (16 * combine + count)) = count := by
  unfold countBits byteOf
  rw [BitVec.extractLsb'_toNat, BitVec.toNat_ofNat]
  simp only [Nat.shiftRight_zero]
  omega

theorem combineBits_byteOf {combine count : Nat} (hc : combine < 8) (h : count < 16) :
    ((byteOf (16 * combine + count)).extractLsb' 4 3).toNat = combine := by
  unfold byteOf
  rw [BitVec.extractLsb'_toNat, BitVec.toNat_ofNat, Nat.shiftRight_eq_div_pow]
  omega

theorem addressBits_bytes (addr : Addr) :
    addressBits ((0#4 ++ addr).extractLsb' 16 8) ((0#4 ++ addr).extractLsb' 8 8) ((0#4 ++ addr).extractLsb' 0 8) = addr := by
  unfold addressBits
  rw [triple_bytes]
  exact BitVec.extractLsb'_append_eq_right

theorem byteOf_toNat {n : Nat} (h : n < 256) : (byteOf n).toNat = n := by
  unfold byteOf
  rw [BitVec.toNat_ofNat]; omega

/-- What follows byte 7 of a REQUEST. -/
def payloadBytes : Payload → List Byte
  | .none => []
  | .words ws => ws.flatMap bytes4
  | .masks setMask clearMask => bytes4 setMask ++ bytes4 clearMask

theorem requestBody_eq (combine count : Nat) (addr : Addr) (payload : Payload) :
    requestBody combine count addr payload =
      byteOf (16 * combine + count) :: (0#4 ++ addr).extractLsb' 16 8 :: (0#4 ++ addr).extractLsb' 8 8 ::
        (0#4 ++ addr).extractLsb' 0 8 :: payloadBytes payload := by
  cases payload <;> rfl

theorem readWords_masks (setMask clearMask : Word) : readWords (bytes4 setMask ++ bytes4 clearMask) = [setMask, clearMask] := by
  have e := readWords_flatMap [setMask, clearMask]
  simpa using e

theorem length_bytes4 (x : Word) : (bytes4 x).length = 4 := rfl

/-- A byte 4 that carries this combine code and this count. -/
theorem exists_byte4 {combine count : Nat} (hc : combine < 8) (h : count < 16) :
    ∃ b, byteOf (16 * combine + count) = b ∧ countBits b = count ∧ (b.extractLsb' 4 3).toNat = combine :=
  ⟨_, rfl, countBits_byteOf combine h, combineBits_byteOf hc h⟩

section
variable (tag : Byte) {dest count : Nat} (addr : Addr) {ws : List Word} (setMask clearMask : Word)

/-- Kinds 0 to 2: the requests to one target. -/
theorem readRequest_unicast (h1 : 1 ≤ count) (h8 : count ≤ 8) (hws : ws.length = count) (hd1 : 1 ≤ dest) (hd : dest ≤ 63) :
    readRequest ⟨tag, 0, byteOf dest, requestBody 0 count addr .none⟩ = some (.unicast ⟨.read, dest, addr, count, .none⟩) ∧
      readRequest ⟨tag, 1, byteOf dest, requestBody 0 count addr (.words ws)⟩ =
        some (.unicast ⟨.write, dest, addr, count, .words ws⟩) ∧
      readRequest ⟨tag, 2, byteOf dest, requestBody 0 1 addr (.masks setMask clearMask)⟩ =
        some (.unicast ⟨.modify, dest, addr, 1, .masks setMask clearMask⟩) := by
  have hdest := byteOf_toNat (n := dest) (by omega)
  obtain ⟨b, hb, hcount, -⟩ := exists_byte4 (combine := 0) (count := count) (by omega) (by omega)
  obtain ⟨b', hb', hone, -⟩ := exists_byte4 (combine := 0) (count := 1) (by omega) (by omega)
  simp only [requestBody_eq, hb, hb']
  refine ⟨?_, ?_, ?_⟩
  · simp [readRequest, payloadBytes, addressBits_bytes, hdest, hcount, hd1, hd, h1, h8]
  · simp [readRequest, payloadBytes, addressBits_bytes, hdest, hcount, hd1, hd, h1, h8, -List.length_flatMap, length_flatMap_bytes4, hws,
      readWords_flatMap]
  · simp [readRequest, payloadBytes, addressBits_bytes, hdest, hone, hd1, hd, readWords_masks, length_bytes4]

/-- Kind 3: the group reads, one for each combine. -/
theorem readRequest_gread (h1 : 1 ≤ count) (h8 : count ≤ 8) (hd : dest ≤ 15) {combine : Nat} {c : Combine}
    (hc : combine < 8) (hname : ∀ b : Byte, (b.extractLsb' 4 3).toNat = combine → combineBits b = some c) :
    readRequest ⟨tag, 3, byteOf dest, requestBody combine count addr .none⟩ =
      some (.group ⟨.gread c, dest, addr, count, .none⟩) := by
  have hdest := byteOf_toNat (n := dest) (by omega)
  obtain ⟨b, hb, hcount, hcombine⟩ := exists_byte4 (count := count) hc (by omega)
  simp [requestBody_eq, hb, readRequest, payloadBytes, addressBits_bytes, hname b hcombine, hdest, hcount, hd, h1, h8]

/-- Kinds 4 and 5: the group writes and modifies. -/
theorem readRequest_group (h1 : 1 ≤ count) (h8 : count ≤ 8) (hws : ws.length = count) (hd : dest ≤ 15) :
    readRequest ⟨tag, 4, byteOf dest, requestBody 0 count addr (.words ws)⟩ =
        some (.group ⟨.gwrite, dest, addr, count, .words ws⟩) ∧
      readRequest ⟨tag, 5, byteOf dest, requestBody 0 1 addr (.masks setMask clearMask)⟩ =
        some (.group ⟨.gmodify, dest, addr, 1, .masks setMask clearMask⟩) := by
  have hdest := byteOf_toNat (n := dest) (by omega)
  obtain ⟨b, hb, hcount, -⟩ := exists_byte4 (combine := 0) (count := count) (by omega) (by omega)
  obtain ⟨b', hb', hone, -⟩ := exists_byte4 (combine := 0) (count := 1) (by omega) (by omega)
  simp only [requestBody_eq, hb, hb']
  constructor
  · simp [readRequest, payloadBytes, addressBits_bytes, hdest, hcount, hd, h1, h8, -List.length_flatMap, length_flatMap_bytes4, hws,
      readWords_flatMap]
  · simp [readRequest, payloadBytes, addressBits_bytes, hdest, hone, hd, readWords_masks, length_bytes4]

end

/-- Settles O52. -/
theorem requestsReadBack : Obligations.RequestsReadBack := by
  refine ⟨readRequest_hubRequest, fun tag dest count addr ws setMask clearMask h1 h8 hws =>
    ⟨fun hd1 hd => readRequest_unicast tag addr setMask clearMask h1 h8 hws hd1 hd, fun hd => ?_⟩⟩
  have hread : ∀ {n : Nat} {c : Combine}, n < 8 → (∀ b : Byte, (b.extractLsb' 4 3).toNat = n → combineBits b = some c) →
      readRequest ⟨tag, 3, byteOf dest, requestBody n count addr .none⟩ =
        some (.group ⟨.gread c, dest, addr, count, .none⟩) := fun hn hb => readRequest_gread tag addr h1 h8 hd hn hb
  obtain ⟨hgwrite, hgmodify⟩ := readRequest_group tag addr setMask clearMask h1 h8 hws hd
  refine ⟨hread (by omega) fun b hb => ?_, hread (by omega) fun b hb => ?_, hread (by omega) fun b hb => ?_,
    hread (by omega) fun b hb => ?_, hgwrite, hgmodify⟩ <;> simp [combineBits, hb]

end Sys2Proof.Machine
end

section
/-! SUPPORT. The intake as the statements write it: whose turn it is (R38), the take (R39), checks 2 to 4 (R41 to R45) and
the rights check of the Management Unit (R176). -/

namespace Sys2Proof.Machine

/-! ## Whose turn it is (R38) -/

theorem takeable_iff (p : Port) : p.takeable = true ↔ p.buffer ≠ [] ∧ p.reserved + p.filled.length < 24 := by
  rw [Port.takeable, Bool.and_eq_true, decide_eq_true_iff, Bool.not_eq_true', List.isEmpty_eq_false_iff]
  rfl

theorem nextTake_eq_none {s : State} (h : ∀ m, ¬ (s.port m).takeable = true) : s.nextTake = none := by
  simp [State.nextTake, State.nextMaster, h]

/-- A master with a takeable request is served when it has the turn or the other has none. -/
theorem nextTake_eq_some {s : State} {m : Master} {r : RawRequest} {rest : List RawRequest}
    (hb : (s.port m).buffer = r :: rest) (ht : (s.port m).takeable = true)
    (hturn : s.roundRobin = m ∨ ¬ (s.port m.other).takeable = true) : s.nextTake = some (m, r) := by
  have hnext : s.nextMaster = some m := by
    unfold State.nextMaster
    rcases eq_or_eq_other m s.roundRobin with e | e
    · rw [e, if_pos ht]
    · have hother : ¬ (s.port m.other).takeable = true := hturn.resolve_left fun h => by rw [h] at e; cases m <;> cases e
      have hback : m.other.other = m := by cases m <;> rfl
      rw [e, if_neg hother, hback, if_pos ht]
  simp [State.nextTake, hnext, hb]

theorem exec_intakeTake {s : State} (hrun : s.phase = .running) {m : Master} {r : RawRequest} (h : s.nextTake = some (m, r)) :
    exec .intakeTake s = .next ((s.takenBy m).admitRequest m r) := by
  refine happens_eq hrun ?_
  rw [intakeEvent_of_nextTake s m r h, takeRequest_takenBy]

/-- Settles O13. -/
theorem intakeServesMastersInTurn : Obligations.IntakeServesMastersInTurn := fun s hrun => by
  refine ⟨fun h => happens_eq hrun ?_, fun m r rest hb ht hturn => ?_⟩
  · have hnone : s.nextTake = none := nextTake_eq_none fun m hm => h m ((takeable_iff _).1 hm)
    simp [intakeEvent, hnone]
  · have hnext : s.nextTake = some (m, r) :=
      nextTake_eq_some hb ((takeable_iff _).2 ht) (hturn.imp id (mt (takeable_iff _).1))
    refine ⟨hnext, fun hread => ?_⟩
    have hadmit : (s.takenBy m).admitRequest m r = (s.takenBy m).refuseMalformed m r.tag := by
      simp [State.admitRequest, hread]
    rw [exec_intakeTake hrun hnext, hadmit, State.refuseMalformed, fillSlot_takenBy]

/-! ## Checks 3 and 4 (R43, R45) -/

/-- A request that is dropped gives back the slot that its take reserved. -/
theorem dropTag_takenBy (s : State) (m : Master) (tag : Byte) :
    (s.takenBy m).dropTag m tag = State.occur { s.setPort m { s.port m with
        buffer := (s.port m).buffer.tail, creditsOwed := (s.port m).creditsOwed + 1 } with
      roundRobin := m.other } .dupTag { FaultFields.none with master := some m, tag := some tag } := by
  cases m <;> rfl

theorem tagInUse_takenBy (s : State) (m w : Master) (tag : Byte) : (s.takenBy m).tagInUse w tag = s.tagInUse w tag := by
  rw [← takeRequest_takenBy, tagInUse_takeRequest]

/-- Settles O14. -/
theorem tagInUseAndHubStateDecideFirst : Obligations.TagInUseAndHubStateDecideFirst := fun s m r a hnext => by
  refine ⟨fun htag => ?_, fun htag hhub => ?_⟩
  · obtain ⟨hrun, htake, hread⟩ := hnext
    have huse : (s.takenBy m).tagInUse m r.tag = true := by rw [tagInUse_takenBy, tagInUse_iff]; exact htag
    have hadmit : (s.takenBy m).admitRequest m r = (s.takenBy m).dropTag m r.tag := by
      simp [State.admitRequest, hread, huse]
    rw [exec_intakeTake hrun htake, hadmit, dropTag_takenBy]
  · have hrefuse : ∀ {status}, s.hub.refusal = some status →
        exec .intakeTake s = .next (s.answered m (s.refusal r.tag status)) := fun hstatus => by
      rw [exec_intakeTake_next hnext htag, ← refuse_takenBy]
      cases a with
      | hub op => exact absurd rfl (hhub op)
      | unicast q => simp [State.admitAsked, hstatus]
      | group q => simp [State.admitAsked, hstatus]
    exact ⟨fun h => hrefuse (by rw [h]; rfl), fun h => hrefuse (by rw [h]; rfl)⟩

/-! ## Management requests (R176, R179) -/

section
variable {s : State} {m : Master} {tag : Byte} {op : HubOp} (h : Offered s m tag op)
include h

theorem Offered.next : Next s m (hubRequest tag op) (.hub op) := ⟨h.1, h.2.1, readRequest_hubRequest tag op⟩

theorem Offered.free : ¬ s.HoldsTag m tag := by
  rw [← tagInUse_iff, h.2.2]; simp

theorem exec_intakeTake_offered : exec .intakeTake s = .next (manage m tag op (s.takenBy m)) :=
  exec_intakeTake_next h.next h.free

/-- The row of an operation that is offered is the intake event. -/
theorem happens_hubEvent : happens (hubEvent m tag op) s = exec .intakeTake s := by
  obtain ⟨hrun, hnext, -⟩ := h
  have hoffers : s.offers m tag op = true := by
    have htag : (hubRequest tag op).tag = tag := rfl
    simp [State.offers, hnext, readRequest_hubRequest, htag]
  rw [happens_running _ s hrun, hubEvent, if_pos hoffers]
  exact (happens_running intakeEvent s hrun).symm

end

theorem laneControl_row {m : Master} {tag lane action : Byte} {i : Instr} (h : rowOf m tag (.laneControl lane action) = some i) :
    exec i = happens (hubEvent m tag (.laneControl lane action)) := by
  have hcode : ∀ {n}, action.toNat = n → action = BitVec.ofNat 8 n := fun hn => by
    rw [← hn, BitVec.ofNat_toNat, BitVec.setWidth_eq]
  simp only [rowOf] at h
  split at h <;> cases h
  all_goals
    next hn => rw [hcode hn]; rfl

/-- The row of an operation is its hub event. -/
theorem exec_row {m : Master} {tag : Byte} {op : HubOp} {i : Instr} (h : rowOf m tag op = some i) :
    exec i = happens (hubEvent m tag op) := by
  cases op with
  | laneControl lane action => exact laneControl_row h
  | _ => cases h; rfl

/-- Settles O19. -/
theorem managementRowIsItsIntakeEvent : Obligations.ManagementRowIsItsIntakeEvent := fun s m tag op i h hrow => by
  rw [exec_row hrow, happens_hubEvent h]

/-- Settles O20. -/
theorem rightsCheckDecides : Obligations.RightsCheckDecides := fun s m tag op h => by
  rw [exec_intakeTake_offered h]
  refine ⟨fun hdenied => ?_, fun hallowed => ?_⟩
  · have hmay : (s.takenBy m).mayManage m op = false := by
      rw [← takeRequest_takenBy, mayManage_takeRequest, ← Bool.not_eq_true, mayManage_iff]; exact hdenied
    rw [manage_fails _ _ _ _ hmay, fillSlot_takenBy]; rfl
  · have hmay : (s.takenBy m).mayManage m op = true := by
      rw [← takeRequest_takenBy, mayManage_takeRequest, mayManage_iff]; exact hallowed
    rw [manage_passes _ _ _ _ hmay]

end Sys2Proof.Machine
end

section
/-! SUPPORT. What an occurrence that fences no lane leaves alone, and the table reads of admission and claims (R18 to R20,
R27), as the statements write them. -/

namespace Sys2Proof.Machine

/-! ## Occurrences that fence no lane -/

/-- The two states agree but for the active table, Target Status and what a fault changes: the hub state, the sources,
the records and the alerts with their ports. -/
def Reports (s t : State) : Prop :=
  t = { s with
    hub := t.hub, active := t.active, status := t.status, sources := t.sources, records := t.records,
    lostCount := t.lostCount, nextRecord := t.nextRecord, alertM0 := t.alertM0, alertM1 := t.alertM1, portM0 := t.portM0,
    portM1 := t.portM1 }

theorem Reports.refl (s : State) : Reports s s := rfl

theorem Reports.trans {s t u : State} (h : Reports s t) (k : Reports t u) : Reports s u := by
  unfold Reports at *
  rw [k, h]

theorem OnlyAlerts.reports {s t : State} (h : OnlyAlerts s t) : Reports s t := by
  unfold OnlyAlerts at h
  unfold Reports
  rw [h]

theorem setRecord_reports (s : State) (t : Target) (x : TargetRecord) : Reports s (s.setRecord t x) := rfl

theorem haltStep_reports (s : State) : Reports s s.haltStep := by
  unfold State.haltStep
  split <;> rfl

theorem latch_reports (s : State) (x : Source) : Reports s (s.latch x) := rfl

/-- Whether ISOLATE of this source with these fields fences a lane (R144). -/
def Fences (x : Source) (f : FaultFields) : Prop := x.cls = .link ∧ f.lane.isSome = true

theorem isolateStep_reports (s : State) {x : Source} {f : FaultFields} (h : ¬ Fences x f) :
    Reports s (s.isolateStep x f) := by
  unfold State.isolateStep
  split
  next hc hl => exact absurd ⟨hc, by rw [hl]; rfl⟩ h
  · exact setRecord_reports ..
  · exact .refl s

theorem act_reports (s : State) (a : Action) {x : Source} {f : FaultFields} (q : Option (BitVec 16)) (h : ¬ Fences x f) :
    Reports s (s.act a x f q) := by
  have h1 := (alertsIf_only s a x q).reports
  unfold State.act
  dsimp only
  split
  · exact h1.trans (isolateStep_reports _ h)
  · exact h1.trans (haltStep_reports _)
  · exact h1

theorem recordsLost_reports (s : State) : Reports s s.recordsLost :=
  (latch_reports s .recordsLost).trans (act_reports _ _ _ fun h => by cases h.1)

theorem recordStep_reports (s : State) (x : Source) (f : FaultFields) : Reports s (s.recordStep x f).1 := by
  unfold State.recordStep
  split
  · rfl
  · exact .trans (t := { s with lostCount := min (s.lostCount + 1) 255 }) rfl (recordsLost_reports _)

theorem occur_reports (s : State) {x : Source} {f : FaultFields} (h : ¬ Fences x f) : Reports s (s.occur x f) := by
  have h1 := latch_reports s x
  unfold State.occur
  dsimp only
  split
  · exact h1
  · exact (h1.trans (recordStep_reports _ x f)).trans (act_reports _ _ _ h)

section
variable {s t : State} (h : Reports s t)
include h

theorem Reports.contexts : t.contexts = s.contexts := by rw [h]
theorem Reports.lanes : t.lanes = s.lanes := by rw [h]
theorem Reports.claims : t.claims = s.claims := by rw [h]
theorem Reports.fixed : t.fixed = s.fixed := by rw [h]; rfl
theorem Reports.generation : t.generation = s.generation := by rw [h]
theorem Reports.activeGroups : t.activeGroups = s.activeGroups := by rw [h]
theorem Reports.rightsM1 : t.rightsM1 = s.rightsM1 := by rw [h]
theorem Reports.ctx (c : CtxId) : t.ctx c = s.ctx c := by rw [h]; rfl
theorem Reports.lane (l : LaneId) : t.lane l = s.lane l := by rw [h]; rfl
theorem Reports.claim (k : ClaimId) : t.claim k = s.claim k := by rw [h]; rfl
theorem Reports.claimed (m : Master) (i : Target) : t.Claimed m i ↔ s.Claimed m i := by
  unfold State.Claimed; simp only [h.claim]
theorem Reports.nonePending (l : LaneId) : t.NonePending l ↔ s.NonePending l := by
  unfold State.NonePending; simp only [h.ctx]
theorem Reports.holding (m : Master) : t.holding m = s.holding m := by rw [h]; rfl
theorem Reports.quota (m : Master) : t.quota m = s.quota m := by rw [h]; cases m <;> rfl
theorem Reports.freeContext : t.freeContext = s.freeContext := by rw [h]; rfl

end

/-! ## Reading active entries -/

theorem foundCorrupt_reports (s : State) (t : Target) : Reports s (s.foundCorrupt t) :=
  .trans (t := (s.setActive t ⟨.absent, false⟩).setRecord t { s.record t with health := .healthy, consecutive := 0 }) rfl
    (occur_reports _ fun h => by cases h.1)

theorem readAll_reports (s : State) (ts : List Target) : Reports s (s.readAll ts) := by
  unfold State.readAll
  refine foldl_rel .refl .trans (fun u t => ?_) ts s
  split
  · exact foundCorrupt_reports u t
  · exact .refl u

/-- The counts of legs in flight are no matter of the tables (R20). -/
theorem foundCorrupt_inFlight (s : State) (m : Master) (t v : Target) : (s.foundCorrupt t).inFlight m v = s.inFlight m v := by
  refine (occur_inFlight _ _ _ m v fun h => by cases h.2.1).trans ?_
  unfold State.inFlight
  rw [State.record_setRecord]
  split
  next e => subst e; cases m <;> rfl
  next => rfl

theorem readAll_inFlight (s : State) (ts : List Target) (m : Master) (v : Target) :
    (s.readAll ts).inFlight m v = s.inFlight m v := by
  unfold State.readAll
  refine foldl_rel (R := fun s t => t.inFlight m v = s.inFlight m v) (fun _ => rfl) (fun h k => k.trans h) (fun u t => ?_) ts s
  split
  · exact foundCorrupt_inFlight u m t v
  · rfl

theorem filter_filterMap_present {α β : Type} (present : α → Bool) (val : α → β) (q : β → Bool) (ts : List α) :
    (ts.filterMap (fun t => if present t then some (t, val t) else none)).filter (fun p => q p.2) =
      (ts.filter (fun t => present t && q (val t))).map (fun t => (t, val t)) := by
  induction ts with
  | nil => rfl
  | cons t ts ih =>
    rw [List.filterMap_cons, List.filter_cons]
    cases hp : present t <;> cases hq : q (val t) <;> simp [hq, ih]

/-- A scan of the whole table reads the members of a group, each with its entry (R27). -/
theorem groupMembers_eq (s : State) (g : Nat) :
    s.groupMembers g = (s.readAll allTargets,
      ((s.readAll allTargets).membersOf g).map (fun t => (t, ((s.readAll allTargets).activeEntry t).entry))) := by
  have hscan := scanActive_eq allTargets s (List.nodup_finRange 63)
  unfold State.groupMembers State.membersOf
  generalize allTargets = ts at hscan
  rw [hscan]
  exact congrArg _ (filter_filterMap_present (fun t => ((s.readAll ts).activeEntry t).entry.present)
    (fun t => ((s.readAll ts).activeEntry t).entry) (memberOf g) ts)

/-! ## Group requests (R26 to R31) -/

theorem groupEnabled_iff (s : State) {g : Nat} (hg : g ≤ 15) :
    s.groupEnabled g = true ↔ g = 15 ∨ ∃ i : Group, i.val = g ∧ s.activeGroups[i].enabled = true := by
  unfold State.groupEnabled
  split
  next i hi =>
    have hval := finOf_eq_some_iff.1 hi
    refine ⟨fun h => .inr ⟨i, hval, h⟩, fun h => ?_⟩
    rcases h with h | ⟨j, hj, h⟩
    · omega
    · have e : i = j := Fin.ext (hval.trans hj.symm)
      rw [e]; exact h
  next hi =>
    have h15 := (finOf_eq_none_iff 15 g).1 hi
    exact ⟨fun _ => .inl (by omega), fun _ => rfl⟩

/-- A group request names a group (R42). -/
theorem readRequest_group_dest {r : RawRequest} {q : TargetRequest} (h : readRequest r = some (.group q)) : q.dest ≤ 15 := by
  unfold readRequest at h
  split at h
  · split at h
    · split at h
      · obtain ⟨op, -, e⟩ := Option.map_eq_some_iff.1 h
        cases e
      · cases h
    · cases h
  · split at h
    · dsimp only at h
      split at h
      · split at h <;> cases h
      · split at h <;> cases h
      · split at h
        · split at h <;> cases h
        · cases h
      · split at h
        · split at h
          next hc => cases h; exact hc.1
          next => cases h
        · cases h
      · split at h
        next hc => cases h; exact hc.1
        next => cases h
      · split at h
        · split at h
          next hc => cases h; exact hc.1
          next => cases h
        · cases h
      · cases h
    · cases h

/-- The legs of a group request, one for each member, each DONE with the check that it fails (R29). -/
def State.memberLegs (s : State) (m : Master) (q : TargetRequest) : List Leg :=
  (s.membersOf q.dest).map fun t => legOf q t (s.activeEntry t).entry (s.targetCheck m q t (s.activeEntry t).entry)

theorem admitGroup_disabled {s : State} {m : Master} {tag : Byte} {q : TargetRequest} (h : ¬ s.groupEnabled q.dest = true) :
    s.admitGroup m tag q = s.refuse m tag .noGroup := by
  unfold State.admitGroup
  rw [if_neg h]

/-- A group request to an enabled group, in the state in which its members have been read. -/
theorem admitGroup_enabled {s : State} {m : Master} {tag : Byte} {q : TargetRequest} (h : s.groupEnabled q.dest = true) :
    s.admitGroup m tag q =
      if (s.readAll allTargets).membersOf q.dest = [] then (s.readAll allTargets).refuse m tag .empty
      else if ((s.readAll allTargets).groupRights m q.dest).passes q.kind then
        (s.readAll allTargets).admitLegList m tag q ((s.readAll allTargets).memberLegs m q)
      else (s.readAll allTargets).refuse m tag .denied := by
  unfold State.admitGroup State.memberLegs
  rw [if_pos h, groupMembers_eq]
  generalize s.readAll allTargets = u
  simp only [List.map_eq_nil_iff, List.map_map]
  rfl

theorem groupRights_congr {s t : State} (hgroups : t.activeGroups = s.activeGroups) (hrights : t.rightsM1 = s.rightsM1)
    (m : Master) (g : Nat) : t.groupRights m g = s.groupRights m g := by
  unfold State.groupRights
  rw [hgroups, hrights]

theorem activeGroups_takenBy (s : State) (m : Master) : (s.takenBy m).activeGroups = s.activeGroups := by cases m <;> rfl

theorem rightsM1_takenBy (s : State) (m : Master) : (s.takenBy m).rightsM1 = s.rightsM1 := by cases m <;> rfl

theorem tooLong_iff (q : TargetRequest) (legs : List Leg) :
    tooLong q legs = true ↔ q.kind = .gread .list ∧ 240 < legs.length * (q.count + 1) := by
  rw [tooLong, Bool.and_eq_true, beq_iff_eq, decide_eq_true_iff]
  rfl

section
variable {s : State} {m : Master} {r : RawRequest} {q : TargetRequest} (hnext : Next s m r (.group q))
  (htag : ¬ s.HoldsTag m r.tag) (hrun : s.hub = .run)
include hnext htag hrun

theorem exec_intakeTake_group : exec .intakeTake s = .next ((s.takenBy m).admitGroup m r.tag q) := by
  rw [exec_intakeTake_next hnext htag]
  have hhub : s.hub.refusal = none := by rw [hrun]; rfl
  simp [State.admitAsked, hhub]

end

/-- Whether the group of a request is enabled is no matter of the take. -/
theorem groupEnabled_takenBy {s : State} {m : Master} {r : RawRequest} {q : TargetRequest}
    (hnext : Next s m r (.group q)) : (s.takenBy m).groupEnabled q.dest = true ↔
    q.dest = 15 ∨ ∃ g : Group, g.val = q.dest ∧ s.activeGroups[g].enabled = true := by
  have h := groupEnabled_iff (s.takenBy m) (readRequest_group_dest hnext.2.2)
  rwa [activeGroups_takenBy] at h

theorem found_generation (s : State) (m : Master) (ts : List Target) :
    ((s.takenBy m).readAll ts).generation = s.generation :=
  (readAll_reports (s.takenBy m) ts).generation.trans (generation_takenBy s m)

theorem found_refuse (s : State) (m : Master) (ts : List Target) (tag : Byte) (status : Status) :
    ((s.takenBy m).readAll ts).refuse m tag status = ((s.takenBy m).readAll ts).fillSlot m (s.refusal tag status) := by
  rw [State.refuse, found_generation]; rfl

theorem found_groupRights (s : State) (m w : Master) (ts : List Target) (g : Nat) :
    ((s.takenBy m).readAll ts).groupRights w g = s.groupRights w g := by
  have h := readAll_reports (s.takenBy m) ts
  exact groupRights_congr (h.activeGroups.trans (activeGroups_takenBy s m)) (h.rightsM1.trans (rightsM1_takenBy s m)) w g

theorem found_sound {s : State} (h : s.TablesSound) (m : Master) (ts : List Target) :
    (s.takenBy m).readAll ts = s.takenBy m :=
  readAll_sound ts _ fun t => by rw [activeEntry_takenBy]; exact h t

/-- The answer to a group request whose legs are all DONE at admission (R31). -/
theorem groupResponse_failed (s : State) (m : Master) (tag : Byte) (q : TargetRequest) {members : List Target}
    {e : Target → DirEntry} {o : Target → LegOutcome} :
    (s.newContext m tag q (members.map fun t => legOf q t (e t) (some (o t)))).groupResponse tag =
      ⟨tag, .failed, none, some s.generation,
        some ⟨members.length, 0, members.head?.map (fun t => (t, o t)), none⟩,
        if q.kind = .gread .list then .records (members.map (fun t => ⟨t, o t, none⟩)) else .none⟩ := by
  have hfirst : firstDone (members.map fun t => legOf q t (e t) (some (o t))) = members.head?.map (fun t => (t, o t)) := by
    cases members <;> rfl
  have hrecords : listRecords (members.map fun t => legOf q t (e t) (some (o t))) =
      members.map (fun t => ⟨t, o t, none⟩) := by
    unfold listRecords
    rw [List.filterMap_map, ← List.filterMap_eq_map]
    rfl
  have hdata : (s.newContext m tag q (members.map fun t => legOf q t (e t) (some (o t)))).groupData =
      if q.kind = .gread .list then .records (members.map (fun t => ⟨t, o t, none⟩)) else .none := by
    rw [← hrecords]
    unfold Ctx.groupData State.newContext
    dsimp only
    split
    next h => rw [if_pos h]
    next c hc h => rw [if_neg (by rw [h]; intro e; cases e; exact hc rfl)]
    next hl hn => rw [if_neg hl]
  unfold Ctx.groupResponse
  rw [hdata]
  unfold State.newContext
  simp only [List.length_map, hfirst]
  rfl

/-- Settles O17. -/
theorem groupRequestAnsweredWithoutContext : Obligations.GroupRequestAnsweredWithoutContext := by
  intro s m r q hnext htag hhub
  have hexec := exec_intakeTake_group hnext htag hhub
  have henabled := groupEnabled_takenBy hnext
  refine ⟨fun hsound => ?_, fun h => ?_, fun h hnil => ?_, fun h hne hdenied => ?_, fun h hne hpass => ⟨fun hk hlong => ?_,
    fun hfits o ho => ?_⟩⟩
  · have hfound := found_sound hsound m allTargets
    rw [hfound]
    refine ⟨rfl, ?_, fun a => fillSlot_takenBy s m a⟩
    unfold State.membersOf
    simp only [activeEntry_takenBy]
  · rw [hexec, admitGroup_disabled (mt henabled.1 h), refuse_takenBy]
  · rw [hexec, admitGroup_enabled (henabled.2 h), if_pos hnil, found_refuse]
  · rw [hexec, admitGroup_enabled (henabled.2 h), if_neg hne, found_groupRights, if_neg (by rwa [passes_iff]), found_refuse]
  · have hlegs : tooLong q (((s.takenBy m).readAll allTargets).memberLegs m q) = true := by
      rw [tooLong_iff, State.memberLegs, List.length_map]; exact ⟨hk, hlong⟩
    rw [hexec, admitGroup_enabled (henabled.2 h), if_neg hne, found_groupRights, if_pos (by rwa [passes_iff]),
      State.admitLegList, if_pos hlegs, found_refuse]
  · have hlegs : ((s.takenBy m).readAll allTargets).memberLegs m q =
        (((s.takenBy m).readAll allTargets).membersOf q.dest).map fun t =>
          legOf q t (((s.takenBy m).readAll allTargets).activeEntry t).entry (some (o t)) :=
      List.map_congr_left fun t ht => by rw [ho t ht]
    rw [hexec, admitGroup_enabled (henabled.2 h), if_neg hne, found_groupRights, if_pos (by rwa [passes_iff]),
      State.admitLegList, if_neg, if_pos, hlegs, groupResponse_failed, found_generation]
    · rw [hlegs, List.all_map]
      exact List.all_eq_true.2 fun t _ => rfl
    · rw [tooLong_iff, State.memberLegs, List.length_map]
      exact fun h => absurd (hfits h.1) (Nat.not_le.2 h.2)

end Sys2Proof.Machine
end

section
/-! SUPPORT. Requests that take a context (R49 to R51, R54, R58), as the statements write them. -/

namespace Sys2Proof.Machine

/-! ## Taking a context -/

theorem freeContext_of_least {s : State} {c : CtxId} (h : Least (fun c => s.ctx c = none) c) : s.freeContext = some c :=
  find?_of_least _ c ((least_congr (fun i => by simp) c).2 h)

theorem freeContext_eq_none {s : State} (h : ∀ c, s.ctx c ≠ none) : s.freeContext = none :=
  List.find?_eq_none.2 fun c _ => by simp [h c]

theorem admitLegs_busy {s : State} (h : (∀ c, s.ctx c ≠ none) ∨ s.quota m ≤ s.holding m) (tag : Byte) (q : TargetRequest)
    (legs : List Leg) :
    s.admitLegs m tag q legs =
      (s.refuse m tag .busy).occur .contextExhausted { FaultFields.none with master := some m, tag := some tag } := by
  unfold State.admitLegs
  split
  next c hc =>
    rw [if_neg]; · rfl
    rcases h with h | h
    · exact absurd (freeContext_eq_some hc) (h c)
    · exact Nat.not_lt.2 h
  next => rfl

theorem admitLegs_taken {s : State} {m : Master} {c : CtxId} (hc : Least (fun c => s.ctx c = none) c)
    (hq : s.holding m < s.quota m) (tag : Byte) (q : TargetRequest) (legs : List Leg) :
    s.admitLegs m tag q legs = s.allocate m tag q legs c := by
  unfold State.admitLegs
  rw [freeContext_of_least hc]
  exact if_pos hq

/-! ## One target (R46 to R51) -/

/-- The context of a request to one target. -/
def oneLegContext (s : State) (m : Master) (tag : Byte) (q : TargetRequest) (t : Target) (e : DirEntry) (v : LegState) : Ctx :=
  { state := .active tag, master := m, kind := q.kind, count := q.count, payload := q.payload,
    admission := s.admission, generation := s.generation,
    legs := [⟨t, e.lane, e.station, e.base + q.addr, e.deadline, v, none⟩],
    unfinished := 1, legsOk := 0, firstFailure := none, accumulator := none, mismatch := none }

/-- The state after the leg of a request to one target is counted and its context written. -/
def State.counted (u : State) (s : State) (m : Master) (t : Target) (c : CtxId) (x : Ctx) : State :=
  State.setCtx { u.setRecord t ((s.record t).setInFlight m (s.inFlight m t + 1)) with
    admission := s.admission + 1 } c (some x)

section
variable {s : State} {m : Master} (tag : Byte) (q : TargetRequest) (t : Target) (e : DirEntry) (c : CtxId)

theorem hasRoom_empty_iff (l : LaneId) : s.hasRoom [] l = true ↔ s.NonePending l ∧ (s.lane l).queue.length < 16 := by
  rw [hasRoom_iff, State.Blocked, not_or, not_not, pendingFor_eq_nil_iff, Nat.not_le]
  exact ⟨And.left, fun h => ⟨h, rfl⟩⟩

theorem allocate_one_queued (h : s.NonePending e.lane) (hq : (s.lane e.lane).queue.length < 16) :
    s.allocate m tag q [legOf q t e none] c =
      (s.setLane e.lane { s.lane e.lane with queue := (s.lane e.lane).queue ++ [⟨c, t⟩] }).counted s m t c
        (oneLegContext s m tag q t e .queued) := by
  have hroom := (hasRoom_empty_iff e.lane).2 ⟨h, hq⟩
  have hplace : s.placeLegs m c [] [legOf q t e none] =
      ((s.modifyLane e.lane (fun x => { x with queue := x.queue ++ [⟨c, t⟩] })).rise m t,
        [{ legOf q t e none with state := .queued }]) := by
    simp [State.placeLegs, legOf, Leg.unfinished, Leg.outcome, hroom]
  unfold State.allocate
  rw [hplace]
  rfl

theorem allocate_one_pending (h : ¬ (s.NonePending e.lane ∧ (s.lane e.lane).queue.length < 16)) :
    s.allocate m tag q [legOf q t e none] c = s.counted s m t c (oneLegContext s m tag q t e .pending) := by
  have hroom : ¬ s.hasRoom [] e.lane = true := fun hr => h ((hasRoom_empty_iff e.lane).1 hr)
  have hplace : s.placeLegs m c [] [legOf q t e none] = (s.rise m t, [legOf q t e none]) := by
    simp [State.placeLegs, legOf, Leg.unfinished, Leg.outcome, hroom]
  unfold State.allocate
  rw [hplace]
  rfl

end

theorem admitUnicast_admitted {s : State} {m : Master} {q : TargetRequest} {t : Target} (tag : Byte)
    (hdest : targetId t = q.dest) (hsound : (s.activeEntry t).corrupt = false)
    (hpresent : (s.activeEntry t).entry.present = true) (hcheck : s.targetCheck m q t (s.activeEntry t).entry = none) :
    s.admitUnicast m tag q = s.admitLegs m tag q [legOf q t (s.activeEntry t).entry none] := by
  simp [State.admitUnicast, targetOf_targetId t q.dest hdest, readActive_sound s t hsound, hpresent, hcheck]

/-- All checks of one target pass (R46, R47). -/
theorem targetCheck_eq_none {s : State} {m : Master} {q : TargetRequest} {t : Target} {e : DirEntry}
    (haccess : Suffices (e.access m) q.kind) (hrange : q.addr.toNat + q.count ≤ e.length) (hclaim : ¬ s.Claimed m.other t)
    (hhealthy : (s.record t).health = .healthy) (hup : (s.lane e.lane).state = .up)
    (hstation : e.station.val < (s.lane e.lane).stations) : s.targetCheck m q t e = none := by
  rw [targetCheck_eq_targetCondition haccess hrange, targetCondition_eq_laneCondition hclaim hhealthy, Lane.condition, hup]
  exact if_neg (Nat.not_le.2 hstation)

/-- A take leaves contexts, lanes, claims, settings and counts alone. -/
theorem takenBy_eq (s : State) (m : Master) : s.takenBy m = { s with
    roundRobin := m.other, portM0 := (s.takenBy m).portM0, portM1 := (s.takenBy m).portM1 } := by cases m <;> rfl

theorem ctx_takenBy (s : State) (m : Master) (c : CtxId) : (s.takenBy m).ctx c = s.ctx c := by cases m <;> rfl
theorem lane_takenBy (s : State) (m : Master) (l : LaneId) : (s.takenBy m).lane l = s.lane l := by cases m <;> rfl
theorem holding_takenBy (s : State) (m w : Master) : (s.takenBy m).holding w = s.holding w := by cases m <;> rfl
theorem quota_takenBy (s : State) (m w : Master) : (s.takenBy m).quota w = s.quota w := by cases m <;> cases w <;> rfl
theorem inFlight_takenBy (s : State) (m w : Master) (t : Target) : (s.takenBy m).inFlight w t = s.inFlight w t := by
  cases m <;> rfl
theorem admission_takenBy (s : State) (m : Master) : (s.takenBy m).admission = s.admission := by cases m <;> rfl

theorem nonePending_takenBy (s : State) (m : Master) (l : LaneId) : (s.takenBy m).NonePending l ↔ s.NonePending l := by
  unfold State.NonePending; simp only [ctx_takenBy]

theorem oneLegContext_takenBy (s : State) (m : Master) (tag : Byte) (q : TargetRequest) (t : Target) (e : DirEntry)
    (v : LegState) : oneLegContext (s.takenBy m) m tag q t e v = oneLegContext s m tag q t e v := by cases m <;> rfl

theorem counted_takenBy (s u : State) (m : Master) (t : Target) (c : CtxId) (x : Ctx) :
    u.counted (s.takenBy m) m t c x = u.counted s m t c x := by
  unfold State.counted
  rw [record_takenBy, inFlight_takenBy, admission_takenBy]

/-- Settles O16. -/
theorem unicastAdmittedIsPlaced : Obligations.UnicastAdmittedIsPlaced := by
  intro s m r q t hnext htag hhub hdest hsound hpresent
  have hsound' : ((s.takenBy m).activeEntry t).corrupt = false := by rw [activeEntry_takenBy]; exact hsound
  have hpresent' : ((s.takenBy m).activeEntry t).entry.present = true := by rw [activeEntry_takenBy]; exact hpresent
  have hadmit : s.targetCheck m q t (s.activeEntry t).entry = none → exec .intakeTake s =
      .next ((s.takenBy m).admitLegs m r.tag q [legOf q t (s.activeEntry t).entry none]) := fun hcheck => by
    rw [exec_intakeTake_next hnext htag, admitAsked_unicast_run m r.tag q (by rw [hub_takenBy]; exact hhub),
      admitUnicast_admitted r.tag hdest hsound' hpresent' (by rw [activeEntry_takenBy, targetCheck_takenBy]; exact hcheck),
      activeEntry_takenBy]
  refine ⟨fun c => ?_, fun hcheck hbusy => ?_⟩
  · intro e lane haccess hrange hclaim hhealthy hup hstation hleast hquota context counted
    have hleast' : Least (fun c => (s.takenBy m).ctx c = none) c := by simpa only [ctx_takenBy] using hleast
    have hquota' : (s.takenBy m).holding m < (s.takenBy m).quota m := by rw [holding_takenBy, quota_takenBy]; exact hquota
    have hexec := hadmit (targetCheck_eq_none haccess hrange hclaim hhealthy hup hstation)
    rw [admitLegs_taken hleast' hquota'] at hexec
    refine ⟨fun hlen hnone => ?_, fun hblocked => ?_⟩
    · rw [allocate_one_queued r.tag q t e c ((nonePending_takenBy s m _).2 hnone) (by rw [lane_takenBy]; exact hlen),
        lane_takenBy, counted_takenBy, oneLegContext_takenBy] at hexec
      exact hexec
    · rw [allocate_one_pending r.tag q t e c, counted_takenBy, oneLegContext_takenBy] at hexec
      · exact hexec
      · rw [nonePending_takenBy, lane_takenBy]
        rintro ⟨hnone, hlen⟩
        exact hblocked.elim (fun h => absurd hlen (Nat.not_lt.2 h)) fun h => h hnone
  · rw [hadmit hcheck, admitLegs_busy, refuse_takenBy]
    rw [holding_takenBy, quota_takenBy]
    simpa only [ctx_takenBy] using hbusy

/-! ## A group (R50, R51) -/

theorem unfinished_legOf (q : TargetRequest) (t : Target) (e : DirEntry) (failed : Option LegOutcome) :
    (legOf q t e failed).unfinished = failed.isNone := by cases failed <;> rfl

theorem outcome_legOf (q : TargetRequest) (t : Target) (e : DirEntry) (failed : Option LegOutcome) :
    (legOf q t e failed).outcome = failed := by cases failed <;> rfl

theorem membersOf_ascending (s : State) (g : Nat) : (s.membersOf g).Pairwise (· < ·) := by
  have hall : allTargets.Pairwise (· < ·) := List.pairwise_lt_finRange 63
  unfold State.membersOf
  generalize allTargets = ts at hall
  exact hall.sublist List.filter_sublist

theorem memberLegs_targets (s : State) (m : Master) (q : TargetRequest) :
    (s.memberLegs m q).map Leg.target = s.membersOf q.dest := by
  unfold State.memberLegs
  rw [List.map_map]
  exact List.map_id _

/-- The check that a member of a group fails, if any (R29). -/
def State.memberCheck (s : State) (m : Master) (q : TargetRequest) (t : Target) : Option LegOutcome :=
  s.targetCheck m q t (s.activeEntry t).entry

theorem mem_memberLegs {s : State} {m : Master} {q : TargetRequest} {g : Leg} (h : g ∈ s.memberLegs m q) :
    g.target ∈ s.membersOf q.dest ∧ g = legOf q g.target (s.activeEntry g.target).entry (s.memberCheck m q g.target) := by
  obtain ⟨t, ht, rfl⟩ := List.mem_map.1 h
  exact ⟨ht, rfl⟩

theorem memberLegs_fresh {s : State} {m : Master} {q : TargetRequest}
    (h : ∃ t ∈ s.membersOf q.dest, s.memberCheck m q t = none) : Fresh (s.memberLegs m q) where
  ascending := by
    have e := membersOf_ascending s q.dest
    unfold Ascending
    rw [memberLegs_targets]; exact e
  state := fun g hg => by
    rw [(mem_memberLegs hg).2]
    exact legOf_state q _ _ (targetCheck_ne_ok s m q _ _)
  toSend := by
    obtain ⟨t, ht, hnone⟩ := h
    refine ⟨_, List.mem_map_of_mem ht, ?_⟩
    rw [unfinished_legOf]
    exact Option.isNone_iff_eq_none.2 hnone

theorem placed_outcome {g h : Leg} (hp : PlacedAs g h) (hs : g.unfinished = true → g.state = .pending) :
    h.outcome = g.outcome := by
  rcases hp with ⟨-, rfl⟩ | ⟨hu, rfl | rfl⟩
  · rfl
  · have e := hs hu
    simp [Leg.outcome, e]
  · rfl

theorem forall₂_mem_right {α β : Type} {R : α → β → Prop} {xs : List α} {ys : List β} (h : List.Forall₂ R xs ys) {y : β}
    (hy : y ∈ ys) : ∃ x ∈ xs, R x y := by
  induction h with
  | nil => cases hy
  | cons hr _ ih =>
    rcases List.mem_cons.1 hy with rfl | hy
    · exact ⟨_, List.mem_cons_self, hr⟩
    · obtain ⟨x, hx, hxy⟩ := ih hy
      exact ⟨x, List.mem_cons_of_mem _ hx, hxy⟩

/-- The first leg that is DONE, by the checks of the members (R64). -/
theorem firstDone_placed {legs out : List Leg} (h : List.Forall₂ PlacedAs legs out)
    (hs : ∀ g ∈ legs, g.unfinished = true → g.state = .pending) : firstDone out = firstDone legs := by
  unfold firstDone
  induction h with
  | nil => rfl
  | cons hp _ ih =>
    rw [List.findSome?_cons, List.findSome?_cons, placed_outcome hp (hs _ List.mem_cons_self), (placedAs_target hp).1,
      ih fun g hg => hs g (List.mem_cons_of_mem _ hg)]

theorem memberLegs_firstDone (s : State) (m : Master) (q : TargetRequest) :
    firstDone (s.memberLegs m q) =
      (s.membersOf q.dest).findSome? fun t => (s.memberCheck m q t).map fun o => (t, o) := by
  unfold firstDone State.memberLegs
  rw [List.findSome?_map]
  congr 1
  funext t
  simp only [Function.comp_apply, outcome_legOf]
  rfl

theorem memberLegs_unfinished (s : State) (m : Master) (q : TargetRequest) :
    (s.memberLegs m q).countP Leg.unfinished = (s.membersOf q.dest).countP fun t => s.memberCheck m q t = none := by
  unfold State.memberLegs
  rw [List.countP_map]
  congr 1
  funext t
  simp only [Function.comp_apply, unfinished_legOf]
  rw [Bool.eq_iff_iff, Option.isNone_iff_eq_none, decide_eq_true_iff]
  rfl

theorem countP_and_beq {α : Type} [DecidableEq α] {xs : List α} (h : xs.Nodup) (p : α → Bool) (a : α) :
    xs.countP (fun x => p x && x == a) = if a ∈ xs ∧ p a = true then 1 else 0 := by
  have e : xs.countP (fun x => p x && x == a) = if p a = true then xs.count a else 0 := by
    by_cases hp : p a = true
    · rw [if_pos hp, List.count]
      exact List.countP_congr fun x _ => by
        simp only [Bool.and_eq_true, beq_iff_eq]
        exact ⟨And.right, fun hx => ⟨hx ▸ hp, hx⟩⟩
    · rw [if_neg hp, List.countP_eq_zero]
      simp only [Bool.and_eq_true, beq_iff_eq]
      rintro x - ⟨hx, rfl⟩
      exact hp hx
  rw [e, List.Nodup.count h]
  split <;> split <;> simp_all

/-- The legs to one target that are to be sent: at most one. -/
theorem memberLegs_count (s : State) (m : Master) (q : TargetRequest) (t : Target) :
    (s.memberLegs m q).countP (fun g => g.unfinished && g.target == t) =
      if t ∈ s.membersOf q.dest ∧ s.memberCheck m q t = none then 1 else 0 := by
  have hnodup : (s.membersOf q.dest).Nodup := (membersOf_ascending s q.dest).imp fun h => ne_of_lt h
  have hcount := countP_and_beq hnodup (fun t => (s.memberCheck m q t).isNone) t
  simp only [Option.isNone_iff_eq_none] at hcount
  rw [← hcount, State.memberLegs, List.countP_map]
  congr 1
  funext v
  simp only [Function.comp_apply, unfinished_legOf]
  rfl

/-- What an allocation does to a state in which the members of a group have been read. -/
structure GroupPlaced (s : State) (m : Master) (tag : Byte) (q : TargetRequest) (c : CtxId) (u : State) (out : List Leg) :
    Prop where
  ctx       : ∀ d, u.ctx d = if d = c then some (s.newContext m tag q out) else s.ctx d
  rest      : u = { s with
    lanes := u.lanes, status := u.status, contexts := u.contexts, admission := s.admission + 1 }
  placed    : List.Forall₂ PlacedAs (s.memberLegs m q) out
  waits     : ∀ g ∈ out, g.state = .pending → ¬ s.NonePending g.lane ∨ 16 ≤ (u.lane g.lane).queue.length
  enters    : ∀ g ∈ out, g.state = .queued → s.NonePending g.lane ∧ (s.lane g.lane).queue.length < 16
  inOrder   : out.Pairwise (fun a b => a.lane = b.lane → b.state = .queued → a.state ≠ .pending)
  lanes     : ∀ l, u.lane l = { s.lane l with queue := (s.lane l).queue ++ queuedOn c out l }
  records   : ∀ t, u.record t = if t ∈ s.membersOf q.dest ∧ s.memberCheck m q t = none
    then (s.record t).setInFlight m (s.inFlight m t + 1) else s.record t

theorem allocate_group {s : State} {m : Master} {q : TargetRequest} (tag : Byte) (c : CtxId)
    (h : ∃ t ∈ s.membersOf q.dest, s.memberCheck m q t = none) :
    ∃ out, GroupPlaced s m tag q c (s.allocate m tag q (s.memberLegs m q) c) out := by
  have hp := placeLegs_spec_fresh (memberLegs_fresh h) s m c
  unfold State.allocate
  generalize s.placeLegs m c [] (s.memberLegs m q) = p at hp
  obtain ⟨u, out⟩ := p
  dsimp only at hp ⊢
  have hctx : ∀ d, u.ctx d = s.ctx d := fun d => by rw [hp.rest]; rfl
  have hpending : ∀ l, u.pendingFor l = s.pendingFor l := fun l =>
    pendingFor_congr (by rw [hp.rest]) (by rw [hp.rest])
  refine ⟨out, fun d => ?_, ?_, hp.pairs, fun g hg hs => ?_, fun g hg hs => ?_, hp.inOrder, hp.lanes, fun t => ?_⟩
  · rw [State.ctx_setCtx, ← hctx]; rfl
  · have e := hp.rest
    generalize u.lanes = lanes at e ⊢
    generalize u.status = status at e ⊢
    rw [e]; rfl
  · refine (hp.waits g hg hs).imp (fun hb => ?_) id
    rwa [hpending, Ne, pendingFor_eq_nil_iff] at hb
  · obtain ⟨hnone, hlen⟩ := hp.enters g hg hs
    exact ⟨(pendingFor_eq_nil_iff s g.lane).1 hnone, hlen⟩
  · refine (hp.records t).trans ?_
    rw [memberLegs_count]
    split
    · rfl
    · exact setInFlight_inFlight ..

/-- A leg of the context of a group request. -/
theorem GroupPlaced.leg {s : State} {m : Master} {tag : Byte} {q : TargetRequest} {c : CtxId} {u : State} {out : List Leg}
    (h : GroupPlaced s m tag q c u out) {g : Leg} (hg : g ∈ out) :
    g.lane = (s.activeEntry g.target).entry.lane ∧ g.station = (s.activeEntry g.target).entry.station ∧
      g.addr = (s.activeEntry g.target).entry.base + q.addr ∧ g.deadline = (s.activeEntry g.target).entry.deadline ∧
      g.data = none ∧ (∀ o, s.memberCheck m q g.target = some o → g.state = .done o) ∧
      (s.memberCheck m q g.target = none → g.state = .queued ∨ g.state = .pending) := by
  obtain ⟨k, hk, hp⟩ := forall₂_mem_right h.placed hg
  have htarget := (placedAs_target hp).1
  obtain ⟨-, hleg⟩ := mem_memberLegs hk
  rw [htarget]
  rw [hleg] at hp
  generalize (s.activeEntry k.target).entry = e at hp
  generalize s.memberCheck m q k.target = failed at hp
  rcases hp with ⟨hu, rfl⟩ | ⟨hu, rfl | rfl⟩ <;> rw [unfinished_legOf] at hu
  · exact ⟨rfl, rfl, rfl, rfl, rfl, fun o ho => by rw [ho]; rfl, fun ho => by rw [ho] at hu; cases hu⟩
  · exact ⟨rfl, rfl, rfl, rfl, rfl, fun o ho => by (rw [ho] at hu; cases hu), fun _ => .inl rfl⟩
  · exact ⟨rfl, rfl, rfl, rfl, rfl, fun o ho => by (rw [ho] at hu; cases hu), fun ho => .inr (by rw [ho]; rfl)⟩

/-- The members of a group have been read and a leg is to be sent: the request goes to a context if it can take one. -/
theorem admitLegList_toSend {s : State} {m : Master} {q : TargetRequest} (tag : Byte)
    (hlen : q.kind = .gread .list → (s.membersOf q.dest).length * (q.count + 1) ≤ 240)
    (h : ∃ t ∈ s.membersOf q.dest, s.memberCheck m q t = none) :
    s.admitLegList m tag q (s.memberLegs m q) = s.admitLegs m tag q (s.memberLegs m q) := by
  have hlong : ¬ tooLong q (s.memberLegs m q) = true := by
    rw [tooLong_iff, State.memberLegs, List.length_map]
    exact fun hk => absurd (hlen hk.1) (Nat.not_le.2 hk.2)
  have hall : ¬ (s.memberLegs m q).all (fun g => !g.unfinished) = true := by
    obtain ⟨g, hg, hu⟩ := (memberLegs_fresh h).toSend
    rw [List.all_eq_true]
    exact fun hall => by have := hall g hg; simp [hu] at this
  rw [State.admitLegList, if_neg hlong, if_neg hall]

end Sys2Proof.Machine
end

section
/-! SUPPORT. The placement of an admitted group request (R50, R51). -/

namespace Sys2Proof.Machine

/-- A group request that passes the checks of R50 is admitted with the legs of its members. -/
theorem exec_intakeTake_groupLegs {s : State} {m : Master} {r : RawRequest} {q : TargetRequest}
    (hnext : Next s m r (.group q)) (htag : ¬ s.HoldsTag m r.tag) (hrun : s.hub = .run)
    (henabled : q.dest = 15 ∨ ∃ g : Group, g.val = q.dest ∧ s.activeGroups[g].enabled = true)
    (hpass : Suffices (s.groupRights m q.dest) q.kind)
    (hlen : q.kind = .gread .list → (((s.takenBy m).readAll allTargets).membersOf q.dest).length * (q.count + 1) ≤ 240)
    (hsend : ∃ t ∈ ((s.takenBy m).readAll allTargets).membersOf q.dest,
      ((s.takenBy m).readAll allTargets).memberCheck m q t = none) :
    exec .intakeTake s = .next (((s.takenBy m).readAll allTargets).admitLegs m r.tag q
      (((s.takenBy m).readAll allTargets).memberLegs m q)) := by
  have hne : ((s.takenBy m).readAll allTargets).membersOf q.dest ≠ [] := by
    obtain ⟨t, ht, -⟩ := hsend
    exact List.ne_nil_of_mem ht
  rw [exec_intakeTake_group hnext htag hrun, admitGroup_enabled ((groupEnabled_takenBy hnext).2 henabled), if_neg hne,
    found_groupRights, if_pos ((passes_iff _ _).2 hpass), admitLegList_toSend r.tag hlen hsend]

/-- What a take, and the reads of the active table after it, leave alone. -/
structure AskedAs (s : State) (m : Master) (f : State) : Prop where
  ctx         : ∀ c, f.ctx c = s.ctx c
  lane        : ∀ l, f.lane l = s.lane l
  nonePending : ∀ l, f.NonePending l ↔ s.NonePending l
  inFlight    : ∀ t, f.inFlight m t = s.inFlight m t
  holding     : f.holding m = s.holding m
  quota       : f.quota m = s.quota m
  fixed       : f.admission = s.admission ∧ f.generation = s.generation ∧ f.staged = s.staged ∧ f.claims = s.claims ∧
    f.timebase = s.timebase ∧ f.roundRobin = m.other

theorem askedAs_found (s : State) (m : Master) (ts : List Target) : AskedAs s m ((s.takenBy m).readAll ts) := by
  have h := readAll_reports (s.takenBy m) ts
  have hcount := readAll_inFlight (s.takenBy m) ts m
  generalize (s.takenBy m).readAll ts = f at h hcount
  refine ⟨fun c => (h.ctx c).trans (ctx_takenBy s m c), fun l => (h.lane l).trans (lane_takenBy s m l),
    fun l => (h.nonePending l).trans (nonePending_takenBy s m l), fun t => (hcount t).trans (inFlight_takenBy s m m t),
    (h.holding m).trans (holding_takenBy s m m), (h.quota m).trans (quota_takenBy s m m), ?_⟩
  rw [h]
  cases m <;> exact ⟨rfl, rfl, rfl, rfl, rfl, rfl⟩

/-- What an allocation leaves alone. -/
theorem GroupPlaced.same {s : State} {m : Master} {tag : Byte} {q : TargetRequest} {c : CtxId} {u : State} {out : List Leg}
    (h : GroupPlaced s m tag q c u out) :
    u.admission = s.admission + 1 ∧ (∀ w, u.port w = s.port w) ∧ u.roundRobin = s.roundRobin ∧ u.hub = s.hub ∧
      u.active = s.active ∧ u.staged = s.staged ∧ u.generation = s.generation ∧ u.claims = s.claims ∧
      u.sources = s.sources ∧ u.records = s.records ∧ u.alertM0 = s.alertM0 ∧ u.alertM1 = s.alertM1 ∧
      u.timebase = s.timebase := by
  rw [h.rest]
  exact ⟨rfl, fun w => by cases w <;> rfl, rfl, rfl, rfl, rfl, rfl, rfl, rfl, rfl, rfl, rfl, rfl⟩

/-- Settles O18. -/
theorem groupRequestIsPlaced : Obligations.GroupRequestIsPlaced := by
  intro s m r q hnext htag hrun found members check
  refine ⟨fun hsound => found_sound hsound m allTargets, fun henabled hpass hlen hsend => ?_⟩
  have hexec := exec_intakeTake_groupLegs hnext htag hrun henabled hpass hlen hsend
  have hasked : AskedAs s m found := askedAs_found s m allTargets
  obtain ⟨hadmission, hgeneration, hstaged, hclaims, htimebase, hroundRobin⟩ := hasked.fixed
  change exec .intakeTake s = .next (found.admitLegs m r.tag q (found.memberLegs m q)) at hexec
  clear_value found
  rw [hexec]
  refine ⟨fun hbusy => ?_, fun c hc hquota => ?_⟩
  · have hbusy' : (∀ c, found.ctx c ≠ none) ∨ found.quota m ≤ found.holding m := by
      rw [hasked.quota, hasked.holding]; simpa only [hasked.ctx] using hbusy
    rw [admitLegs_busy hbusy', State.refuse, hgeneration]
    rfl
  · have hc' : Least (fun c => found.ctx c = none) c := by simpa only [hasked.ctx] using hc
    have hquota' : found.holding m < found.quota m := by rw [hasked.quota, hasked.holding]; exact hquota
    rw [admitLegs_taken hc' hquota']
    obtain ⟨out, hout⟩ := allocate_group (s := found) (m := m) (q := q) r.tag c hsend
    generalize found.allocate m r.tag q (found.memberLegs m q) c = u at hout
    have hctx := hout.ctx c
    rw [if_pos rfl] at hctx
    obtain ⟨hnext', hport, hpointer, hhub, hactive, hstaged', hgeneration', hclaims', hsources, hrecords, hm0, hm1, htime⟩ :=
      hout.same
    have hpending : ∀ g ∈ found.memberLegs m q, g.unfinished = true → g.state = .pending := fun g hg hu => by
      rcases (memberLegs_fresh hsend).state g hg with hs | ⟨o, hs⟩
      · exact hs
      · simp [Leg.unfinished, Leg.outcome, hs] at hu
    refine ⟨u, _, rfl, hctx, fun d hd => ?_, rfl, rfl, rfl, rfl, rfl, hadmission, hnext'.trans (by rw [hadmission]),
      hgeneration, ?_, rfl, rfl, rfl, ?_, ?_, ?_, hout.inOrder, fun l => ?_, fun t => ?_, hport,
      hpointer.trans hroundRobin, hhub, hactive, hstaged'.trans hstaged, hgeneration'.trans hgeneration,
      hclaims'.trans hclaims, hsources, hrecords, hm0, hm1, htime.trans htimebase⟩
    · rw [hout.ctx d, if_neg hd, hasked.ctx]
    · exact (placed_unfinished hout.placed).trans (memberLegs_unfinished found m q)
    · exact (firstDone_placed hout.placed hpending).trans (memberLegs_firstDone found m q)
    · exact (placed_targets hout.placed).trans (memberLegs_targets found m q)
    · intro g hg e
      obtain ⟨hlane, hstation, haddr, hdeadline, hdata, hdone, hwait⟩ := hout.leg hg
      refine ⟨hlane, hstation, haddr, hdeadline, hdata, hdone, fun hnone =>
        (hwait hnone).imp (fun hs => ⟨hs, ?_⟩) fun hs => ⟨hs, ?_⟩⟩
      · rw [← hasked.nonePending, ← hasked.lane]; exact hout.enters g hg hs
      · rw [← hasked.nonePending]; exact hout.waits g hg hs
    · rw [← hasked.lane]; exact hout.lanes l
    · rw [← hasked.inFlight]; exact hout.records t

end Sys2Proof.Machine
end

section
/-! SUPPORT. The management operations that read, and those that write one setting (R5, R16, R17, R22, R23, R55, R56,
R104, R112, R113, R147, R148, R151, R159, R178, R180, R181), as the statements write them. -/

namespace Sys2Proof.Machine

/-! ## The row of an operation that may be carried out -/

theorem exec_offered {s : State} {m : Master} {tag : Byte} {op : HubOp} {i : Instr} (h : Offered s m tag op)
    (ha : Allowed s m op) (hrow : rowOf m tag op = some i) : exec i s = .next (perform m tag op (s.takenBy m)) := by
  rw [exec_row hrow, happens_hubEvent_offered h ha]

theorem invalid_takenBy (s : State) (m : Master) (tag code reason : Byte) :
    (s.takenBy m).invalid m tag code reason = s.answered m (answerOf tag code .invalid [reason]) := by cases m <;> rfl

theorem answerOf_takenBy (s : State) (m : Master) (tag code : Byte) (status : Status) (bytes : List Byte) :
    (s.takenBy m).answer m tag code status none bytes = s.answered m (answerOf tag code status bytes) := by cases m <;> rfl

theorem answerWith_takenBy (s : State) (m : Master) (tag code : Byte) (status : Status) (g : BitVec 16) (bytes : List Byte) :
    (s.takenBy m).answer m tag code status (some g) bytes = s.answered m (answerWith tag code status g bytes) := by
  cases m <;> rfl

/-! ## Parameters of one byte (section 11.3) -/

theorem masterOf_eq_none_iff (b : Byte) : masterOf b = none ↔ 1 < b.toNat := by
  revert b; decide

theorem masterOf_masterCode (m : Master) : masterOf (masterCode m) = some m := by cases m <;> rfl

theorem rightsOf_eq_none_iff (b : Byte) : rightsOf b = none ↔ 2 < b.toNat := by
  revert b; decide

theorem rightsOf_rightsCode (v : Rights) : rightsOf (rightsCode v) = some v := by cases v <;> rfl

theorem actionOf_eq_none_iff (b : Byte) : actionOf b = none ↔ 4 < b.toNat := by
  revert b; decide

theorem actionOf_actionCode (a : Action) : actionOf (actionCode a) = some a := by cases a <;> rfl

theorem accessOf_accessCode (a : Access) : accessOf (accessCode a) = some a := by cases a <;> rfl

theorem sourceIndex_of_code (x : Source) : finOf 22 ((sourceCode x).toNat - 1) = some x.index := by cases x <;> rfl

theorem sourceCode_ne_zero (x : Source) : sourceCode x ≠ 0 := by cases x <;> decide

theorem copyOf_eq_none_iff (b : Byte) : copyOf b = none ↔ 1 < b.toNat := boolOf_eq_none_iff b

theorem targetOf_of_range {n : Nat} (h : n < 1 ∨ 63 < n) : targetOf n = none := (targetOf_eq_none_iff n).2 h

/-! ## The counts of contexts and of waiting legs (R56, R104) -/

theorem countP_holding_orphans (cs : List (CtxId × Ctx)) :
    cs.countP (fun c => c.2.master = .m0 ∧ c.2.tag.isSome) + cs.countP (fun c => c.2.master = .m1 ∧ c.2.tag.isSome) +
      cs.countP (fun c => c.2.tag.isNone) = cs.length := by
  induction cs with
  | nil => rfl
  | cons c cs ih =>
    simp only [List.countP_cons, List.length_cons]
    rw [← ih]
    cases hm : c.2.master <;> cases ht : c.2.tag <;> simp <;> omega

theorem usedContexts_length (s : State) : s.usedContexts.length ≤ 32 := by
  unfold State.usedContexts
  exact (List.length_filterMap_le ..).trans (by rw [List.length_finRange])

/-- Every context counts once among the holdings, the ORPHANs and the FREE ones. -/
theorem holding_orphans_free (s : State) :
    s.holding .m0 + s.holding .m1 + s.orphans + (32 - s.usedContexts.length) = 32 := by
  have h := countP_holding_orphans s.usedContexts
  have hlen := usedContexts_length s
  unfold State.holding State.orphans
  omega

theorem insertByAge_perm (s : State) (c : CtxId × Ctx) (ds : List (CtxId × Ctx)) : (insertByAge s c ds).Perm (c :: ds) := by
  induction ds with
  | nil => exact .refl _
  | cons d ds ih =>
    unfold insertByAge
    split
    · exact .refl _
    · exact (ih.cons d).trans (.swap c d ds)

theorem foldl_insertByAge_perm (s : State) (cs acc : List (CtxId × Ctx)) :
    (cs.foldl (fun acc c => insertByAge s c acc) acc).Perm (cs ++ acc) := by
  induction cs generalizing acc with
  | nil => exact .refl _
  | cons c cs ih =>
    exact (ih _).trans (((insertByAge_perm s c acc).append_left cs).trans List.perm_middle)

theorem byAge_perm (s : State) : s.byAge.Perm s.usedContexts := by
  have h := foldl_insertByAge_perm s s.usedContexts []
  rwa [List.append_nil] at h

/-- The legs that wait for a lane, counted over the contexts. -/
theorem pendingFor_length (s : State) (l : LaneId) : (s.pendingFor l).length = s.waitingLegs l := by
  unfold State.pendingFor State.waitingLegs
  rw [List.length_flatMap, ← ((byAge_perm s).map _).sum_nat]
  congr 2
  funext c
  rw [List.length_map, List.countP_eq_length_filter]

theorem pendingFor_takenBy (s : State) (m : Master) (l : LaneId) : (s.takenBy m).pendingFor l = s.pendingFor l :=
  pendingFor_congr (by cases m <;> rfl) (by cases m <;> rfl)

/-! ## The operations that read -/

/-- The actions in source number order (R148). -/
theorem actions_getElem? (s : State) (x : Source) :
    (s.sources.toList.map (fun r => actionCode r.action))[x.index.val]? = some (actionCode (s.source x).action) := by
  rw [List.getElem?_map, Vector.getElem?_toList, Vector.getElem?_eq_getElem x.index.isLt]
  rfl

theorem opStatusRead_target (s : State) (m : Master) (tag : Byte) {target : Byte} {t : Target} (h : targetId t = target.toNat) :
    opStatusRead m tag target s = s.answer m tag 0x06 .ok none (recordFields (s.record t)) := by
  rw [opStatusRead, targetOf_targetId t _ h]

theorem opLaneRead_lane (s : State) (m : Master) (tag : Byte) {lane : Byte} {l : LaneId} (h : l.val = lane.toNat) :
    opLaneRead m tag lane s = s.answer m tag 0x0C .ok none (s.laneFields l) := by
  rw [opLaneRead, finOf_val l _ h]

theorem laneFields_takenBy (s : State) (m : Master) (l : LaneId) : (s.takenBy m).laneFields l = s.laneFields l := by
  unfold State.laneFields; rw [lane_takenBy, pendingFor_takenBy]

theorem denied_actionRead {s : State} {m : Master} {tag : Byte} (h : Offered s m tag .actionRead) (hrights : s.rights m = .none) :
    exec (.actionRead m tag) s = .next ((s.answered m ⟨tag, .denied, none, none, none, .none⟩).occur .rightsViolation
      { FaultFields.none with master := some m, tag := some tag, detail := some 0x13 }) := by
  have hdenied : ¬ Allowed s m .actionRead := fun ha => ha hrights
  have hmay : (s.takenBy m).mayManage m .actionRead = false := by
    rw [← takeRequest_takenBy, mayManage_takeRequest, ← Bool.not_eq_true, mayManage_iff]; exact hdenied
  rw [exec_row (m := m) (tag := tag) (op := .actionRead) rfl, happens_hubEvent h, exec_intakeTake_offered h, manage_fails _ _ _ _ hmay,
    fillSlot_takenBy]
  rfl

theorem allSlots_flatMap {α : Type} (f : SlotId → List α) :
    allSlots.flatMap f = f 0 ++ (f 1 ++ (f 2 ++ f 3)) := by
  have h : allSlots = [0, 1, 2, 3] := by decide
  rw [h]
  simp only [List.flatMap_cons, List.flatMap_nil, List.append_nil]

theorem pendedFields_eq : pendedFields = fun c p => [classCode c, sourceCode p.source] ++
    (match p.sequence with
      | none => [0]
      | some n => 1 :: bytes2 n) := by
  funext c p
  rcases p with ⟨x, _ | n⟩ <;> rfl

/-- Settles O21. -/
theorem readOperationsAnswer : Obligations.ReadOperationsAnswer := by
  intro s m tag alertBytes slotBytes
  refine ⟨fun hrights => ⟨fun h => ?_, fun target h => ⟨fun t ht => ?_, fun hrange => ?_⟩, fun h => ⟨?_, ?_⟩,
    fun lane h => ⟨fun l hl => ?_, fun hlane => ?_⟩, fun h => ?_, fun h => ?_, fun h => ?_, fun h => ?_⟩,
    fun hrights h => denied_actionRead h hrights⟩
  · rw [exec_offered h hrights rfl, perform, opIdent, generation_takenBy, answerWith_takenBy]
    cases m <;> rfl
  · rw [exec_offered h hrights rfl, perform, opStatusRead_target _ m tag ht, answerOf_takenBy, record_takenBy]
    rfl
  · rw [exec_offered h hrights rfl, perform, opStatusRead, targetOf_of_range hrange, invalid_takenBy]
  · exact holding_orphans_free s
  · rw [exec_offered h hrights rfl, perform, opQuotaRead, answerOf_takenBy]
    cases m <;> rfl
  · rw [exec_offered h hrights rfl, perform, opLaneRead_lane _ m tag hl, answerOf_takenBy, laneFields_takenBy,
      State.laneFields, pendingFor_length, allSlots_flatMap]
    simp only [List.append_assoc]
    rfl
  · rw [exec_offered h hrights rfl, perform, opLaneRead, finOf_none 12 _ hlane, invalid_takenBy]
  · rw [exec_offered h hrights rfl, perform, opDeadlineRead, answerOf_takenBy]
    cases m <;> rfl
  · rw [exec_offered h hrights rfl, perform, opFaultRead, answerOf_takenBy]
    cases m <;> rfl
  · rw [exec_offered h hrights rfl, perform, opLevelRead, answerOf_takenBy, alertFields, alertFields, pendedFields_eq]
    cases m <;> rfl
  · refine ⟨_, ?_, actions_getElem? s, ?_⟩
    · rw [List.length_map, Vector.length_toList]
    · rw [exec_offered h hrights rfl, perform, opActionRead, answerOf_takenBy]
      cases m <;> rfl

/-- DIR-READ of one copy of an entry (R5). -/
theorem opDirRead_staged (s : State) (m : Master) (tag : Byte) {target : Byte} {t : Target} (h : targetId t = target.toNat) :
    opDirRead m tag target 0 s = s.answer m tag 0x02 .ok (some s.generation) (entryFields (s.stagedEntry t)) := by
  rw [opDirRead, targetOf_targetId t _ h]; rfl

theorem opDirRead_active (s : State) (m : Master) (tag : Byte) {target : Byte} {t : Target} (h : targetId t = target.toNat) :
    opDirRead m tag target 1 s =
      (s.readActive t).1.answer m tag 0x02 .ok (some (s.readActive t).1.generation) (entryFields (s.readActive t).2) := by
  rw [opDirRead, targetOf_targetId t _ h]; rfl

/-- Settles O22. -/
theorem dirReadAnswersEntry : Obligations.DirReadAnswersEntry := by
  intro s m tag target copy h hrights
  rw [exec_offered h hrights rfl, perform]
  refine ⟨fun hrange => ?_, fun t ht => ⟨fun hcopy => ?_, fun hcopy => ?_, fun hcopy hsound => ?_, fun hcopy hcorrupt => ?_⟩⟩
  · rw [opDirRead, targetOf_of_range hrange, invalid_takenBy]
  · have hnone : copyOf copy = none := (copyOf_eq_none_iff copy).2 hcopy
    simp only [opDirRead, targetOf_targetId t _ ht, hnone, invalid_takenBy]
  · rw [hcopy, opDirRead_staged _ m tag ht, stagedEntry_takenBy, generation_takenBy, answerWith_takenBy]
  · rw [hcopy, opDirRead_active _ m tag ht, readActive_sound _ t (by rw [activeEntry_takenBy]; exact hsound),
      activeEntry_takenBy, generation_takenBy, answerWith_takenBy]
  · rw [hcopy, opDirRead_active _ m tag ht, readActive_corrupt (by rw [activeEntry_takenBy]; exact hcorrupt),
      generation_foundCorrupt, generation_takenBy, State.foundCorrupt, record_takenBy]
    rfl

/-! ## The operations that write one setting -/

theorem groupMember_of_val {g : Group} {b : Byte} (h : g.val = b.toNat) : finOf 15 b.toNat = some g ∧ b.toNat ≤ 15 :=
  ⟨finOf_val g _ h, by have := g.isLt; omega⟩

theorem group15_fields (s : State) : groupFields s.group15 =
    [1, 2, match s.rightsM1 with | .full => 2 | .read => 1 | .none => 0] := by
  unfold groupFields State.group15 State.groupRights
  cases s.rightsM1 <;> rfl

section
variable (s : State) (m : Master) (tag : Byte) {group : Byte}

theorem opGroupRead_noCopy {copy : Byte} (hgroup : group.toNat ≤ 15) (h : 1 < copy.toNat) :
    opGroupRead m tag group copy s = s.invalid m tag 0x08 2 := by
  rw [opGroupRead, if_neg (Nat.not_lt.2 hgroup), (copyOf_eq_none_iff copy).2 h]

theorem opGroupRead_group15 {copy : Byte} (h : copy.toNat ≤ 1) :
    opGroupRead m tag 15 copy s = s.answer m tag 0x08 .ok none (groupFields s.group15) := by
  obtain ⟨v, hv⟩ : ∃ v, copyOf copy = some v :=
    Option.ne_none_iff_exists'.1 fun hn => Nat.not_lt.2 h ((copyOf_eq_none_iff copy).1 hn)
  rw [opGroupRead, if_neg (by decide), hv]
  rfl

theorem opGroupRead_staged {g : Group} (h : g.val = group.toNat) :
    opGroupRead m tag group 0 s = s.answer m tag 0x08 .ok (some s.generation) (groupFields s.stagedGroups[g]) := by
  obtain ⟨hg, hle⟩ := groupMember_of_val h
  rw [opGroupRead, if_neg (Nat.not_lt.2 hle), hg]
  rfl

theorem opGroupRead_active {g : Group} (h : g.val = group.toNat) :
    opGroupRead m tag group 1 s = s.answer m tag 0x08 .ok (some s.generation) (groupFields s.activeGroups[g]) := by
  obtain ⟨hg, hle⟩ := groupMember_of_val h
  rw [opGroupRead, if_neg (Nat.not_lt.2 hle), hg]
  rfl

end

/-- The checks of GROUP-WRITE and the entry that they give (R22). -/
theorem checkGroupWrite_eq {group enabled rightsM0 rightsM1 : Byte} :
    (14 < group.toNat → checkGroupWrite group enabled rightsM0 rightsM1 = .error 1) ∧
    (group.toNat ≤ 14 → 1 < enabled.toNat → checkGroupWrite group enabled rightsM0 rightsM1 = .error 2) ∧
    (group.toNat ≤ 14 → enabled.toNat ≤ 1 → 2 < rightsM0.toNat →
      checkGroupWrite group enabled rightsM0 rightsM1 = .error 3) ∧
    (group.toNat ≤ 14 → enabled.toNat ≤ 1 → rightsM0.toNat ≤ 2 → 2 < rightsM1.toNat →
      checkGroupWrite group enabled rightsM0 rightsM1 = .error 4) ∧
    ∀ (g : Group) (e : GroupEntry), g.val = group.toNat → boolCode e.enabled = enabled →
      accessCode e.rightsM0 = rightsM0 → accessCode e.rightsM1 = rightsM1 →
      checkGroupWrite group enabled rightsM0 rightsM1 = .ok (g, e) := by
  have hgroup (h : group.toNat ≤ 14) : ∃ g, finOf 15 group.toNat = some g :=
    ⟨_, finOf_lt (by omega)⟩
  have hbool (h : enabled.toNat ≤ 1) : ∃ v, boolOf enabled = some v :=
    Option.ne_none_iff_exists'.1 fun hn => Nat.not_lt.2 h ((boolOf_eq_none_iff enabled).1 hn)
  have haccess {b : Byte} (h : b.toNat ≤ 2) : ∃ a, accessOf b = some a :=
    Option.ne_none_iff_exists'.1 fun hn => Nat.not_lt.2 h ((accessOf_eq_none_iff b).1 hn)
  unfold checkGroupWrite
  refine ⟨fun h => ?_, fun h he => ?_, fun h he h0 => ?_, fun h he h0 h1 => ?_, fun g e hg he h0 h1 => ?_⟩
  · rw [finOf_none 15 _ h]; rfl
  · obtain ⟨g, hg⟩ := hgroup h
    rw [hg, (boolOf_eq_none_iff enabled).2 he]; rfl
  · obtain ⟨g, hg⟩ := hgroup h
    obtain ⟨v, hv⟩ := hbool he
    rw [hg, hv, (accessOf_eq_none_iff rightsM0).2 h0]; rfl
  · obtain ⟨g, hg⟩ := hgroup h
    obtain ⟨v, hv⟩ := hbool he
    obtain ⟨a, ha⟩ := haccess h0
    rw [hg, hv, ha, (accessOf_eq_none_iff rightsM1).2 h1]; rfl
  · rw [finOf_val g _ hg, boolOf_eq_some_iff.2 he.symm, ← h0, ← h1, accessOf_accessCode, accessOf_accessCode]; rfl

/-- Settles O27. -/
theorem groupReadAndWrite : Obligations.GroupReadAndWrite := by
  intro s m tag group
  refine ⟨fun copy h hrights => ?_, fun enabled rightsM0 rightsM1 h hfull => ?_⟩
  · intro answers
    have hexec : exec (.groupRead m tag group copy) s = .next (opGroupRead m tag group copy (s.takenBy m)) :=
      exec_offered h hrights rfl
    refine ⟨fun hg => ?_, fun hg hc => ?_, fun hg hc => ?_, fun g hg => ⟨fun hc => ?_, fun hc => ?_⟩⟩ <;>
      change exec _ s = _ <;> rw [hexec]
    · rw [opGroupRead, if_pos hg, invalid_takenBy]
    · rw [opGroupRead_noCopy _ m tag hg hc, invalid_takenBy]
    · rw [hg, opGroupRead_group15 _ m tag hc, answerOf_takenBy, group15_fields, rightsM1_takenBy] <;>
        rfl
    · rw [hc, opGroupRead_staged _ m tag hg, generation_takenBy, answerWith_takenBy]
      cases m <;> rfl
    · rw [hc, opGroupRead_active _ m tag hg, generation_takenBy, answerWith_takenBy]
      cases m <;> rfl
  · intro refused
    have hexec : exec (.groupWrite m tag group enabled rightsM0 rightsM1) s =
        .next (opGroupWrite m tag group enabled rightsM0 rightsM1 (s.takenBy m)) := exec_offered h hfull rfl
    obtain ⟨h1, h2, h3, h4, hok⟩ := checkGroupWrite_eq (group := group) (enabled := enabled) (rightsM0 := rightsM0)
      (rightsM1 := rightsM1)
    have hrefused {reason : Byte} (hc : checkGroupWrite group enabled rightsM0 rightsM1 = .error reason) : refused reason := by
      change exec _ s = _
      rw [hexec, opGroupWrite, hc]
      exact congrArg _ (invalid_takenBy ..)
    refine ⟨fun hg => hrefused (h1 hg), fun hg he => hrefused (h2 hg he), fun hg he h0 => hrefused (h3 hg he h0),
      fun hg he h0 hr => hrefused (h4 hg he h0 hr), fun g e hg he h0 hr => ?_⟩
    rw [hexec, opGroupWrite, hok g e hg he h0 hr]
    cases m <;> rfl

end Sys2Proof.Machine
end

section
/-! SUPPORT. DISCARD, the operations that write one setting, RENEW and RELEASE, and the operations on faults and alerts (R6,
R17, R24, R55, R112, R133, R134, R147, R150, R152, R157, R158, R178, R180), as the statements write them. -/

namespace Sys2Proof.Machine

/-! ## DISCARD (R6, R24) -/

theorem foundCorrupt_fixed (s : State) (t : Target) : (s.foundCorrupt t).fixed = s.fixed := (foundCorrupt_reports s t).fixed

theorem foundCorrupt_stagedEntry (s : State) (t i : Target) : (s.foundCorrupt t).stagedEntry i = s.stagedEntry i := by
  have h := congrArg Fixed.staged (foundCorrupt_fixed s t)
  exact congrArg (fun v : Vector DirEntry 63 => v[i]) h

section
variable {s : State} {t : Target}

theorem discardEntry_sound (h : (s.activeEntry t).corrupt = false) :
    s.discardEntry t = s.setStaged t (s.activeEntry t).entry := by
  rw [State.discardEntry, h]; rfl

theorem discardEntry_corrupt (h : (s.activeEntry t).corrupt = true) : s.discardEntry t = s.foundCorrupt t := by
  rw [State.discardEntry, if_pos h, tableIntegrity_eq]

end

/-- What DISCARD does at one target ID. -/
structure DiscardsAt (s u : State) (i : Target) : Prop where
  sound   : (s.activeEntry i).corrupt = false →
    u.stagedEntry i = (s.activeEntry i).entry ∧ u.activeEntry i = s.activeEntry i
  corrupt : (s.activeEntry i).corrupt = true → u.stagedEntry i = s.stagedEntry i ∧ u.activeEntry i = ⟨.absent, false⟩

theorem discardEntry_self (s : State) (t : Target) : DiscardsAt s (s.discardEntry t) t where
  sound := fun h => by
    rw [discardEntry_sound h, State.stagedEntry_setStaged_same, State.activeEntry_setStaged]; exact ⟨rfl, rfl⟩
  corrupt := fun h => by
    rw [discardEntry_corrupt h, foundCorrupt_stagedEntry, foundCorrupt_activeEntry, if_pos rfl]; exact ⟨rfl, rfl⟩

theorem discardEntry_other (s : State) {t i : Target} (h : i ≠ t) :
    (s.discardEntry t).stagedEntry i = s.stagedEntry i ∧ (s.discardEntry t).activeEntry i = s.activeEntry i := by
  cases hc : (s.activeEntry t).corrupt with
  | false => rw [discardEntry_sound hc, State.stagedEntry_setStaged, if_neg h, State.activeEntry_setStaged]; exact ⟨rfl, rfl⟩
  | true =>
    rw [discardEntry_corrupt hc, foundCorrupt_stagedEntry, foundCorrupt_activeEntry, if_neg h]; exact ⟨rfl, rfl⟩

theorem discardAll_other {ts : List Target} {i : Target} (h : i ∉ ts) (s : State) :
    (ts.foldl State.discardEntry s).stagedEntry i = s.stagedEntry i ∧
      (ts.foldl State.discardEntry s).activeEntry i = s.activeEntry i := by
  induction ts generalizing s with
  | nil => exact ⟨rfl, rfl⟩
  | cons t ts ih =>
    obtain ⟨hne, hmem⟩ := not_or.1 (mt List.mem_cons.2 h)
    obtain ⟨hstaged, hactive⟩ := ih hmem (s.discardEntry t)
    obtain ⟨hs, ha⟩ := discardEntry_other s hne
    exact ⟨hstaged.trans hs, hactive.trans ha⟩

/-- DISCARD over target IDs of which none stands twice, at one of them. -/
theorem discardAll_at {ts : List Target} (hnodup : ts.Nodup) {i : Target} (h : i ∈ ts) (s : State) :
    DiscardsAt s (ts.foldl State.discardEntry s) i := by
  induction ts generalizing s with
  | nil => cases h
  | cons t ts ih =>
    obtain ⟨hnot, hnodup⟩ := List.nodup_cons.1 hnodup
    rw [List.foldl_cons]
    by_cases e : i = t
    · subst e
      obtain ⟨hstaged, hactive⟩ := discardAll_other hnot (s.discardEntry i)
      have hself := discardEntry_self s i
      exact ⟨fun hc => by rw [hstaged, hactive]; exact hself.sound hc, fun hc => by rw [hstaged, hactive]; exact hself.corrupt hc⟩
    · obtain ⟨hstaged, hactive⟩ := discardEntry_other s e
      have hrest := ih hnodup (List.mem_of_ne_of_mem e h) (s.discardEntry t)
      refine ⟨fun hc => ?_, fun hc => ?_⟩
      · rw [← hactive] at hc ⊢
        exact hrest.sound hc
      · rw [← hactive] at hc
        rw [← hstaged]
        exact hrest.corrupt hc

/-- DISCARD leaves the fixed fields but the staged copies. -/
theorem discardAll_settings (ts : List Target) (s : State) :
    (ts.foldl State.discardEntry s).stagedGroups = s.stagedGroups ∧
      (ts.foldl State.discardEntry s).activeGroups = s.activeGroups ∧
      (ts.foldl State.discardEntry s).generation = s.generation := by
  refine foldl_rel (R := fun s u : State => u.stagedGroups = s.stagedGroups ∧ u.activeGroups = s.activeGroups ∧
    u.generation = s.generation) (fun _ => ⟨rfl, rfl, rfl⟩) (fun h k => ⟨k.1.trans h.1, k.2.1.trans h.2.1, k.2.2.trans h.2.2⟩)
    (fun u t => ?_) ts s
  cases hc : (u.activeEntry t).corrupt with
  | false => rw [discardEntry_sound hc]; exact ⟨rfl, rfl, rfl⟩
  | true =>
    have h := foundCorrupt_fixed u t
    rw [discardEntry_corrupt hc]
    exact ⟨congrArg Fixed.stagedGroups h, congrArg Fixed.activeGroups h, congrArg Fixed.generation h⟩

theorem discardAll_sound (ts : List Target) {s : State} (h : s.TablesSound) :
    ts.foldl State.discardEntry s = { s with staged := (ts.foldl State.discardEntry s).staged } := by
  induction ts generalizing s with
  | nil => rfl
  | cons t ts ih =>
    rw [List.foldl_cons, discardEntry_sound (h t)]
    refine (ih (s := s.setStaged t (s.activeEntry t).entry) fun i => h i).trans ?_
    rfl

theorem discardTables_sound {s : State} (h : s.TablesSound) :
    s.discardTables = { s with staged := s.active.map ActiveEntry.entry, stagedGroups := s.activeGroups } := by
  have hat : ∀ i, DiscardsAt s (allTargets.foldl State.discardEntry s) i :=
    fun i => discardAll_at (List.nodup_finRange 63) (List.mem_finRange i) s
  have heq := discardAll_sound allTargets h
  unfold State.discardTables
  generalize allTargets.foldl State.discardEntry s = u at hat heq
  have hstaged : u.staged = s.active.map ActiveEntry.entry := Vector.ext fun i hi => by
    rw [Vector.getElem_map]
    exact ((hat ⟨i, hi⟩).sound (h ⟨i, hi⟩)).1
  rw [hstaged] at heq
  rw [heq]

theorem tablesSound_takenBy {s : State} (h : s.TablesSound) (m : Master) : (s.takenBy m).TablesSound := fun t => by
  rw [activeEntry_takenBy]; exact h t

/-- Settles O24. -/
theorem discardCopiesActiveOverStaged : Obligations.DiscardCopiesActiveOverStaged := by
  intro s m tag h hfull
  have hexec : exec (.discard m tag) s = .next ((s.takenBy m).discardTables.answer m tag 0x04 .ok none []) :=
    exec_offered h hfull rfl
  rw [hexec]
  refine ⟨⟨_, rfl, ?_⟩, fun hsound => ?_⟩
  · have hat : ∀ i, DiscardsAt (s.takenBy m) (allTargets.foldl State.discardEntry (s.takenBy m)) i :=
      fun i => discardAll_at (List.nodup_finRange 63) (List.mem_finRange i) _
    obtain ⟨-, hgroups, hgeneration⟩ := discardAll_settings allTargets (s.takenBy m)
    unfold State.discardTables
    generalize allTargets.foldl State.discardEntry (s.takenBy m) = u at hat hgroups hgeneration
    rw [activeGroups_takenBy] at hgroups
    rw [generation_takenBy] at hgeneration
    refine ⟨?_, ?_, ?_, fun i => ⟨fun hc => ?_, fun hc => ?_⟩⟩
    · rw [← hgroups]; cases m <;> rfl
    · rw [← hgroups]; cases m <;> rfl
    · rw [← hgeneration]; cases m <;> rfl
    · obtain ⟨hs, ha⟩ := (hat i).sound (by rw [activeEntry_takenBy]; exact hc)
      rw [activeEntry_takenBy] at hs ha
      rw [← hs, ← ha]
      cases m <;> exact ⟨rfl, rfl⟩
    · obtain ⟨hs, ha⟩ := (hat i).corrupt (by rw [activeEntry_takenBy]; exact hc)
      rw [stagedEntry_takenBy] at hs
      rw [← hs, ← ha]
      cases m <;> exact ⟨rfl, rfl⟩
  · rw [discardTables_sound (tablesSound_takenBy hsound m)]
    cases m <;> rfl

/-! ## One setting -/

/-- DEADLINE-WRITE: the checks of R112 and the class that they give. -/
theorem checkDeadlineWrite_eq {cls mantissa scale : Byte} :
    (3 < cls.toNat → checkDeadlineWrite cls mantissa scale = .error 1) ∧
    (cls.toNat ≤ 3 → mantissa = 0 → checkDeadlineWrite cls mantissa scale = .error 2) ∧
    (cls.toNat ≤ 3 → mantissa ≠ 0 → 12 < scale.toNat → checkDeadlineWrite cls mantissa scale = .error 3) ∧
    (mantissa ≠ 0 → scale.toNat ≤ 12 → ∀ c : ClassId, c.val = cls.toNat →
      checkDeadlineWrite cls mantissa scale = .ok (c, ⟨mantissa.toNat, scale.toNat⟩)) := by
  have hclass (h : cls.toNat ≤ 3) : ∃ c, finOf 4 cls.toNat = some c := ⟨_, finOf_lt (by omega)⟩
  have hone (h : mantissa ≠ 0) : demand 2 (decide (1 ≤ mantissa.toNat)) = .ok () := by
    have hpos : 1 ≤ mantissa.toNat := Nat.one_le_iff_ne_zero.2 fun e => h (BitVec.eq_of_toNat_eq e)
    rw [decide_eq_true hpos]; rfl
  unfold checkDeadlineWrite
  refine ⟨fun h => ?_, fun h hm => ?_, fun h hm hs => ?_, fun hm hs c hc => ?_⟩
  · rw [finOf_none 4 _ h]; rfl
  · obtain ⟨c, hc⟩ := hclass h
    rw [hc, hm]; rfl
  · obtain ⟨c, hc⟩ := hclass h
    rw [hc, hone hm, decide_eq_false (Nat.not_le.2 hs)]; rfl
  · rw [finOf_val c _ hc, hone hm, decide_eq_true hs]; rfl

/-- Settles O28. -/
theorem quotaDeadlineAndActionWritten : Obligations.QuotaDeadlineAndActionWritten := by
  intro s m tag hfull
  refine ⟨fun q0 q1 h => ?_, fun cls mantissa scale h => ?_, fun source action h => ?_⟩
  · have hexec : exec (.quotaWrite m tag q0 q1) s = .next (opQuotaWrite m tag q0 q1 (s.takenBy m)) := exec_offered h hfull rfl
    rw [hexec]
    refine ⟨fun hbig => ?_, fun h0 h1 hsum => ?_, fun hfit => ?_⟩
    · rw [opQuotaWrite, if_pos (show Config.contextPool < q0.toNat ∨ Config.contextPool < q1.toNat from hbig), invalid_takenBy]
    · rw [opQuotaWrite, if_neg (show ¬ (Config.contextPool < q0.toNat ∨ Config.contextPool < q1.toNat) from
          not_or.2 ⟨Nat.not_lt.2 h0, Nat.not_lt.2 h1⟩), if_pos (show Config.contextPool < q0.toNat + q1.toNat from hsum),
        invalid_takenBy]
    · have hpool : Config.contextPool = 32 := rfl
      rw [opQuotaWrite, if_neg (by rw [hpool]; omega), if_neg (by rw [hpool]; omega)]
      cases m <;> rfl
  · have hexec : exec (.deadlineWrite m tag cls mantissa scale) s =
        .next (opDeadlineWrite m tag cls mantissa scale (s.takenBy m)) := exec_offered h hfull rfl
    obtain ⟨h1, h2, h3, hok⟩ := checkDeadlineWrite_eq (cls := cls) (mantissa := mantissa) (scale := scale)
    have hrefused {reason : Byte} (hc : checkDeadlineWrite cls mantissa scale = .error reason) :
        opDeadlineWrite m tag cls mantissa scale (s.takenBy m) = s.answered m (answerOf tag 0x0F .invalid [reason]) := by
      rw [opDeadlineWrite, hc]
      exact invalid_takenBy ..
    rw [hexec]
    refine ⟨fun hc => congrArg _ (hrefused (h1 hc)), fun hc hm => congrArg _ (hrefused (h2 hc hm)),
      fun hc hm hs => congrArg _ (hrefused (h3 hc hm hs)), fun hm hs c hc => ?_⟩
    rw [opDeadlineWrite, hok hm hs c hc]
    cases m <;> rfl
  · have hexec : exec (.actionWrite m tag source action) s = .next (opActionWrite m tag source action (s.takenBy m)) :=
      exec_offered h hfull rfl
    rw [hexec]
    refine ⟨fun hrange => ?_, fun hlow hhigh haction => ?_, fun x a hx ha => ?_⟩
    · rcases hrange with hzero | hbig
      · have e : source = 0 := BitVec.eq_of_toNat_eq (Nat.lt_one_iff.1 hzero)
        rw [e, opActionWrite, ← invalid_takenBy]; rfl
      · rw [opActionWrite, finOf_none 22 _ (by omega)]
        exact congrArg _ (invalid_takenBy ..)
    · have hne : source ≠ 0 := fun e => by rw [e] at hlow; exact absurd hlow (by decide)
      rw [opActionWrite, finOf_lt (show source.toNat - 1 < 22 by omega), (actionOf_eq_none_iff action).2 haction]
      dsimp only
      rw [if_neg hne, invalid_takenBy]
    · subst hx ha
      rw [opActionWrite, sourceIndex_of_code, actionOf_actionCode]
      dsimp only
      rw [if_neg (sourceCode_ne_zero x)]
      cases m <;> rfl

/-- Settles O29. -/
theorem rightsResumeAndRevive : Obligations.RightsResumeAndRevive := by
  intro s m tag
  refine ⟨fun rights h => ⟨fun hbad => ?_, fun v hv => ?_⟩, fun h hfull => ?_, fun target h hfull => ⟨fun hrange => ?_,
    fun t ht => ?_⟩⟩
  · rw [exec_offered h rfl rfl, perform, opRightsWrite, (rightsOf_eq_none_iff rights).2 hbad]
    exact congrArg _ (invalid_takenBy ..)
  · rw [exec_offered h rfl rfl, perform, opRightsWrite, ← hv, rightsOf_rightsCode]
    rfl
  · rw [exec_offered h hfull rfl, perform, opResume]
    cases m <;> rfl
  · rw [exec_offered h hfull rfl, perform, opRevive, targetOf_of_range hrange]
    exact congrArg _ (invalid_takenBy ..)
  · rw [exec_offered h hfull rfl, perform, opRevive, targetOf_targetId t _ ht]
    cases m <;> rfl

end Sys2Proof.Machine
end

section
/-! SUPPORT. RENEW and RELEASE (R133, R134), and the operations on the fault records and alert levels (R150, R152, R157,
R158), as the statements write them. -/

namespace Sys2Proof.Machine

/-! ## RENEW and RELEASE -/

theorem claim_takenBy (s : State) (m : Master) (k : ClaimId) : (s.takenBy m).claim k = s.claim k := by cases m <;> rfl

theorem ownClaim_takenBy (s : State) (m w : Master) (k : ClaimId) : (s.takenBy m).ownClaim w k = s.ownClaim w k := by
  unfold State.ownClaim; rw [claim_takenBy]

theorem ownClaim_none {s : State} {m : Master} {k : ClaimId} (h : ∀ c, s.claim k = some c → c.owner ≠ m) :
    s.ownClaim m k = none := by
  unfold State.ownClaim
  cases hc : s.claim k with
  | none => rfl
  | some c => exact if_neg (h c hc)

theorem ownClaim_some {s : State} {m : Master} {k : ClaimId} {c : Claim} (h : s.claim k = some c) (ho : c.owner = m) :
    s.ownClaim m k = some c := by
  unfold State.ownClaim
  rw [h]
  exact if_pos ho

section
variable (s : State) (m : Master) (tag : Byte) {claimId : Byte} {k : ClaimId} (hk : k.val = claimId.toNat)
include hk

theorem opRenew_noRecord (h : s.ownClaim m k = none) :
    opRenew m tag claimId s = s.answer m tag 0x11 .noRecord none [claimId, 0] := by
  rw [opRenew, finOf_val k _ hk]
  dsimp only
  rw [h]; rfl

theorem opRenew_draining {c : Claim} (h : s.ownClaim m k = some c) {t : Byte} {d : Time} (hc : c.state = .draining t d) :
    opRenew m tag claimId s = s.answer m tag 0x11 .ok none [claimId, 0] := by
  rw [opRenew, finOf_val k _ hk]
  dsimp only
  rw [h]
  dsimp only
  rw [hc]; rfl

theorem opRenew_held {c : Claim} (h : s.ownClaim m k = some c) {d : Option Time} (hc : c.state = .held d) :
    opRenew m tag claimId s =
      (s.setClaim k (some { c with state := .held (s.leaseDeadline c.lease) })).answer m tag 0x11 .ok none
        (renewFields claimId (s.leaseDeadline c.lease)) := by
  rw [opRenew, finOf_val k _ hk]
  dsimp only
  rw [h]
  dsimp only
  rw [hc]

theorem opRelease_noRecord (h : s.ownClaim m k = none) :
    opRelease m tag claimId s = s.answer m tag 0x12 .noRecord none [] := by
  rw [opRelease, finOf_val k _ hk]
  dsimp only
  rw [h]

theorem opRelease_draining {c : Claim} (h : s.ownClaim m k = some c) {t : Byte} {d : Time} (hc : c.state = .draining t d) :
    opRelease m tag claimId s =
      ((s.setClaim k none).fillSlot m (claimAnswer t .cancelled none [])).answer m tag 0x12 .ok none [] := by
  rw [opRelease, finOf_val k _ hk]
  dsimp only
  rw [h]
  dsimp only
  rw [hc]

theorem opRelease_held {c : Claim} (h : s.ownClaim m k = some c) {d : Option Time} (hc : c.state = .held d) :
    opRelease m tag claimId s = (s.setClaim k none).answer m tag 0x12 .ok none [] := by
  rw [opRelease, finOf_val k _ hk]
  dsimp only
  rw [h]
  dsimp only
  rw [hc]

end

/-- A claim is written in the taken state apart from the answer. -/
theorem answer_setClaim_takenBy (s : State) (m : Master) (k : ClaimId) (x : Option Claim) (tag code : Byte) (status : Status)
    (bytes : List Byte) :
    ((s.takenBy m).setClaim k x).answer m tag code status none bytes =
      (s.answered m (answerOf tag code status bytes)).setClaim k x := by cases m <;> rfl

theorem leaseDeadline_takenBy (s : State) (m : Master) (lease : BitVec 16) :
    (s.takenBy m).leaseDeadline lease = s.leaseDeadline lease := by cases m <;> rfl

/-- Settles O33. -/
theorem renewAndReleaseOwnClaims : Obligations.RenewAndReleaseOwnClaims := by
  intro s m tag claimId
  refine ⟨fun h => ?_, fun h => ?_⟩
  · have hexec : exec (.renew m tag claimId) s = .next (opRenew m tag claimId (s.takenBy m)) := exec_offered h trivial rfl
    rw [hexec]
    refine ⟨fun hbad => ?_, fun k hk => ⟨fun hnone => ?_, fun c hc hown => ?_⟩⟩
    · rw [opRenew, finOf_none 8 _ hbad, invalid_takenBy]
    · have hown := (ownClaim_takenBy s m m k).trans (ownClaim_none hnone)
      rw [opRenew_noRecord _ m tag hk hown, answerOf_takenBy]
    · have hown := (ownClaim_takenBy s m m k).trans (ownClaim_some hc hown)
      refine ⟨fun t d hd => ?_, fun d hd hlease => ?_, fun d hd hlease => ?_⟩
      · rw [opRenew_draining _ m tag hk hown hd, answerOf_takenBy]
      · have hnone : s.leaseDeadline c.lease = none := if_pos hlease
        rw [opRenew_held _ m tag hk hown hd, answer_setClaim_takenBy, leaseDeadline_takenBy, hnone]
        rfl
      · have hsome : s.leaseDeadline c.lease = some (s.timebase + BitVec.ofNat 32 (c.lease.toNat * 1000)) := if_neg hlease
        rw [opRenew_held _ m tag hk hown hd, answer_setClaim_takenBy, leaseDeadline_takenBy, hsome]
        rfl
  · have hexec : exec (.release m tag claimId) s = .next (opRelease m tag claimId (s.takenBy m)) := exec_offered h trivial rfl
    rw [hexec]
    refine ⟨fun hbad => ?_, fun k hk => ⟨fun hnone => ?_, fun c hc hown => ?_⟩⟩
    · rw [opRelease, finOf_none 8 _ hbad, invalid_takenBy]
    · have hown := (ownClaim_takenBy s m m k).trans (ownClaim_none hnone)
      rw [opRelease_noRecord _ m tag hk hown, answerOf_takenBy]
    · have hown := (ownClaim_takenBy s m m k).trans (ownClaim_some hc hown)
      refine ⟨fun d hd => ?_, fun t d hd => ?_⟩
      · rw [opRelease_held _ m tag hk hown hd, answer_setClaim_takenBy]
      · rw [opRelease_draining _ m tag hk hown hd]
        rfl

/-! ## The fault records and sources -/

theorem clearSources_at (s : State) (sources : BitVec 24) (i : Fin 22) :
    (s.clearSources sources).sources[i] =
      if sources.getLsbD (i.val + 1) = true then { s.sources[i] with latch := false, count := 0 } else s.sources[i] := by
  unfold State.clearSources
  simp only [Fin.getElem_fin, Vector.getElem_mapFinIdx]
  rfl

theorem opFaultPop_takenBy {s : State} {m : Master} (tag : Byte) {r : FaultRecord} {rest : List FaultRecord}
    (h : s.records = r :: rest) : opFaultPop m tag (s.takenBy m) =
      { s.answered m (answerOf tag 0x16 .ok (faultRecordFields r ++ [byteOf s.lostCount])) with
        records := rest, lostCount := 0 } := by
  have hr : (s.takenBy m).records = r :: rest := by rw [← h]; cases m <;> rfl
  rw [opFaultPop, hr]
  cases m <;> rfl

/-- Settles O34. -/
theorem faultPopAndClear : Obligations.FaultPopAndClear := by
  intro s m tag hfull
  refine ⟨fun h => ?_, fun sources h => ?_⟩
  · have hexec : exec (.faultPop m tag) s = .next (opFaultPop m tag (s.takenBy m)) := exec_offered h hfull rfl
    rw [hexec]
    refine ⟨fun hnil => ?_, fun r rest hr => congrArg _ (opFaultPop_takenBy tag hr)⟩
    have hr : (s.takenBy m).records = [] := by rw [← hnil]; cases m <;> rfl
    rw [opFaultPop, hr]
    cases m <;> rfl
  · have hexec : exec (.faultClear m tag sources) s = .next (opFaultClear m tag sources (s.takenBy m)) :=
      exec_offered h hfull rfl
    rw [hexec]
    refine ⟨fun hbad => ?_, fun h0 h23 => ⟨_, ?_, clearSources_at s sources⟩⟩
    · rw [opFaultClear, if_pos (by rwa [Bool.or_eq_true]), invalid_takenBy]
    · rw [opFaultClear, if_neg (by rw [h0, h23]; decide)]
      cases m <;> rfl

/-! ## Levels and the alert window -/

/-- LEVEL-WRITE: the checks of R158 and the levels that they give. -/
theorem checkLevelWrite_eq {master internal fabric link target floor : Byte} :
    (1 < master.toNat → checkLevelWrite master internal fabric link target floor = .error 1) ∧
    (master.toNat ≤ 1 → ¬ (internal.toNat ≤ 3 ∧ fabric.toNat ≤ 3 ∧ link.toNat ≤ 3 ∧ target.toNat ≤ 3) →
      checkLevelWrite master internal fabric link target floor = .error 2) ∧
    (master.toNat ≤ 1 → internal.toNat ≤ 3 ∧ fabric.toNat ≤ 3 ∧ link.toNat ≤ 3 ∧ target.toNat ≤ 3 → 3 < floor.toNat →
      checkLevelWrite master internal fabric link target floor = .error 3) ∧
    ∀ (w : Master) (i f l t fl : Fin 4), masterCode w = master → i.val = internal.toNat → f.val = fabric.toNat →
      l.val = link.toNat → t.val = target.toNat → fl.val = floor.toNat →
      checkLevelWrite master internal fabric link target floor = .ok (w, ⟨i, f, l, t⟩, fl) := by
  have hmaster (h : master.toNat ≤ 1) : ∃ w, masterOf master = some w :=
    Option.ne_none_iff_exists'.1 fun hn => Nat.not_lt.2 h ((masterOf_eq_none_iff master).1 hn)
  have hlevel {b : Byte} (h : b.toNat ≤ 3) : ∃ i, finOf 4 b.toNat = some i := ⟨_, finOf_lt (by omega)⟩
  unfold checkLevelWrite
  refine ⟨fun h => ?_, fun h hbad => ?_, fun h hlevels hfl => ?_, fun w i f l t fl hw hi hf hl ht hfl => ?_⟩
  · rw [(masterOf_eq_none_iff master).2 h]; rfl
  · obtain ⟨w, hw⟩ := hmaster h
    rw [hw]
    by_cases hi : internal.toNat ≤ 3
    · obtain ⟨i, hi'⟩ := hlevel hi
      rw [hi']
      by_cases hf : fabric.toNat ≤ 3
      · obtain ⟨f, hf'⟩ := hlevel hf
        rw [hf']
        by_cases hl : link.toNat ≤ 3
        · obtain ⟨l, hl'⟩ := hlevel hl
          rw [hl', finOf_none 4 _ (Nat.lt_of_not_le fun ht => hbad ⟨hi, hf, hl, ht⟩)]; rfl
        · rw [finOf_none 4 _ (Nat.lt_of_not_le hl)]; rfl
      · rw [finOf_none 4 _ (Nat.lt_of_not_le hf)]; rfl
    · rw [finOf_none 4 _ (Nat.lt_of_not_le hi)]; rfl
  · obtain ⟨w, hw⟩ := hmaster h
    obtain ⟨hi, hf, hl, ht⟩ := hlevels
    obtain ⟨i, hi⟩ := hlevel hi
    obtain ⟨f, hf⟩ := hlevel hf
    obtain ⟨l, hl⟩ := hlevel hl
    obtain ⟨t, ht⟩ := hlevel ht
    rw [hw, hi, hf, hl, ht, finOf_none 4 _ hfl]; rfl
  · rw [← hw, masterOf_masterCode, finOf_val i _ hi, finOf_val f _ hf, finOf_val l _ hl, finOf_val t _ ht, finOf_val fl _ hfl]
    rfl

theorem alert_takenBy (s : State) (m w : Master) : (s.takenBy m).alert w = s.alert w := by cases m <;> cases w <;> rfl

/-- Settles O35. -/
theorem levelWriteAndAlertAck : Obligations.LevelWriteAndAlertAck := by
  intro s m tag
  refine ⟨fun master internal fabric link target floor h hfull hown => ?_, fun h => ?_⟩
  · have hexec : exec (.levelWrite m tag master internal fabric link target floor) s =
        .next (opLevelWrite m tag master internal fabric link target floor (s.takenBy m)) := exec_offered h ⟨hfull, hown⟩ rfl
    obtain ⟨h1, h2, h3, hok⟩ := checkLevelWrite_eq (master := master) (internal := internal) (fabric := fabric)
      (link := link) (target := target) (floor := floor)
    have hrefused {reason : Byte} (hc : checkLevelWrite master internal fabric link target floor = .error reason) :
        opLevelWrite m tag master internal fabric link target floor (s.takenBy m) =
          s.answered m (answerOf tag 0x19 .invalid [reason]) := by
      rw [opLevelWrite, hc]
      exact invalid_takenBy ..
    rw [hexec]
    refine ⟨fun hm => congrArg _ (hrefused (h1 hm)), fun hm hbad => congrArg _ (hrefused (h2 hm hbad)),
      fun hm hlevels hfl => congrArg _ (hrefused (h3 hm hlevels hfl)), fun w i f l t fl hw hi hf hl ht hfl => ?_⟩
    rw [opLevelWrite, hok w i f l t fl hw hi hf hl ht hfl]
    dsimp only
    rw [alert_takenBy]
    rfl
  · have hexec : exec (.alertAck m tag) s = .next (opAlertAck m tag (s.takenBy m)) := exec_offered h trivial rfl
    rw [hexec]
    refine ⟨fun hfree => ?_, fun hbusy => ?_⟩
    · rw [opAlertAck, alert_takenBy, hfree, if_neg Bool.false_ne_true, answerOf_takenBy]
    · have hport : (s.takenBy m).freeWindow m = ((s.takenBy m).setAlert m { s.alert m with busy := false }).setPort m
          { (s.takenBy m).port m with alertReady := none } := by
        rw [State.freeWindow, alert_takenBy]
        cases m <;> rfl
      rw [opAlertAck, alert_takenBy, hbusy, if_pos rfl, hport]
      rfl

end Sys2Proof.Machine
end

section
/-! SUPPORT. LANE-CONTROL (R102), as the statements write it. -/

namespace Sys2Proof.Machine

/-- An action of LANE-CONTROL on a lane that exists. -/
theorem exec_laneAction {s : State} {m : Master} {tag lane action : Byte} {l : LaneId} {f : State → LaneId → State × Status}
    {i : Instr} (h : Offered s m tag (.laneControl lane action)) (hfull : s.rights m = .full) (hl : l.val = lane.toNat)
    (hf : laneAction action = some f) (hrow : rowOf m tag (.laneControl lane action) = some i) :
    exec i s = .next ((f (s.takenBy m) l).1.fillSlot m (answerOf tag 0x0D (f (s.takenBy m) l).2 [])) := by
  rw [exec_row hrow, happens_laneControl_offered h hfull, opLaneControl_lane _ m tag hl hf]
  rfl

theorem exec_laneAction_noLane {s : State} {m : Master} {tag lane action : Byte} {i : Instr}
    (h : Offered s m tag (.laneControl lane action)) (hfull : s.rights m = .full)
    (hrow : rowOf m tag (.laneControl lane action) = some i) (hlane : 11 < lane.toNat) :
    exec i s = .next (s.answered m (answerOf tag 0x0D .invalid [1])) := by
  rw [exec_row hrow, happens_laneControl_noLane h hfull hlane]

/-! ## The actions by the state of the lane -/

section
variable {s : State} {l : LaneId}

theorem retrainLane_disabled (h : (s.lane l).state = .disabled) : s.retrainLane l = (s, .ok) := by
  rw [State.retrainLane, h]

theorem retrainLane_fenced (h : (s.lane l).state = .fenced) : s.retrainLane l = (s, .conflict) := by
  rw [State.retrainLane, h]

theorem retrainLane_up (h : (s.lane l).state = .up) : s.retrainLane l = ((s.endLaneWork l).trainLane l, .ok) := by
  rw [State.retrainLane, h]

theorem retrainLane_idle (h : (s.lane l).state = .training ∨ (s.lane l).state = .down) :
    s.retrainLane l = (s.trainLane l, .ok) := by
  rcases h with h | h <;> rw [State.retrainLane, h]

theorem fenceCommand_disabled (h : (s.lane l).state = .disabled) : s.fenceCommand l = (s, .conflict) := by
  rw [State.fenceCommand, h]

theorem fenceCommand_enabled (h : (s.lane l).state ≠ .disabled) : s.fenceCommand l = (s.fenceLane l, .ok) := by
  unfold State.fenceCommand
  split
  next e => exact absurd e h
  next => rfl

theorem fenceLane_fenced (h : (s.lane l).state = .fenced) : s.fenceLane l = s := by
  unfold State.fenceLane
  dsimp only
  rw [h]

theorem fenceLane_training (h : (s.lane l).state = .training) :
    s.fenceLane l = s.setLane l ((s.lane l).quiet .fenced (s.lane l).retryTime) := by
  unfold State.fenceLane
  dsimp only
  rw [h]
  rfl

theorem fenceLane_down (h : (s.lane l).state = .down) : s.fenceLane l = s.setLane l ((s.lane l).quiet .fenced none) := by
  unfold State.fenceLane
  dsimp only
  rw [h]
  rfl

theorem unfenceLane_fenced (h : (s.lane l).state = .fenced) :
    s.unfenceLane l = ((s.endLaneWork l).trainLane l, .ok) := by
  rw [State.unfenceLane, h]

theorem unfenceLane_notFenced (h : (s.lane l).state ≠ .fenced) : s.unfenceLane l = (s, .ok) := by
  unfold State.unfenceLane
  split
  next e => exact absurd e h
  next => rfl

theorem enableLane_disabled (h : (s.lane l).state = .disabled) :
    s.enableLane l = ((s.setLane l { s.lane l with enabled := true }).trainLane l, .ok) := by
  rw [State.enableLane, h]
  rfl

theorem enableLane_enabled (h : (s.lane l).state ≠ .disabled) : s.enableLane l = (s, .ok) := by
  unfold State.enableLane
  split
  next e => exact absurd e h
  next => rfl

/-- A lane after DISABLE (R84, R102). -/
def Lane.disabled (x : Lane) : Lane := { x.quiet .disabled none with enabled := false, receiver := .hunting }

theorem disableLane_disabled (h : (s.lane l).state = .disabled) : s.disableLane l = (s, .ok) := by
  rw [State.disableLane, h]

theorem disableLane_down (h : (s.lane l).state = .down) :
    s.disableLane l = (s.setLane l (s.lane l).disabled, .ok) := by
  rw [State.disableLane, h]
  rfl

theorem disableLane_working (h : (s.lane l).state = .training ∨ (s.lane l).state = .up ∨ (s.lane l).state = .fenced) :
    s.disableLane l = ((s.endLaneWork l).setLane l ((s.endLaneWork l).lane l).disabled, .ok) := by
  rcases h with h | h | h <;> rw [State.disableLane, h] <;> rfl

end

theorem laneAction_none {action : Byte} (h : 6 < action.toNat) : laneAction action = none := by
  unfold laneAction
  split
  case h_8 => rfl
  all_goals omega

theorem opLaneControl_noAction (s : State) (m : Master) (tag : Byte) {lane action : Byte} (h : 6 < action.toNat) :
    opLaneControl m tag lane action s = s.invalid m tag 0x0D (if 11 < lane.toNat then 1 else 2) := by
  by_cases hlane : 11 < lane.toNat
  · rw [opLaneControl_noLane s m tag action hlane, if_pos hlane]
  · rw [opLaneControl, finOf_lt (show lane.toNat < 12 by omega), laneAction_none h, if_neg hlane]

/-- Settles O30. -/
theorem laneControlFollowsItsTable : Obligations.LaneControlFollowsItsTable := by
  intro s m tag lane hfull code refused does u trained disabled
  have hstate : ∀ l, (u.lane l).state = (s.lane l).state := fun l => by rw [lane_takenBy]
  refine ⟨fun h => ⟨exec_laneAction_noLane h hfull rfl, fun l hl => ?_⟩,
    fun h => ⟨exec_laneAction_noLane h hfull rfl, fun l hl => ?_⟩,
    fun h => ⟨exec_laneAction_noLane h hfull rfl, fun l hl => ?_⟩,
    fun h => ⟨exec_laneAction_noLane h hfull rfl, fun l hl => ?_⟩,
    fun h => ⟨exec_laneAction_noLane h hfull rfl, fun l hl => ?_⟩, fun action haction h => ?_⟩
  · have hexec : exec (.retrain m tag lane) s = .next ((u.retrainLane l).1.fillSlot m (answerOf tag 0x0D (u.retrainLane l).2 [])) :=
      exec_laneAction h hfull hl rfl rfl
    cases hst : (s.lane l).state <;> have hu := (hstate l).trans hst <;> change exec _ s = _ <;> rw [hexec]
    · rw [retrainLane_disabled hu]
    · rw [retrainLane_idle (.inl hu), trainLane_eq]
    · rw [retrainLane_up hu, trainLane_eq]
    · rw [retrainLane_fenced hu]
    · rw [retrainLane_idle (.inr hu), trainLane_eq]
  · have hexec : exec (.fence m tag lane) s = .next ((u.fenceCommand l).1.fillSlot m (answerOf tag 0x0D (u.fenceCommand l).2 [])) :=
      exec_laneAction h hfull hl rfl rfl
    cases hst : (s.lane l).state <;> have hu := (hstate l).trans hst <;> change exec _ s = _ <;> rw [hexec]
    · rw [fenceCommand_disabled hu]
    all_goals rw [fenceCommand_enabled (by rw [hu]; decide)]
    · rw [fenceLane_training hu, lane_takenBy]
    · rw [fenceLane_fenced hu]
    · rw [fenceLane_down hu, lane_takenBy]
  · have hexec : exec (.unfence m tag lane) s = .next ((u.unfenceLane l).1.fillSlot m (answerOf tag 0x0D (u.unfenceLane l).2 [])) :=
      exec_laneAction h hfull hl rfl rfl
    cases hst : (s.lane l).state <;> have hu := (hstate l).trans hst <;> change exec _ s = _ <;> rw [hexec]
    case fenced => rw [unfenceLane_fenced hu, trainLane_eq]
    all_goals rw [unfenceLane_notFenced (by rw [hu]; decide)]
  · have hexec : exec (.enable m tag lane) s = .next ((u.enableLane l).1.fillSlot m (answerOf tag 0x0D (u.enableLane l).2 [])) :=
      exec_laneAction h hfull hl rfl rfl
    cases hst : (s.lane l).state <;> have hu := (hstate l).trans hst <;> change exec _ s = _ <;> rw [hexec]
    case disabled => rw [enableLane_disabled hu, trainLane_eq, lane_takenBy]
    all_goals rw [enableLane_enabled (by rw [hu]; decide)]
  · have hexec : exec (.disable m tag lane) s = .next ((u.disableLane l).1.fillSlot m (answerOf tag 0x0D (u.disableLane l).2 [])) :=
      exec_laneAction h hfull hl rfl rfl
    cases hst : (s.lane l).state <;> have hu := (hstate l).trans hst <;> change exec _ s = _ <;> rw [hexec]
    · rw [disableLane_disabled hu]
    · rw [disableLane_working (.inl hu)]; rfl
    · rw [disableLane_working (.inr (.inl hu))]; rfl
    · rw [disableLane_working (.inr (.inr hu))]; rfl
    · rw [disableLane_down hu]; rfl
  · rw [← happens_hubEvent h, happens_laneControl_offered h hfull, opLaneControl_noAction _ m tag haction, invalid_takenBy]

end Sys2Proof.Machine
end

section
/-! SUPPORT. CLAIM (R123 to R128), as the statements write it. -/

namespace Sys2Proof.Machine

/-! ## The parameters (R123) -/

/-- The number names nothing of the kind. -/
def ScopeOutOfRange (kind number : Byte) : Prop :=
  (kind = 0 ∧ (number.toNat < 1 ∨ 63 < number.toNat)) ∨ (kind = 1 ∧ 15 < number.toNat)

theorem byte_le_one {b : Byte} (h : b.toNat ≤ 1) : b = 0 ∨ b = 1 := by
  revert b; decide

section
variable {kind number : Byte} {drain : BitVec 16}

theorem checkClaim_kind (h : 1 < kind.toNat) : checkClaim kind number drain = .error 1 := by
  unfold checkClaim
  rw [(boolOf_eq_none_iff kind).2 h]; rfl

theorem checkClaim_range (h : ScopeOutOfRange kind number) : checkClaim kind number drain = .error 2 := by
  unfold checkClaim
  rcases h with ⟨rfl, h⟩ | ⟨rfl, h⟩
  · have hkind : boolOf 0 = some false := rfl
    rw [hkind, targetOf_of_range h]; rfl
  · have hkind : boolOf 1 = some true := rfl
    rw [hkind, if_neg (Nat.not_le.2 h)]; rfl

theorem checkClaim_target {t : Target} (h : targetId t = number.toNat) :
    checkClaim 0 number drain = (do demand 3 (1 ≤ drain.toNat && drain.toNat ≤ 1000); return Scope.target t) := by
  have hkind : boolOf 0 = some false := rfl
  unfold checkClaim
  rw [hkind, targetOf_targetId t _ h]; rfl

theorem checkClaim_group (h : number.toNat ≤ 15) :
    checkClaim 1 number drain = (do demand 3 (1 ≤ drain.toNat && drain.toNat ≤ 1000); return Scope.group number.toNat) := by
  have hkind : boolOf 1 = some true := rfl
  unfold checkClaim
  rw [hkind, if_pos h]; rfl

theorem targetOf_inRange {n : Nat} (hlow : 1 ≤ n) (hhigh : n ≤ 63) : ∃ t, targetId t = n :=
  ⟨⟨n - 1, by omega⟩, Nat.sub_add_cancel hlow⟩

theorem checkClaim_drain (hkind : kind.toNat ≤ 1) (hrange : ¬ ScopeOutOfRange kind number)
    (h : drain.toNat < 1 ∨ 1000 < drain.toNat) : checkClaim kind number drain = .error 3 := by
  have hbad : (decide (1 ≤ drain.toNat) && decide (drain.toNat ≤ 1000)) = false := by
    rw [← Bool.not_eq_true, Bool.and_eq_true, decide_eq_true_iff, decide_eq_true_iff]; omega
  rcases byte_le_one hkind with rfl | rfl
  · obtain ⟨t, ht⟩ : ∃ t, targetId t = number.toNat := by
      refine targetOf_inRange (Nat.le_of_not_lt fun e => hrange (.inl ⟨rfl, .inl e⟩)) (Nat.le_of_not_lt fun e => hrange (.inl ⟨rfl, .inr e⟩))
    rw [checkClaim_target ht, hbad]; rfl
  · rw [checkClaim_group (Nat.le_of_not_lt fun e => hrange (.inr ⟨rfl, e⟩)), hbad]; rfl

end

/-! ## The scope (R125) -/

/-- The entries that a CLAIM reads. -/
def scopeReads (kind number : Byte) : List Target :=
  if kind = 0 then allTargets.filter (fun t => targetId t = number.toNat) else allTargets

theorem filter_targetId {n : Nat} {t : Target} (h : targetId t = n) : allTargets.filter (fun u => targetId u = n) = [t] := by
  have hid : (fun u : Target => decide (targetId u = n)) = fun u => u == t := funext fun u => by
    rw [← h, Bool.eq_iff_iff, decide_eq_true_iff, beq_iff_eq]
    exact ⟨fun e => Fin.ext (Nat.succ_injective e), fun e => by rw [e]⟩
  have hcount : List.count t allTargets = 1 := List.count_eq_one_of_mem (List.nodup_finRange 63) (List.mem_finRange t)
  rw [hid, List.filter_beq, hcount]
  rfl

/-- The members of a scope with their entries. -/
def State.memberEntries (s : State) (ts : List Target) : List (Target × DirEntry) :=
  ts.map fun t => (t, (s.activeEntry t).entry)

theorem memberEntries_targets (s : State) (ts : List Target) : (s.memberEntries ts).map Prod.fst = ts := by
  unfold State.memberEntries
  rw [List.map_map]
  exact List.map_id _

theorem memberEntries_eq_nil (s : State) (ts : List Target) : s.memberEntries ts = [] ↔ ts = [] := List.map_eq_nil_iff

/-- The check of the parameters gives the scope that the reads resolve. -/
theorem checkClaim_resolves {kind number : Byte} {drain : BitVec 16}
    (hscope : (kind = 0 ∧ 1 ≤ number.toNat ∧ number.toNat ≤ 63) ∨ (kind = 1 ∧ number.toNat ≤ 15)) (hlow : 1 ≤ drain.toNat)
    (hhigh : drain.toNat ≤ 1000) : ∃ scope, checkClaim kind number drain = .ok scope ∧ ∀ s : State,
      s.resolveScope scope = (s.readAll (scopeReads kind number),
        (s.readAll (scopeReads kind number)).memberEntries ((s.readAll (scopeReads kind number)).scopeMembers kind number)) := by
  have hdrain : (decide (1 ≤ drain.toNat) && decide (drain.toNat ≤ 1000)) = true := by
    rw [decide_eq_true hlow, decide_eq_true hhigh]; rfl
  rcases hscope with ⟨rfl, h1, h63⟩ | ⟨rfl, h15⟩
  · obtain ⟨t, ht⟩ := targetOf_inRange h1 h63
    refine ⟨.target t, by rw [checkClaim_target ht, hdrain]; rfl, fun s => ?_⟩
    have hreads : scopeReads 0 number = [t] := filter_targetId ht
    rw [hreads, State.resolveScope, scanActive_eq [t] s (List.nodup_singleton t)]
    refine Prod.ext rfl ?_
    generalize s.readAll [t] = f
    have hmembers : f.scopeMembers 0 number = [t].filter (fun u => (f.activeEntry u).entry.present) := by
      rw [← filter_targetId ht, List.filter_filter]
      rfl
    rw [hmembers]
    cases hp : (f.activeEntry t).entry.present <;> simp [State.memberEntries, hp]
  · refine ⟨.group number.toNat, by rw [checkClaim_group h15, hdrain]; rfl, fun s => ?_⟩
    have hreads : scopeReads 1 number = allTargets := rfl
    rw [hreads, State.resolveScope, groupMembers_eq]
    refine Prod.ext rfl ?_
    generalize s.readAll allTargets = f
    have hmembers : f.scopeMembers 1 number = f.membersOf number.toNat := by
      have h : (number == 15) = (number.toNat == 15) := by
        rw [Bool.eq_iff_iff, beq_iff_eq, beq_iff_eq]
        exact ⟨fun e => by rw [e]; rfl, fun e => BitVec.eq_of_toNat_eq e⟩
      unfold State.scopeMembers State.membersOf
      rw [h]
      rfl
    rw [hmembers]
    rfl

/-! ## The checks of the members (R124) -/

theorem find?_filter_of_least {n : Nat} {q p : Fin n → Bool} {i : Fin n}
    (h : Least (fun t => t ∈ (List.finRange n).filter q ∧ p t = true) i) :
    ((List.finRange n).filter q).find? p = some i := by
  rw [List.find?_filter]
  refine find?_of_least _ i ((least_congr (fun t => ?_) i).1 h)
  simp

theorem findSome?_of_find? {α β : Type} {f : α → Option β} {xs : List α} {x : α}
    (h : xs.find? (fun y => (f y).isSome) = some x) : xs.findSome? f = f x := by
  induction xs with
  | nil => cases h
  | cons y ys ih =>
    rw [List.find?_cons] at h
    rw [List.findSome?_cons]
    cases hy : f y with
    | none => rw [hy] at h; exact ih h
    | some b => rw [hy] at h; cases h; exact hy.symm

section
variable {s : State} {m : Master} {ts : List Target} {q : Target → Bool} (hts : ts = allTargets.filter q)
include hts

theorem judgeClaim_denied {t : Target} (h : Least (fun t => t ∈ ts ∧ (s.activeEntry t).entry.access m ≠ .readWrite) t) :
    s.judgeClaim m (s.memberEntries ts) = .denied t := by
  have hfind : ts.find? (fun t => (s.activeEntry t).entry.access m != .readWrite) = some t := by
    subst hts
    exact find?_filter_of_least ((least_congr (fun i => and_congr_right fun _ => (bne_iff_ne).symm) t).1 h)
  have hpair : (s.memberEntries ts).find? (fun p => p.2.access m != .readWrite) = some (t, (s.activeEntry t).entry) := by
    unfold State.memberEntries
    rw [List.find?_map]
    exact congrArg (Option.map _) hfind
  rw [State.judgeClaim, hpair]

theorem claimClash_of_least {w : Master} {t : Target} {k : ClaimId} (ht : Least (fun t => t ∈ ts ∧ s.Claimed w t) t)
    (hk : Least (fun k => ∃ c, s.claim k = some c ∧ c.owner = w ∧ t ∈ c.members) k) :
    s.claimClash w ts = some (t, k) := by
  have hover : s.claimOver w t = some k := by
    refine find?_of_least _ k ((least_congr (fun i => ?_) k).1 hk)
    cases s.claim i with
    | none => simp
    | some c => simp
  have hfind : ts.find? (fun t => ((s.claimOver w t).map fun k => (t, k)).isSome) = some t := by
    subst hts
    refine find?_filter_of_least ((least_congr (fun i => ?_) t).1 ht)
    rw [Option.isSome_map, claimOver_isSome_iff]
    rfl
  unfold State.claimClash
  rw [findSome?_of_find? hfind, hover]
  rfl

end

theorem claimClash_none {s : State} {w : Master} {ts : List Target} (h : ¬ ∃ t ∈ ts, s.Claimed w t) : s.claimClash w ts = none := by
  refine List.findSome?_eq_none_iff.2 fun t ht => ?_
  rw [Option.map_eq_none_iff, ← Option.not_isSome_iff_eq_none, claimOver_isSome_iff]
  exact fun hc => h ⟨t, ht, hc⟩

section
variable {s : State} {m : Master} {ts : List Target} (hwrites : ∀ t ∈ ts, (s.activeEntry t).entry.access m = .readWrite)
include hwrites

/-- Past check 3, checks 4 to 6 decide. -/
theorem judgeClaim_writes : s.judgeClaim m (s.memberEntries ts) =
    match s.claimClash m.other ts with
    | some (t, k) => .conflict t k
    | none =>
      match s.claimClash m ts with
      | some (t, k) => .overlap t k
      | none =>
        match s.freeClaim with
        | none => .busy
        | some k => .create k := by
  have hnone : (s.memberEntries ts).find? (fun p => p.2.access m != .readWrite) = none := by
    refine List.find?_eq_none.2 fun p hp => ?_
    obtain ⟨t, ht, rfl⟩ := List.mem_map.1 hp
    simp [hwrites t ht]
  rw [State.judgeClaim, hnone, memberEntries_targets] <;> rfl

theorem judgeClaim_conflict {t : Target} {k : ClaimId} (h : s.claimClash m.other ts = some (t, k)) :
    s.judgeClaim m (s.memberEntries ts) = .conflict t k := by
  rw [judgeClaim_writes hwrites, h]

theorem judgeClaim_overlap {t : Target} {k : ClaimId} (hother : s.claimClash m.other ts = none)
    (h : s.claimClash m ts = some (t, k)) : s.judgeClaim m (s.memberEntries ts) = .overlap t k := by
  rw [judgeClaim_writes hwrites, hother, h]

theorem judgeClaim_busy (hother : s.claimClash m.other ts = none) (hown : s.claimClash m ts = none)
    (h : ∀ k, s.claim k ≠ none) : s.judgeClaim m (s.memberEntries ts) = .busy := by
  have hfree : s.freeClaim = none := List.find?_eq_none.2 fun k _ => by simp [h k]
  rw [judgeClaim_writes hwrites, hother, hown, hfree]

theorem judgeClaim_free {k : ClaimId} (hother : s.claimClash m.other ts = none) (hown : s.claimClash m ts = none)
    (h : Least (fun k => s.claim k = none) k) : s.judgeClaim m (s.memberEntries ts) = .create k := by
  have hfree : s.freeClaim = some k := find?_of_least _ k ((least_congr (fun i => by simp) k).2 h)
  rw [judgeClaim_writes hwrites, hother, hown, hfree]

end

/-! ## The claim record (R126, R128) -/

theorem setClaim_setClaim (s : State) (k : ClaimId) (x y : Option Claim) : (s.setClaim k x).setClaim k y = s.setClaim k y := by
  unfold State.setClaim
  rw [Vector.set_set]

theorem fillSlot_setClaim (s : State) (k : ClaimId) (x : Option Claim) (m : Master) (r : Response) :
    (s.setClaim k x).fillSlot m r = (s.fillSlot m r).setClaim k x := by cases m <;> rfl

/-- A DRAINING record as a CLAIM creates it. -/
def State.draining (s : State) (m : Master) (tag : Byte) (ts : List Target) (lease drain : BitVec 16) : Claim :=
  ⟨m, ts, lease, .draining tag (s.after (drain.toNat * 1000)), s.generation⟩

section
variable {s : State} {m : Master} (tag : Byte) (k : ClaimId) {ts : List Target} (lease drain : BitVec 16)

theorem createClaim_drains (h : ∃ t ∈ ts, s.inFlight m.other t ≠ 0) :
    s.createClaim m tag k ts lease drain = s.setClaim k (some (s.draining m tag ts lease drain)) := by
  refine if_neg fun hd => ?_
  obtain ⟨t, ht, hne⟩ := h
  have h0 := List.all_eq_true.1 hd t ht
  exact hne (beq_iff_eq.1 h0)

theorem createClaim_granted (h : ∀ t ∈ ts, s.inFlight m.other t = 0) :
    s.createClaim m tag k ts lease drain =
      (s.fillSlot m (claimAnswer tag .ok (some s.generation) (byteOf k.val :: byteOf ts.length :: ts.map idByte))).setClaim k
        (some ⟨m, ts, lease, .held (s.leaseDeadline lease), s.generation⟩) := by
  have hdrained : (s.setClaim k (some (s.draining m tag ts lease drain))).drained (s.draining m tag ts lease drain) = true :=
    List.all_eq_true.2 fun t ht => beq_iff_eq.2 (h t ht)
  have hgrant : s.createClaim m tag k ts lease drain = (s.setClaim k (some (s.draining m tag ts lease drain))).grantClaim k :=
    if_pos hdrained
  have hfields : grantFields k (s.draining m tag ts lease drain) = byteOf k.val :: byteOf ts.length :: ts.map idByte := by
    have hflat : (ts.map fun t => [idByte t]).flatten = ts.map idByte := by
      rw [← List.flatMap_def, List.map_eq_flatMap]
    unfold grantFields listField
    rw [List.length_map]
    exact congrArg (fun bytes => byteOf k.val :: byteOf ts.length :: bytes) hflat
  rw [hgrant, State.grantClaim, State.claim_setClaim_same]
  dsimp only [State.draining]
  rw [setClaim_setClaim, fillSlot_setClaim]
  rw [← hfields]
  rfl

end

/-! ## The claim as a whole -/

/-- What a take and the reads of a CLAIM leave alone. -/
structure ClaimsAs (s : State) (m : Master) (f : State) : Prop where
  claim      : ∀ k, f.claim k = s.claim k
  claimed    : ∀ w t, f.Claimed w t ↔ s.Claimed w t
  inFlight   : ∀ t, f.inFlight m.other t = s.inFlight m.other t
  generation : f.generation = s.generation
  timebase   : f.timebase = s.timebase

theorem claimsAs_found (s : State) (m : Master) (ts : List Target) : ClaimsAs s m ((s.takenBy m).readAll ts) := by
  have h := readAll_reports (s.takenBy m) ts
  have hcount := readAll_inFlight (s.takenBy m) ts m.other
  generalize (s.takenBy m).readAll ts = f at h hcount
  refine ⟨fun k => (h.claim k).trans (claim_takenBy s m k), fun w t => (h.claimed w t).trans ?_,
    fun t => (hcount t).trans (inFlight_takenBy s m m.other t), h.generation.trans (generation_takenBy s m), ?_⟩
  · unfold State.Claimed; simp only [claim_takenBy]
  · rw [h]; cases m <;> rfl

theorem opClaim_error {kind number : Byte} {drain : BitVec 16} {reason : Byte} (s : State) (m : Master) (tag : Byte)
    (lease : BitVec 16) (h : checkClaim kind number drain = .error reason) :
    opClaim m tag kind number lease drain (s.takenBy m) = s.answered m (answerOf tag 0x10 .invalid [reason]) := by
  rw [opClaim, h]
  exact fillSlot_takenBy ..

section
variable {s f : State} {m : Master} {tag kind number : Byte} {lease drain : BitVec 16} {scope : Scope} {ts : List Target}
  (hcheck : checkClaim kind number drain = .ok scope) (hrun : s.hub ≠ .setup)
  (hresolve : s.resolveScope scope = (f, f.memberEntries ts))
include hcheck hrun hresolve

theorem opClaim_empty (h : ts = []) : opClaim m tag kind number lease drain s = f.answerClaim m tag .empty [] := by
  rw [opClaim, hcheck]
  dsimp only
  rw [if_neg hrun, hresolve]
  exact if_pos ((memberEntries_eq_nil f ts).2 h)

theorem opClaim_judged (h : ts ≠ []) : opClaim m tag kind number lease drain s =
    f.concludeClaim m tag ts lease drain (f.judgeClaim m (f.memberEntries ts)) := by
  rw [opClaim, hcheck]
  dsimp only
  rw [if_neg hrun, hresolve]
  refine (if_neg (mt (memberEntries_eq_nil f ts).1 h)).trans ?_
  rw [memberEntries_targets]

end

/-- Settles O32. -/
theorem claimFollowsItsChecks : Obligations.ClaimFollowsItsChecks := by
  intro s m tag kind number lease drain h becomes refused outOfRange
  have hexec : exec (.claim m tag kind number lease drain) s = .next (opClaim m tag kind number lease drain (s.takenBy m)) :=
    exec_offered h trivial rfl
  have herror {reason : Byte} (hc : checkClaim kind number drain = .error reason) : refused reason := by
    change exec _ s = _
    rw [hexec, opClaim_error s m tag lease hc]
  refine ⟨fun hkind => herror (checkClaim_kind hkind), fun hrange => herror (checkClaim_range hrange),
    fun hkind hrange hdrain => herror (checkClaim_drain hkind hrange hdrain), fun hscope hlow hhigh => ?_⟩
  intro found members answers writes heldBy
  obtain ⟨scope, hcheck, hresolve⟩ := checkClaim_resolves hscope hlow hhigh
  replace hresolve : (s.takenBy m).resolveScope scope = (found, found.memberEntries members) := hresolve (s.takenBy m)
  have hasked : ClaimsAs s m found := claimsAs_found s m _
  refine ⟨fun hsetup => ?_, fun hsound => ?_, fun hrun => ?_⟩
  · change exec _ s = _
    rw [hexec, opClaim, hcheck]
    dsimp only
    rw [if_pos (by rw [hub_takenBy]; exact hsetup), State.answerClaim, generation_takenBy, fillSlot_takenBy]
    rfl
  · have hfound : found = s.takenBy m := found_sound hsound m _
    refine ⟨hfound, ?_, fun a => by rw [hfound, fillSlot_takenBy]⟩
    change found.scopeMembers kind number = _
    rw [hfound]
    unfold State.scopeMembers
    simp only [activeEntry_takenBy]
  · have hrun' : (s.takenBy m).hub ≠ .setup := by rw [hub_takenBy]; exact hrun
    have hempty := opClaim_empty (m := m) (tag := tag) (lease := lease) hcheck hrun' hresolve
    have hjudged := opClaim_judged (m := m) (tag := tag) (lease := lease) hcheck hrun' hresolve
    have hfilter : ∃ q, members = allTargets.filter q := ⟨_, rfl⟩
    change exec (.claim m tag kind number lease drain) s = .next _ at hexec
    clear_value found members
    obtain ⟨q, hfilter⟩ := hfilter
    have hanswers {status : Status} {bytes : List Byte}
        (he : opClaim m tag kind number lease drain (s.takenBy m) = found.answerClaim m tag status bytes) :
        answers status bytes := by
      change exec _ s = _
      rw [hexec, he, State.answerClaim, hasked.generation]
      rfl
    have hclash {w : Master} {t : Target} {k : ClaimId} (ht : Least (fun t => t ∈ members ∧ s.Claimed w t) t)
        (hk : Least (fun k => ∃ c, s.claim k = some c ∧ c.owner = w ∧ t ∈ c.members) k) :
        found.claimClash w members = some (t, k) :=
      claimClash_of_least hfilter ((least_congr (fun i => by rw [hasked.claimed]) t).2 ht)
        ((least_congr (fun i => by rw [hasked.claim]) k).2 hk)
    have hfree {w : Master} (hw : ¬ heldBy w) : found.claimClash w members = none :=
      claimClash_none fun ⟨t, ht, hc⟩ => hw ⟨t, ht, (hasked.claimed w t).1 hc⟩
    refine ⟨fun hnil => hanswers (hempty hnil), fun t ht => ?_, fun hne hw t k ht hk => ?_, fun hne hw hother t k ht hk => ?_,
      fun hne hw hother hown => ⟨fun hfull => ?_, fun k hk => ?_⟩⟩
    · refine hanswers ?_
      rw [hjudged (List.ne_nil_of_mem ht.1.1), judgeClaim_denied hfilter ht]
      rfl
    · refine hanswers ?_
      rw [hjudged hne, judgeClaim_conflict hw (hclash ht hk)]
      rfl
    · refine hanswers ?_
      rw [hjudged hne, judgeClaim_overlap hw (hfree hother) (hclash ht hk)]
      rfl
    · refine hanswers ?_
      rw [hjudged hne, judgeClaim_busy hw (hfree hother) (hfree hown) (fun k => by rw [hasked.claim]; exact hfull k)]
      rfl
    · have hleast : Least (fun k => found.claim k = none) k := (least_congr (fun i => by rw [hasked.claim]) k).2 hk
      have hcreate : opClaim m tag kind number lease drain (s.takenBy m) =
          found.createClaim m tag k members lease drain := by
        rw [hjudged hne, judgeClaim_free hw (hfree hother) (hfree hown) hleast]
        rfl
      refine ⟨fun hzero => ?_, fun hbusy => ?_⟩
      · have hgrant := createClaim_granted tag k lease drain (s := found) (m := m) (ts := members)
          fun t ht => (hasked.inFlight t).trans (hzero t ht)
        rw [State.leaseDeadline, State.after, hasked.timebase, hasked.generation] at hgrant
        change exec _ s = _
        rw [hexec, hcreate, hgrant]
        rfl
      · have hdrains := createClaim_drains tag k lease drain (s := found) (m := m) (ts := members)
          (by simpa only [hasked.inFlight] using hbusy)
        rw [State.draining, State.after, hasked.timebase, hasked.generation] at hdrains
        change exec _ s = _
        rw [hexec, hcreate, hdrains]

end Sys2Proof.Machine
end

section
/-! SUPPORT. FABRIC-RESET (R182, R183), as the statements write it. -/

namespace Sys2Proof.Machine

theorem buffer_of_nextTake {s : State} {m : Master} {r : RawRequest} (h : s.nextTake = some (m, r)) :
    (s.port m).buffer ≠ [] := by
  obtain ⟨⟨rest, hr⟩, -⟩ := nextTake_takeable h
  rw [hr]; exact List.cons_ne_nil _ _

/-! ## The lanes (R107) -/

/-- What a lane's own part of a fabric reset leaves. -/
theorem afterReset_facts (now : Time) (x : Lane) :
    (x.afterReset now).queue = [] ∧ (∀ w, (x.afterReset now).slot w = .free) ∧
      (x.afterReset now).state = (if x.state = .disabled then .disabled else .training) ∧
      (x.afterReset now).enabled = x.enabled ∧ (x.afterReset now).autoRetrain = x.autoRetrain ∧
      (x.afterReset now).nextSeq = x.nextSeq ∧ (x.afterReset now).stations = x.stations := by
  have hfree : ∀ w : SlotId, (Vector.replicate 4 Slot.free)[w] = .free := fun w => Vector.getElem_replicate ..
  unfold Lane.afterReset
  split
  next h => exact ⟨rfl, hfree, h, rfl, rfl, rfl, rfl⟩
  next h => exact ⟨rfl, hfree, rfl, rfl, rfl, rfl, rfl⟩

/-! ## Every other block -/

/-- The state after every block but the Lane Engines has taken its part and the answer is filled. -/
def State.resetAnswered (s : State) (m : Master) (tag : Byte) : State :=
  (s.resetBlocks.modifyPort m (fun p => { p with reserved := p.reserved + 1 })).answer m tag 0x1D .ok
    (some s.generation) []

/-- The Lane Engines take their parts with the others or in events of their own (R80). -/
theorem opFabricReset_eq (s : State) (m : Master) (tag : Byte) : ∃ p ls,
    opFabricReset m tag s = { s.resetAnswered m tag with phase := p, lanes := ls } ∧
      ((p = .resetting s.contexts ∧ ls = s.lanes) ∨ (p = s.phase ∧ ls = s.lanes.map (Lane.afterReset s.timebase))) := by
  have hlane : Lane.fabricReset s.timebase = Lane.afterReset s.timebase := funext (fabricReset_eq _)
  unfold opFabricReset State.fabricReset State.fabricResetAs
  cases Config.laneResetsApart s.fabricResets
  · refine ⟨s.phase, _, ?_, .inr ⟨rfl, rfl⟩⟩
    rw [← hlane]
    cases m <;> rfl
  · refine ⟨_, _, ?_, .inl ⟨rfl, rfl⟩⟩
    cases m <;> rfl

section
variable (s : State) (m : Master) (tag : Byte)

theorem resetAnswered_port (w : Master) : (s.resetAnswered m tag).port w =
    { (s.port w).fabricReset ⟨s.generation, s.timebase⟩ with
      filled := if w = m then [answerWith tag 0x1D .ok s.generation []] else [] } := by
  cases m <;> cases w <;> rfl

theorem resetAnswered_alert (w : Master) : (s.resetAnswered m tag).alert w =
    { s.alert w with pending := ⟨none, none, none, none⟩, busy := false } := by
  cases m <;> cases w <;> rfl

theorem resetAnswered_ctx (c : CtxId) : (s.resetAnswered m tag).ctx c = none := by
  have h : (s.resetAnswered m tag).contexts = Vector.replicate 32 none := by cases m <;> rfl
  rw [State.ctx, h]
  exact Vector.getElem_replicate ..

theorem resetAnswered_claim (k : ClaimId) : (s.resetAnswered m tag).claim k = none := by
  have h : (s.resetAnswered m tag).claims = Vector.replicate 8 none := by cases m <;> rfl
  rw [State.claim, h]
  exact Vector.getElem_replicate ..

theorem resetAnswered_record (t : Target) :
    (s.resetAnswered m tag).record t = { s.record t with inFlightM0 := 0, inFlightM1 := 0 } := by
  have h : (s.resetAnswered m tag).status = s.status.map (fun r => { r with inFlightM0 := 0, inFlightM1 := 0 }) := by
    cases m <;> rfl
  rw [State.record, h]
  exact Vector.getElem_map ..

/-- What a fabric reset leaves alone. -/
theorem resetAnswered_rest : (s.resetAnswered m tag).hub = (if s.hub = .halted then .run else s.hub) ∧
    (s.resetAnswered m tag).roundRobin = s.roundRobin ∧ (s.resetAnswered m tag).staged = s.staged ∧
    (s.resetAnswered m tag).active = s.active ∧ (s.resetAnswered m tag).generation = s.generation ∧
    (s.resetAnswered m tag).stagedGroups = s.stagedGroups ∧ (s.resetAnswered m tag).activeGroups = s.activeGroups ∧
    (s.resetAnswered m tag).classes = s.classes ∧ (s.resetAnswered m tag).sources = s.sources ∧
    (s.resetAnswered m tag).records = s.records ∧ (s.resetAnswered m tag).lostCount = s.lostCount ∧
    (s.resetAnswered m tag).nextRecord = s.nextRecord ∧ (s.resetAnswered m tag).quotaM0 = s.quotaM0 ∧
    (s.resetAnswered m tag).quotaM1 = s.quotaM1 ∧ (s.resetAnswered m tag).rightsM1 = s.rightsM1 ∧
    (s.resetAnswered m tag).admission = s.admission ∧ (s.resetAnswered m tag).timebase = s.timebase ∧
    (s.resetAnswered m tag).phase = s.phase ∧ (s.resetAnswered m tag).lanes = s.lanes := by
  cases m <;> exact ⟨rfl, rfl, rfl, rfl, rfl, rfl, rfl, rfl, rfl, rfl, rfl, rfl, rfl, rfl, rfl, rfl, rfl, rfl, rfl⟩

end

/-- A port after its part of a fabric reset, in the taken state: the request that was taken counts with those that are
given up (R39, R175). -/
theorem fabricReset_takenBy_port {s : State} {m : Master} (h : (s.port m).buffer ≠ []) (w : Master) (n : Notice) :
    ((s.takenBy m).port w).fabricReset n = (s.port w).fabricReset n := by
  have hlen : (s.port m).creditsOwed + 1 + (s.port m).buffer.tail.length = (s.port m).creditsOwed + (s.port m).buffer.length := by
    obtain ⟨r, rest, hr⟩ := List.exists_cons_of_ne_nil h
    rw [hr, List.tail_cons, List.length_cons]; omega
  have hself : ((s.takenBy m).port m).fabricReset n = { (s.port m).fabricReset n with
      creditsOwed := (s.port m).creditsOwed + 1 + (s.port m).buffer.tail.length } := by cases m <;> rfl
  rcases eq_or_eq_other m w with e | e
  · rw [e, hself, hlen]; rfl
  · rw [e]; cases m <;> rfl

theorem phase_takenBy (s : State) (m : Master) : (s.takenBy m).phase = s.phase := by cases m <;> rfl
theorem contexts_takenBy (s : State) (m : Master) : (s.takenBy m).contexts = s.contexts := by cases m <;> rfl
theorem lanes_takenBy (s : State) (m : Master) : (s.takenBy m).lanes = s.lanes := by cases m <;> rfl
theorem timebase_takenBy (s : State) (m : Master) : (s.takenBy m).timebase = s.timebase := by cases m <;> rfl

/-- Settles O36. -/
theorem fabricResetClearsTraffic : Obligations.FabricResetClearsTraffic := by
  intro s m tag h hfull
  have hexec : exec (.fabricReset m tag) s = .next (opFabricReset m tag (s.takenBy m)) := exec_offered h hfull rfl
  have hrun : s.phase = .running := h.1
  have hbuffer : (s.port m).buffer ≠ [] := buffer_of_nextTake h.2.1
  have hport (w : Master) := resetAnswered_port (s.takenBy m) m tag w
  have halert (w : Master) := resetAnswered_alert (s.takenBy m) m tag w
  have hrecord (t : Target) := resetAnswered_record (s.takenBy m) m tag t
  have hctx := resetAnswered_ctx (s.takenBy m) m tag
  have hclaim := resetAnswered_claim (s.takenBy m) m tag
  obtain ⟨hhub, hpointer, hstaged, hactive, hgeneration, hstagedGroups, hactiveGroups, hclasses, hsources, hrecords, hlost,
    hnext, hq0, hq1, hrights, hadmission, htimebase, -⟩ := resetAnswered_rest (s.takenBy m) m tag
  obtain ⟨p, ls, hreset, hparts⟩ := opFabricReset_eq (s.takenBy m) m tag
  simp only [fabricReset_takenBy_port hbuffer, generation_takenBy, timebase_takenBy] at hport
  simp only [alert_takenBy] at halert
  simp only [record_takenBy] at hrecord
  rw [phase_takenBy, contexts_takenBy, lanes_takenBy, timebase_takenBy] at hparts
  rw [timebase_takenBy] at htimebase
  rw [hreset] at hexec
  rw [hexec]
  generalize (s.takenBy m).resetAnswered m tag = v at *
  refine ⟨_, { v with phase := .running, lanes := s.lanes.map (Lane.afterReset s.timebase) }, rfl, ?_, hctx, hclaim, hrecord,
    fun l => ?_, halert, ?_, ?_, fun w => ?_, hhub.trans (by rw [hub_takenBy]), hpointer.trans ?_, hstaged.trans ?_,
    hactive.trans ?_, hgeneration.trans (generation_takenBy s m), hstagedGroups.trans ?_,
    hactiveGroups.trans (activeGroups_takenBy s m), hclasses.trans ?_, hsources.trans ?_, hrecords.trans ?_, hlost.trans ?_,
    hnext.trans ?_, hq0.trans ?_, hq1.trans ?_, hrights.trans (rightsM1_takenBy s m),
    hadmission.trans (admission_takenBy s m), htimebase⟩
  · rcases hparts with ⟨rfl, rfl⟩ | ⟨rfl, rfl⟩
    · refine .inr ⟨rfl, rfl, ?_⟩
      rw [htimebase]
    · rw [hrun]
      exact .inl ⟨rfl, rfl⟩
  · have hlane : State.lane { v with phase := .running, lanes := s.lanes.map (Lane.afterReset s.timebase) } l =
        (s.lane l).afterReset s.timebase := lane_mapLanes s _ l
    rw [hlane]
    exact ⟨rfl, afterReset_facts s.timebase (s.lane l)⟩
  · exact (congrArg Port.filled (hport m)).trans (if_pos rfl)
  · exact (congrArg Port.filled (hport m.other)).trans (if_neg (by cases m <;> decide))
  · have hsame : State.port { v with phase := p, lanes := ls } w = v.port w := by cases w <;> rfl
    rw [hsame, hport w]
    exact ⟨rfl, rfl, rfl, rfl, rfl, rfl, rfl, rfl⟩
  all_goals cases m <;> rfl

end Sys2Proof.Machine
end

section
/-! SUPPORT. The claim timers (R129, R132), the steps of an occurrence one by one (R140 to R145) and the choice of the class
to send (R155), as the statements write them. -/

namespace Sys2Proof.Machine

/-! ## The timers of a claim -/

section
variable {s : State} {k : ClaimId} {c : Claim} (hc : s.claim k = some c)
include hc

theorem drainDeadlineEvent_due {tag : Byte} (h : c.state = .draining tag s.timebase) :
    drainDeadlineEvent k s = ((s.setClaim k none).fillSlot c.owner (claimAnswer tag .timeout none [])).occur
      .claimDrainTimeout (claimFields k c) := by
  unfold drainDeadlineEvent
  rw [hc]
  dsimp only
  rw [h]
  exact if_pos rfl

theorem leaseExpiryEvent_due (h : c.state = .held (some s.timebase)) :
    leaseExpiryEvent k s = (s.setClaim k none).occur .claimExpired (claimFields k c) := by
  unfold leaseExpiryEvent
  rw [hc]
  dsimp only
  rw [h]
  exact if_pos (beq_self_eq_true _)

end

/-- Settles O49. -/
theorem claimTimersFreeRecords : Obligations.ClaimTimersFreeRecords := fun _ _ _ hrun hc =>
  ⟨fun _ h => happens_eq hrun (drainDeadlineEvent_due hc h), fun h => happens_eq hrun (leaseExpiryEvent_due hc h)⟩

/-! ## The class to send (R155) -/

/-- A class that is pending above the floor. -/
def AlertState.Sendable (a : AlertState) (c : FaultClass) : Prop := (a.pending.get c).isSome ∧ a.floor < a.levels.get c

/-- A class is of a higher level than another that can be sent, or of the same level and not after it in the order. -/
def AlertState.Beats (a : AlertState) (c d : FaultClass) : Prop :=
  a.Sendable d → a.levels.get d < a.levels.get c ∨ (a.levels.get d = a.levels.get c ∧ (classCode c).toNat ≤ (classCode d).toNat)

theorem higherClass_first {a : AlertState} {c : FaultClass} (h : a.Sendable c) : higherClass a none c = some c := if_pos h

theorem higherClass_next {a : AlertState} {c : FaultClass} (h : a.Sendable c) (b : FaultClass) :
    higherClass a (some b) c = if a.levels.get b < a.levels.get c then some c else some b := if_pos h

theorem higherClass_sendable {a : AlertState} {c : FaultClass} (h : a.Sendable c) {best : Option FaultClass}
    (hbest : ∀ b, best = some b → a.levels.get b < a.levels.get c) : higherClass a best c = some c := by
  cases best with
  | none => exact higherClass_first h
  | some b => rw [higherClass_next h, if_pos (hbest b rfl)]

theorem higherClass_unsendable {a : AlertState} {c : FaultClass} (h : ¬ a.Sendable c) (best : Option FaultClass) :
    higherClass a best c = best := if_neg h

/-- The class that beats all stays chosen. -/
theorem foldl_higherClass_stays {a : AlertState} {c : FaultClass} (hbeats : ∀ d, a.Beats c d) (cs : List FaultClass) :
    cs.foldl (higherClass a) (some c) = some c := by
  induction cs with
  | nil => rfl
  | cons d ds ih =>
    have hstep : higherClass a (some c) d = some c := by
      by_cases hd : a.Sendable d
      · have hle : ¬ a.levels.get c < a.levels.get d := by
          rcases hbeats d hd with h | ⟨h, -⟩
          · exact lt_asymm h
          · exact fun hlt => absurd h (ne_of_gt hlt)
        rw [higherClass_next hd, if_neg hle]
      · exact higherClass_unsendable hd _
    rw [List.foldl_cons, hstep, ih]

/-- In the order of the classes the class that beats all is reached with a lower one chosen so far, if any. -/
theorem foldl_higherClass {a : AlertState} {c : FaultClass} (hc : a.Sendable c) (hbeats : ∀ d, a.Beats c d)
    {cs : List FaultClass} (hmem : c ∈ cs) (horder : cs.Pairwise fun d e => (classCode d).toNat < (classCode e).toNat)
    {best : Option FaultClass} (hbest : ∀ b, best = some b → a.levels.get b < a.levels.get c) :
    cs.foldl (higherClass a) best = some c := by
  induction cs generalizing best with
  | nil => cases hmem
  | cons d ds ih =>
    obtain ⟨hfirst, horder⟩ := List.pairwise_cons.1 horder
    rw [List.foldl_cons]
    by_cases e : c = d
    · rw [← e, higherClass_sendable hc hbest, foldl_higherClass_stays hbeats]
    · have hin : c ∈ ds := List.mem_of_ne_of_mem e hmem
      refine ih hin horder fun b hb => ?_
      by_cases hd : a.Sendable d
      · have hlow : a.levels.get d < a.levels.get c :=
          (hbeats d hd).resolve_right fun h => absurd (hfirst c hin) (Nat.not_lt.2 h.2)
        cases best with
        | none => rw [higherClass_first hd] at hb; cases hb; exact hlow
        | some b' =>
          rw [higherClass_next hd] at hb
          split at hb
          · cases hb; exact hlow
          · exact hbest b hb
      · rw [higherClass_unsendable hd] at hb
        exact hbest b hb

theorem choice_eq_some {a : AlertState} {c : FaultClass} (hc : a.Sendable c) (hbeats : ∀ d, a.Beats c d) :
    a.choice = some c :=
  foldl_higherClass hc hbeats (by cases c <;> decide) (by decide) fun _ h => by cases h

theorem foldl_higherClass_none {a : AlertState} (h : ∀ c, ¬ a.Sendable c) (cs : List FaultClass) (best : Option FaultClass) :
    cs.foldl (higherClass a) best = best := by
  induction cs generalizing best with
  | nil => rfl
  | cons d ds ih => rw [List.foldl_cons, higherClass_unsendable (h d), ih]

theorem choice_eq_none {a : AlertState} (h : ∀ c, ¬ a.Sendable c) : a.choice = none := foldl_higherClass_none h _ _

/-- No ALERT can be made ready for the master: its window is BUSY or its link is not UP. -/
def State.Quiet (s : State) (m : Master) : Prop := (s.alert m).busy = true ∨ (s.port m).link ≠ .up

theorem testAlert_quiet {s : State} {m : Master} (h : s.Quiet m) : s.testAlert m = s := by
  unfold State.testAlert
  dsimp only
  refine if_neg fun hup => ?_
  rcases h with h | h
  · rw [hup.1] at h; cases h
  · exact h hup.2

theorem testAlert_none {s : State} {m : Master} (h : (s.alert m).choice = none) : s.testAlert m = s := by
  unfold State.testAlert
  dsimp only
  rw [h]
  split <;> rfl

theorem testAlert_some {s : State} {m : Master} {c : FaultClass} {p : Pended} (hfree : (s.alert m).busy = false)
    (hup : (s.port m).link = .up) (hchoice : (s.alert m).choice = some c) (hp : (s.alert m).pending.get c = some p) :
    s.testAlert m = (s.setAlert m { s.alert m with pending := (s.alert m).pending.set c none, busy := true }).setPort m
      { s.port m with alertReady := some ⟨c, p.source, p.sequence, s.timebase⟩ } := by
  unfold State.testAlert
  dsimp only
  rw [if_pos ⟨hfree, hup⟩, hchoice]
  dsimp only
  rw [hp]
  cases m <;> rfl

/-- Settles O51. -/
theorem highestClassIsMadeReady : Obligations.HighestClassIsMadeReady := by
  intro s m a sendable
  have hsend : ∀ c, a.Sendable c ↔ sendable c := fun c => and_congr_left fun _ => Option.isSome_iff_ne_none
  refine ⟨fun h => ?_, fun hfree hup c p hc hp hbest => ?_⟩
  · rcases h with hbusy | hdown | hnone
    · exact testAlert_quiet (.inl hbusy)
    · exact testAlert_quiet (.inr hdown)
    · exact testAlert_none (choice_eq_none fun c => mt (hsend c).1 (hnone c))
  · exact testAlert_some hfree hup (choice_eq_some ((hsend c).2 hc) fun d hd => hbest d ((hsend d).1 hd)) hp

/-! ## The steps of an occurrence on the alerts, the hub state and the records -/

theorem PerClass.get_set_same {α : Type} (p : PerClass α) (c : FaultClass) (a : α) : (p.set c a).get c = a := by
  cases c <;> rfl

/-- The alert state after an action's alert step that makes no ALERT ready. -/
def AlertState.pended (a : AlertState) (action : Action) (x : Source) (q : Option (BitVec 16)) : AlertState :=
  if action.alerts = true ∧ 0 < a.levels.get x.cls then { a with pending := a.pending.set x.cls (some ⟨x, q⟩) } else a

theorem testAlert_alert_other (s : State) {m w : Master} (h : m ≠ w) : (s.testAlert w).alert m = s.alert m := by
  unfold State.testAlert
  dsimp only
  split
  · split
    · split
      · simp only [State.modifyPort, State.alert_setPort]
        rw [State.alert_setAlert, if_neg h]
      · rfl
    · rfl
  · rfl

theorem pendFor_alert_other (s : State) {m w : Master} (h : m ≠ w) (c : FaultClass) (p : Pended) :
    (s.pendFor w c p).alert m = s.alert m := by
  unfold State.pendFor
  dsimp only
  split
  · rw [testAlert_alert_other _ h, State.alert_setAlert, if_neg h]
  · rfl

theorem FaultFrame.link {s t : State} (h : FaultFrame s t) (m : Master) : (t.port m).link = (s.port m).link :=
  (congrArg (fun p : Port => p.link) (h.outer m) :)

theorem pendFor_alert_quiet {s : State} {m : Master} (h : s.Quiet m) (c : FaultClass) (p : Pended) :
    (s.pendFor m c p).alert m =
      if 0 < (s.alert m).levels.get c then { s.alert m with pending := (s.alert m).pending.set c (some p) } else s.alert m := by
  have hquiet : (s.setAlert m { s.alert m with pending := (s.alert m).pending.set c (some p) }).Quiet m := by
    refine h.imp (fun hb => ?_) fun hl => ?_
    · rw [State.alert_setAlert_same]; exact hb
    · rw [State.port_setAlert]; exact hl
  unfold State.pendFor
  dsimp only
  split
  · rw [testAlert_quiet hquiet, State.alert_setAlert_same]
  · rfl

theorem quiet_congr {s t : State} {m : Master} (ha : (t.alert m).busy = (s.alert m).busy)
    (hl : (t.port m).link = (s.port m).link) : s.Quiet m → t.Quiet m := by
  unfold State.Quiet; rw [ha, hl]; exact id

theorem alertStep_alert_quiet {s : State} {m : Master} (h : s.Quiet m) (x : Source) (q : Option (BitVec 16)) :
    (s.alertStep x q).alert m =
      if 0 < (s.alert m).levels.get x.cls then { s.alert m with pending := (s.alert m).pending.set x.cls (some ⟨x, q⟩) }
      else s.alert m := by
  unfold State.alertStep
  cases m with
  | m0 => rw [pendFor_alert_other _ (by decide), pendFor_alert_quiet h]
  | m1 =>
    have halert : (s.pendFor .m0 x.cls ⟨x, q⟩).alert .m1 = s.alert .m1 := pendFor_alert_other s (by decide) _ _
    have hquiet := quiet_congr (congrArg AlertState.busy halert) ((pendFor_frame s .m0 x.cls ⟨x, q⟩).link .m1) h
    rw [pendFor_alert_quiet hquiet, halert]

theorem isolateStep_alert (s : State) (x : Source) (f : FaultFields) (m : Master) :
    (s.isolateStep x f).alert m = s.alert m := by
  unfold State.isolateStep
  split
  next l _ _ =>
    have h := (fenceLane_frame s l).alerts
    cases m
    · exact congrArg Prod.fst h
    · exact congrArg Prod.snd h
  · exact State.alert_setRecord ..
  · rfl

theorem haltStep_alert (s : State) (m : Master) : s.haltStep.alert m = s.alert m := by
  unfold State.haltStep
  split
  · cases m <;> rfl
  · rfl

/-- The alerts after the steps of an action, with no ALERT made ready. -/
theorem act_alert_quiet {s : State} {m : Master} (h : s.Quiet m) (a : Action) (x : Source) (f : FaultFields)
    (q : Option (BitVec 16)) : (s.act a x f q).alert m = (s.alert m).pended a x q := by
  have hstep := alertStep_alert_quiet h x q
  unfold State.act AlertState.pended
  cases a with
  | ignore | record => rfl
  | alert => simpa [Action.alerts] using hstep
  | isolate => simpa [Action.alerts, isolateStep_alert] using hstep
  | halt => simpa [Action.alerts, haltStep_alert] using hstep

theorem pended_busy (a : AlertState) (action : Action) (x : Source) (q : Option (BitVec 16)) :
    (a.pended action x q).busy = a.busy ∧ (a.pended action x q).levels = a.levels ∧
      (a.pended action x q).floor = a.floor := by
  unfold AlertState.pended
  split <;> exact ⟨rfl, rfl, rfl⟩

theorem latch_alert (s : State) (x : Source) (m : Master) : (s.latch x).alert m = s.alert m := by cases m <;> rfl

end Sys2Proof.Machine
end

section
/-! SUPPORT. An occurrence with its record step and its action (R140 to R145), as the statements write it. -/

namespace Sys2Proof.Machine

/-- The fault records as the Fault Collector holds them. -/
def State.log (s : State) : List FaultRecord × Nat × BitVec 16 := (s.records, s.lostCount, s.nextRecord)

theorem OnlyAlerts.log {s t : State} (h : OnlyAlerts s t) : t.log = s.log := by rw [h]; rfl

theorem OnlyAlerts.hub {s t : State} (h : OnlyAlerts s t) : t.hub = s.hub := by rw [h]

theorem isolateStep_log (s : State) (x : Source) (f : FaultFields) : (s.isolateStep x f).log = s.log := by
  unfold State.isolateStep
  split
  next l _ _ => exact congrArg Prod.snd (fenceLane_frame s l).faults
  · rfl
  · rfl

theorem isolateStep_hub (s : State) (x : Source) (f : FaultFields) : (s.isolateStep x f).hub = s.hub := by
  unfold State.isolateStep
  split
  next l _ _ => exact (fenceLane_frame s l).hub
  · rfl
  · rfl

theorem haltStep_log (s : State) : s.haltStep.log = s.log := by
  unfold State.haltStep
  split <;> rfl

theorem haltStep_hub (s : State) : s.haltStep.hub = if s.hub = .run then .halted else s.hub := by
  unfold State.haltStep
  split <;> rfl

/-- The HALT step, as an update of the hub state. -/
theorem haltStep_eq (s : State) : s.haltStep = { s with hub := if s.hub = .run then .halted else s.hub } := by
  unfold State.haltStep
  split <;> rfl

theorem act_log (s : State) (a : Action) (x : Source) (f : FaultFields) (q : Option (BitVec 16)) :
    (s.act a x f q).log = s.log := by
  have h := (alertsIf_only s a x q).log
  unfold State.act
  dsimp only
  split
  · exact (isolateStep_log ..).trans h
  · exact (haltStep_log _).trans h
  · exact h

/-- Only HALT changes the hub state, and only from RUN (R145). -/
theorem act_hub (s : State) (a : Action) (x : Source) (f : FaultFields) (q : Option (BitVec 16)) :
    (s.act a x f q).hub = if a = .halt ∧ s.hub = .run then .halted else s.hub := by
  have h := (alertsIf_only s a x q).hub
  unfold State.act
  dsimp only
  generalize (if a.alerts then s.alertStep x q else s) = u at h
  cases a with
  | halt => simp [haltStep_hub, h]
  | isolate => simp [isolateStep_hub, h]
  | _ => simp [h]

/-! ## The occurrence -/

section
variable {s : State} {x : Source} (f : FaultFields)

theorem occur_ignored (h : (s.source x).action = .ignore) : s.occur x f = s.latch x := by
  unfold State.occur
  dsimp only
  rw [h]

theorem occur_acts (h : (s.source x).action ≠ .ignore) :
    s.occur x f = ((s.latch x).recordStep x f).1.act (s.source x).action x f ((s.latch x).recordStep x f).2 := by
  unfold State.occur
  dsimp only
  split
  next he => exact absurd he h
  next => rfl

theorem recordStep_stored (h : s.records.length < 16) :
    s.recordStep x f = ({ s with
      records := s.records ++ [⟨s.nextRecord, s.timebase, x, f⟩], nextRecord := s.nextRecord + 1 }, some s.nextRecord) :=
  if_pos h

theorem recordStep_lost (h : 16 ≤ s.records.length) :
    s.recordStep x f = (State.recordsLost { s with lostCount := min (s.lostCount + 1) 255 }, none) :=
  if_neg (Nat.not_lt.2 h)

theorem occur_stored (h : (s.source x).action ≠ .ignore) (hroom : s.records.length < 16) :
    s.occur x f = State.act { s.latch x with
        records := s.records ++ [⟨s.nextRecord, s.timebase, x, f⟩], nextRecord := s.nextRecord + 1 }
      (s.source x).action x f (some s.nextRecord) := by
  rw [occur_acts f h, recordStep_stored (s := s.latch x) f hroom]
  rfl

theorem occur_lost (h : (s.source x).action ≠ .ignore) (hfull : 16 ≤ s.records.length) :
    s.occur x f = (State.recordsLost { s.latch x with lostCount := min (s.lostCount + 1) 255 }).act
      (s.source x).action x f none := by
  rw [occur_acts f h, recordStep_lost (s := s.latch x) f hfull]
  rfl

/-- The records after an occurrence that is not ignored (R141, R142). -/
theorem occur_log (h : (s.source x).action ≠ .ignore) :
    (s.occur x f).log = if s.records.length < 16 then
      (s.records ++ [⟨s.nextRecord, s.timebase, x, f⟩], s.lostCount, s.nextRecord + 1)
    else (s.records, min (s.lostCount + 1) 255, s.nextRecord) := by
  split
  next hroom => rw [occur_stored f h hroom, act_log]; rfl
  next hfull =>
    rw [occur_lost f h (Nat.le_of_not_lt hfull), act_log, State.recordsLost, act_log]
    rfl

/-- The sequence that an occurrence's record takes, if it is stored. -/
def State.sequence (s : State) : Option (BitVec 16) := if s.records.length < 16 then some s.nextRecord else none

/-- The alert state at the alert step of an occurrence: RECORDS_LOST may have gone before (R142). -/
def State.recordedAlert (s : State) (m : Master) : AlertState :=
  if s.records.length < 16 then s.alert m else (s.alert m).pended (s.source .recordsLost).action .recordsLost none

/-- The alerts after an occurrence that makes no ALERT ready. -/
theorem occur_alert_quiet (hx : x ≠ .recordsLost) {m : Master} (hq : s.Quiet m) (h : (s.source x).action ≠ .ignore) :
    ((s.occur x f).alert m) = (s.recordedAlert m).pended (s.source x).action x s.sequence := by
  unfold State.recordedAlert State.sequence
  split
  next hroom =>
    have hquiet : State.Quiet { s.latch x with
        records := s.records ++ [⟨s.nextRecord, s.timebase, x, f⟩], nextRecord := s.nextRecord + 1 } m :=
      quiet_congr (by cases m <;> rfl) (by cases m <;> rfl) hq
    rw [occur_stored f h hroom, act_alert_quiet hquiet]
    cases m <;> rfl
  next hfull =>
    have hquiet : State.Quiet (State.latch { s.latch x with lostCount := min (s.lostCount + 1) 255 } .recordsLost) m :=
      quiet_congr (by cases m <;> rfl) (by cases m <;> rfl) hq
    have hlost := act_alert_quiet hquiet (s.source .recordsLost).action .recordsLost .none none
    have haction : (State.source { s.latch x with lostCount := min (s.lostCount + 1) 255 } .recordsLost).action =
        (s.source .recordsLost).action :=
      congrArg SourceRecord.action ((State.source_setSource ..).trans (if_neg hx.symm))
    have hstep : (State.recordsLost { s.latch x with lostCount := min (s.lostCount + 1) 255 }).alert m =
        (s.alert m).pended (s.source .recordsLost).action .recordsLost none := by
      rw [State.recordsLost, haction, hlost]
      cases m <;> rfl
    have hquiet2 : (State.recordsLost { s.latch x with lostCount := min (s.lostCount + 1) 255 }).Quiet m := by
      refine quiet_congr ?_ ((recordsLost_frame _).link m) (quiet_congr (s := s) (by cases m <;> rfl) (by cases m <;> rfl) hq)
      rw [hstep, (pended_busy ..).1]
      cases m <;> rfl
    rw [occur_lost f h (Nat.le_of_not_lt hfull), act_alert_quiet hquiet2, hstep]

end

theorem recordsLost_eq (s : State) : s.recordsLost =
    (s.setSource .recordsLost ⟨true, min ((s.source .recordsLost).count + 1) 255, (s.source .recordsLost).action⟩).act
      (s.source .recordsLost).action .recordsLost .none none := rfl

theorem recordsLost_hub (s : State) (h : s.hub = .run) : s.recordsLost.hub = .run ∨ s.recordsLost.hub = .halted := by
  rw [State.recordsLost, act_hub]
  split
  · exact .inr rfl
  · exact .inl h

theorem occur_halts {s : State} {x : Source} (f : FaultFields) (h : (s.source x).action = .halt) (hrun : s.hub = .run) :
    (s.occur x f).hub = .halted := by
  have hne : (s.source x).action ≠ .ignore := by rw [h]; decide
  by_cases hroom : s.records.length < 16
  · rw [occur_stored f hne hroom, act_hub, h]
    exact if_pos ⟨rfl, hrun⟩
  · rw [occur_lost f hne (Nat.le_of_not_lt hroom), act_hub, h]
    rcases recordsLost_hub { s.latch x with lostCount := min (s.lostCount + 1) 255 } hrun with hr | hr
    · rw [if_pos ⟨rfl, hr⟩]
    · rw [hr]; rfl

theorem recordsLost_latched (s : State) : (s.recordsLost.source .recordsLost).latch = true := by
  rw [recordsLost_eq, act_source, State.source_setSource_same]

/-- Settles O50. -/
theorem occurrenceLatchesAndRecords : Obligations.OccurrenceLatchesAndRecords := by
  intro s x f hx pend acts raised action latched t
  have hacts : ∀ a y g q u, acts a y g q u = u.act a y g q := fun a y g q u => by
    cases a with
    | halt => exact (haltStep_eq _).symm
    | _ => rfl
  have hsource : t.source x = { s.source x with latch := true, count := min ((s.source x).count + 1) 255 } :=
    (occur_source s x f x hx).trans (if_pos rfl)
  have hlatched : latched = s.latch x := rfl
  refine ⟨fun h => ?_, fun h hroom => ?_, fun h hfull => ?_, by rw [hsource], by rw [hsource], by rw [hsource],
    fun h hroom => ?_, fun h hfull => ?_, fun h hrun => occur_halts f h hrun, fun hi hr m hlevel hbusy => ?_⟩
  · exact occur_ignored f h
  · rw [hacts]
    exact occur_stored f h hroom
  · have hother : State.source { latched with lostCount := min (s.lostCount + 1) 255 } .recordsLost = s.source .recordsLost :=
      (State.source_setSource ..).trans (if_neg hx.symm)
    rw [hacts, hacts]
    refine (occur_lost f h hfull).trans ?_
    rw [recordsLost_eq, ← hlatched, hother]
    rfl
  · have hlog := (occur_log f h).trans (if_pos hroom)
    exact ⟨congrArg Prod.fst hlog, congrArg (fun p => p.2.2) hlog, congrArg (fun p => p.2.1) hlog⟩
  · have hlog := (occur_log f h).trans (if_neg (Nat.not_lt.2 hfull))
    refine ⟨congrArg Prod.fst hlog, congrArg (fun p => p.2.2) hlog, congrArg (fun p => p.2.1) hlog, ?_⟩
    have hocc : t = _ := occur_lost f h hfull
    rw [hocc, act_source]
    exact recordsLost_latched _
  · have halerts : action.alerts = true := by
      cases h : action with
      | ignore => exact absurd h hi
      | record => exact absurd h hr
      | _ => rfl
    have hlevels : (s.recordedAlert m).levels = (s.alert m).levels := by
      unfold State.recordedAlert
      split
      · rfl
      · exact (pended_busy ..).2.1
    have hocc : t.alert m = _ := occur_alert_quiet f hx (.inl hbusy) hi
    rw [hocc, AlertState.pended, if_pos ⟨halerts, by rw [hlevels]; exact hlevel⟩]
    exact PerClass.get_set_same _ _ _

end Sys2Proof.Machine
end

section
/-! SUPPORT. The teardown of a master (R71 to R77, R135, R160, R174), as the statements write it. -/

namespace Sys2Proof.Machine

/-! ## The port of a master at an occurrence that makes no ALERT ready -/

theorem testAlert_port_other (s : State) {m w : Master} (h : m ≠ w) : (s.testAlert w).port m = s.port m := by
  unfold State.testAlert
  dsimp only
  split
  · split
    · split
      · rw [State.modifyPort, State.port_setPort, if_neg h, State.port_setAlert]
      · rfl
    · rfl
  · rfl

theorem pendFor_port_quiet {s : State} {m : Master} (h : s.Quiet m) (w : Master) (c : FaultClass) (p : Pended) :
    (s.pendFor w c p).port m = s.port m := by
  unfold State.pendFor
  dsimp only
  split
  · by_cases e : m = w
    · subst e
      have hquiet : (s.setAlert m { s.alert m with pending := (s.alert m).pending.set c (some p) }).Quiet m := by
        refine h.imp (fun hb => ?_) fun hl => ?_
        · rw [State.alert_setAlert_same]; exact hb
        · rw [State.port_setAlert]; exact hl
      rw [testAlert_quiet hquiet, State.port_setAlert]
    · rw [testAlert_port_other _ e, State.port_setAlert]
  · rfl

theorem pendFor_quiet {s : State} {m : Master} (h : s.Quiet m) (w : Master) (c : FaultClass) (p : Pended) :
    (s.pendFor w c p).Quiet m := by
  refine quiet_congr ?_ ((pendFor_frame s w c p).link m) h
  by_cases e : m = w
  · subst e
    rw [pendFor_alert_quiet h]
    split <;> rfl
  · rw [pendFor_alert_other s e]

theorem act_port_quiet {s : State} {m : Master} (h : s.Quiet m) (a : Action) {x : Source} {f : FaultFields}
    (q : Option (BitVec 16)) (hf : ¬ Fences x f) : (s.act a x f q).port m = s.port m := by
  have halerts : (s.alertStep x q).port m = s.port m := by
    unfold State.alertStep
    rw [pendFor_port_quiet (pendFor_quiet h _ _ _), pendFor_port_quiet h]
  have hif : (if a.alerts then s.alertStep x q else s).port m = s.port m := by
    split
    · exact halerts
    · rfl
  unfold State.act
  dsimp only
  generalize (if a.alerts then s.alertStep x q else s) = u at hif
  split
  · unfold State.isolateStep
    split
    next l hc hl => exact absurd ⟨hc, by rw [hl]; rfl⟩ hf
    · exact (State.port_setRecord ..).trans hif
    · exact hif
  · rw [haltStep_eq]
    exact Eq.trans (by cases m <;> rfl) hif
  · exact hif

/-- The port of a master for which no ALERT can be made ready stays at an occurrence that fences no lane. -/
theorem occur_port_quiet {s : State} {m : Master} (h : s.Quiet m) {x : Source} {f : FaultFields} (hf : ¬ Fences x f) :
    (s.occur x f).port m = s.port m := by
  have hlatch : (s.latch x).Quiet m := quiet_congr (by cases m <;> rfl) (by cases m <;> rfl) h
  have hstep : ((s.latch x).recordStep x f).1.Quiet m ∧ ((s.latch x).recordStep x f).1.port m = s.port m := by
    unfold State.recordStep
    split
    · exact ⟨quiet_congr (by cases m <;> rfl) (by cases m <;> rfl) hlatch, by cases m <;> rfl⟩
    · have hquiet : State.Quiet (State.latch { s.latch x with lostCount := min ((s.latch x).lostCount + 1) 255 } .recordsLost) m :=
        quiet_congr (by cases m <;> rfl) (by cases m <;> rfl) hlatch
      refine ⟨?_, ?_⟩
      · refine quiet_congr ?_ ((recordsLost_frame _).link m)
          (quiet_congr (s := s.latch x) (t := { s.latch x with lostCount := _ }) (by cases m <;> rfl) (by cases m <;> rfl) hlatch)
        have halert := act_alert_quiet hquiet
          (State.source { s.latch x with lostCount := min ((s.latch x).lostCount + 1) 255 } .recordsLost).action .recordsLost
          .none none
        rw [State.recordsLost, halert, (pended_busy ..).1]
        cases m <;> rfl
      · rw [State.recordsLost, act_port_quiet hquiet _ _ fun hf => by cases hf.1]
        cases m <;> rfl
  unfold State.occur
  dsimp only
  split
  · cases m <;> rfl
  · rw [act_port_quiet hstep.1 _ _ hf, hstep.2]

theorem ofMaster_fences_not (x : Source) (m : Master) : ¬ Fences x (.ofMaster m) := fun h => by cases h.2

/-! ## Contexts keep their master and state at completions and refills -/

/-- Every context of the second state is one of the first, of the same master and as ACTIVE or ORPHAN. -/
def Follows (s t : State) : Prop :=
  ∀ c y, t.ctx c = some y → ∃ x, s.ctx c = some x ∧ y.master = x.master ∧ y.state = x.state

theorem Follows.refl (s : State) : Follows s s := fun _ y hy => ⟨y, hy, rfl, rfl⟩

theorem Follows.trans {s t u : State} (h : Follows s t) (k : Follows t u) : Follows s u := fun c z hz => by
  obtain ⟨y, hy, hm, hs⟩ := k c z hz
  obtain ⟨x, hx, hm', hs'⟩ := h c y hy
  exact ⟨x, hx, hm.trans hm', hs.trans hs'⟩

theorem follows_of_ctx {s t : State} (h : ∀ c, t.ctx c = s.ctx c) : Follows s t := fun c y hy =>
  ⟨y, by rw [← h]; exact hy, rfl, rfl⟩

theorem complete_follows (s : State) (r : LegRef) (o : LegOutcome) (ws : List Word) : Follows s (s.complete r o ws) := by
  rcases complete_cases s r with hd | ⟨x, g, hx, hg, hu⟩
  · rw [complete_discarded hd]; exact .refl s
  · intro c y hy
    rw [complete_ctx hx hg hu] at hy
    split at hy
    next e =>
      split at hy
      · cases hy
      · cases hy; exact ⟨x, by rw [e]; exact hx, rfl, rfl⟩
    next => exact ⟨y, hy, rfl, rfl⟩

theorem completeAll_follows (s : State) (rs : List LegRef) (o : LegOutcome) : Follows s (s.completeAll rs o) :=
  foldl_rel .refl .trans (fun s r => complete_follows s r o []) rs s

theorem setLegState_follows (s : State) (r : LegRef) (v : LegState) : Follows s (s.setLegState r v) := fun c y hy => by
  unfold State.setLegState at hy
  split at hy
  next x hx =>
    rw [State.ctx_setCtx] at hy
    split at hy
    next e => cases hy; exact ⟨x, by rw [e]; exact hx, rfl, rfl⟩
    next => exact ⟨y, hy, rfl, rfl⟩
  next => exact ⟨y, hy, rfl, rfl⟩

theorem refill_follows (s : State) (l : LaneId) : Follows s (s.refill l) := by
  unfold State.refill
  split
  · exact .refl s
  next r _ _ => exact (setLegState_follows s r .queued).trans (follows_of_ctx fun c => rfl)

theorem withdraw_follows (s : State) (gone : List LegRef) (l : LaneId) : Follows s (s.withdraw gone l) := by
  unfold State.withdraw
  refine Follows.trans ?_ (foldl_rel .refl .trans (fun s _ => refill_follows s l) _ _)
  exact (follows_of_ctx (t := s.modifyLane l _) fun c => rfl).trans (completeAll_follows _ _ _)

/-- A context as its teardown makes it ORPHAN (R73). -/
def Ctx.orphaned (x : Ctx) : Ctx := { x with state := .orphan }

theorem orphans'_ctx (s : State) (cs : List (CtxId × Ctx)) (d : CtxId) :
    (s.orphans' cs).ctx d = if d ∈ cs.map Prod.fst then (s.ctx d).map Ctx.orphaned else s.ctx d := by
  induction cs generalizing s with
  | nil => rfl
  | cons c cs ih =>
    refine (ih (s.orphan c.1)).trans ?_
    rw [orphan_ctx, List.map_cons]
    by_cases e : d = c.1
    · subst e
      rw [if_pos rfl, if_pos (List.mem_cons_self (l := cs.map Prod.fst)), Option.map_map]
      split
      · rfl
      · rfl
    · rw [if_neg e]
      simp only [List.mem_cons, e, false_or]

/-- A master's contexts that a teardown leaves are ORPHAN (R71). -/
theorem orphanMaster_orphans {s : State} {m : Master} {c : CtxId} {y : Ctx} (h : (s.orphanMaster m).ctx c = some y)
    (hm : y.master = m) : y.state = .orphan := by
  have hfollow : Follows (s.orphans' (s.tornContexts m)) (s.orphanMaster m) :=
    (completeAll_follows _ _ _).trans (foldl_rel .refl .trans (fun s l => withdraw_follows s _ l) _ _)
  obtain ⟨x, hx, hmaster, hstate⟩ := hfollow c y h
  rw [orphans'_ctx] at hx
  rw [hstate]
  split at hx
  · obtain ⟨z, -, rfl⟩ := Option.map_eq_some_iff.1 hx
    rfl
  next hnot =>
    cases hs : x.state with
    | orphan => rfl
    | active tag =>
      refine absurd (List.mem_map.2 ⟨(c, x), mem_tornContexts.2 ⟨hx, hmaster.symm.trans hm, ?_⟩, rfl⟩) hnot
      rw [Ctx.tag, hs]; rfl

/-! ## The claims of a master (R135) -/

/-- A master owns no claim record. -/
def State.Claimless (s : State) (m : Master) (k : ClaimId) : Prop := ∀ c, s.claim k = some c → c.owner ≠ m

theorem freeClaim_claimless (s : State) (m : Master) (k j : ClaimId) (h : j = k ∨ s.Claimless m j) :
    (if (s.ownClaim m k).isSome then s.setClaim k none else s).Claimless m j := by
  intro c hc
  split at hc
  next hown =>
    rw [State.claim_setClaim] at hc
    split at hc
    · cases hc
    next hne => exact h.resolve_left hne c hc
  next hown =>
    rcases h with rfl | h
    · intro ho
      exact hown (by rw [ownClaim_some hc ho]; rfl)
    · exact h c hc

theorem freeClaims_claimless (m : Master) (ks : List ClaimId) (s : State) {j : ClaimId} (h : j ∈ ks ∨ s.Claimless m j) :
    (ks.foldl (fun acc k => if (acc.ownClaim m k).isSome then acc.setClaim k none else acc) s).Claimless m j := by
  induction ks generalizing s with
  | nil => exact h.resolve_left List.not_mem_nil
  | cons k ks ih =>
    refine ih _ ?_
    rcases h with h | h
    · rcases List.mem_cons.1 h with e | h
      · exact .inr (freeClaim_claimless s m k j (.inl e))
      · exact .inl h
    · exact .inr (freeClaim_claimless s m k j (.inr h))

theorem freeClaimsOf_claimless (s : State) (m : Master) (k : ClaimId) : (s.freeClaimsOf m).Claimless m k :=
  freeClaims_claimless m _ s (.inl (List.mem_finRange k))

end Sys2Proof.Machine
end

section
/-! SUPPORT. What a torn-down master holds, through the events that tear it down (R165, R166, R174), as the statements write
it. -/

namespace Sys2Proof.Machine

/-! ## Levels and latches at an occurrence -/

/-- The levels and the floor of a master. -/
def AlertState.settings (a : AlertState) : PerClass (Fin 4) × Fin 4 := (a.levels, a.floor)

theorem testAlert_settings (s : State) (w m : Master) : ((s.testAlert w).alert m).settings = (s.alert m).settings := by
  unfold State.testAlert
  dsimp only
  split
  · split
    · split
      · rw [State.modifyPort, State.alert_setPort, State.alert_setAlert]
        split
        next e => rw [e]; rfl
        next => rfl
      · rfl
    · rfl
  · rfl

theorem pendFor_settings (s : State) (w m : Master) (c : FaultClass) (p : Pended) :
    ((s.pendFor w c p).alert m).settings = (s.alert m).settings := by
  unfold State.pendFor
  dsimp only
  split
  · rw [testAlert_settings, State.alert_setAlert]
    split
    next e => rw [e]; rfl
    next => rfl
  · rfl

theorem act_settings (s : State) (a : Action) (x : Source) (f : FaultFields) (q : Option (BitVec 16)) (m : Master) :
    ((s.act a x f q).alert m).settings = (s.alert m).settings := by
  have hstep : ((if a.alerts then s.alertStep x q else s).alert m).settings = (s.alert m).settings := by
    split
    · exact (pendFor_settings ..).trans (pendFor_settings ..)
    · rfl
  unfold State.act
  dsimp only
  split
  · rw [isolateStep_alert, hstep]
  · rw [haltStep_alert, hstep]
  · exact hstep

theorem occur_settings (s : State) (x : Source) (f : FaultFields) (m : Master) :
    ((s.occur x f).alert m).settings = (s.alert m).settings := by
  have hstep : (((s.latch x).recordStep x f).1.alert m).settings = (s.alert m).settings := by
    unfold State.recordStep
    split
    · cases m <;> rfl
    · rw [State.recordsLost, act_settings]
      cases m <;> rfl
  unfold State.occur
  dsimp only
  split
  · cases m <;> rfl
  · rw [act_settings, hstep]

/-- A latch stays SET at an occurrence. -/
theorem occur_latched {s : State} {y : Source} (hy : y ≠ .recordsLost) (h : (s.source y).latch = true) (x : Source)
    (f : FaultFields) : ((s.occur x f).source y).latch = true := by
  rw [occur_source s x f y hy]
  split
  · rfl
  · exact h

theorem occur_latches {s : State} {x : Source} (hx : x ≠ .recordsLost) (f : FaultFields) :
    ((s.occur x f).source x).latch = true := by
  rw [occur_source s x f x hx, if_pos rfl]

/-! ## A torn-down master -/

/-- What a teardown of a master leaves empty, and what it leaves alone. -/
structure TornDown (s : State) (m : Master) (t : State) : Prop where
  buffer  : (t.port m).buffer = []
  credits : (t.port m).creditsOwed = 0
  slots   : (t.port m).slotsUsed = 0
  notice  : (t.port m).notice = none
  orphans : ∀ c x, t.ctx c = some x → x.master = m → x.state = .orphan
  claims  : ∀ k, t.Claimless m k
  other   : (t.port m.other).outer = (s.port m.other).outer
  active  : t.active = s.active
  fixed   : t.fixed = s.fixed
  levels  : (t.alert m).settings = (s.alert m).settings

theorem Port.slotsUsed_eq_zero {p : Port} (h : p.slotsUsed = 0) : p.reserved = 0 ∧ p.filled = [] := by
  obtain ⟨hr, hf⟩ := Nat.add_eq_zero_iff.1 h
  exact ⟨hr, List.length_eq_zero_iff.1 hf⟩

/-- A port is what it is but for its slots, where it has none. -/
theorem Port.eq_of_rest {p q : Port} (h : p.rest = q.rest) (hp : p.slotsUsed = 0) (hq : q.slotsUsed = 0) : p = q := by
  obtain ⟨hpr, hpf⟩ := Port.slotsUsed_eq_zero hp
  obtain ⟨hqr, hqf⟩ := Port.slotsUsed_eq_zero hq
  have hself : ∀ r : Port, r.reserved = 0 → r.filled = [] → r.rest = r := fun r hr hf => by
    rw [Port.rest, ← hr, ← hf]
  rw [hself p hpr hpf, hself q hqr hqf] at h
  exact h

theorem tearDown_empty (now : Time) (p : Port) : (p.tearDown now).buffer = [] ∧ (p.tearDown now).creditsOwed = 0 ∧
    (p.tearDown now).slotsUsed = 0 ∧ (p.tearDown now).notice = none := by
  rw [Port.tearDown_eq]
  exact ⟨rfl, rfl, rfl, rfl⟩

/-- The parts of the Claim Unit and of the Alert Unit in a teardown. -/
def State.disowned (u : State) (m : Master) : State := (u.freeClaimsOf m).clearAlerts m

section
variable (u : State) (m : Master)

theorem disowned_port (w : Master) : (u.disowned m).port w = u.port w := by
  rw [State.disowned, State.clearAlerts, State.port_setAlert, freeClaimsOf_port]

theorem disowned_alert :
    (u.disowned m).alert m = { u.alert m with pending := ⟨none, none, none, none⟩, busy := false } := by
  obtain ⟨claims, hclaims⟩ := freeClaimsOf_eq u m
  rw [State.disowned, State.clearAlerts, State.alert_setAlert_same, hclaims]
  cases m <;> rfl

theorem disowned_ctx (c : CtxId) : (u.disowned m).ctx c = u.ctx c := by
  obtain ⟨claims, hclaims⟩ := freeClaimsOf_eq u m
  rw [State.disowned, hclaims]
  cases m <;> rfl

theorem disowned_claimless (k : ClaimId) : (u.disowned m).Claimless m k := fun c hc =>
  freeClaimsOf_claimless u m k c ((State.claim_setAlert ..).symm.trans hc)

theorem disowned_rest : (u.disowned m).active = u.active ∧ (u.disowned m).sources = u.sources ∧ (u.disowned m).log = u.log := by
  obtain ⟨claims, hclaims⟩ := freeClaimsOf_eq u m
  rw [State.disowned, hclaims]
  cases m <;> exact ⟨rfl, rfl, rfl⟩

end

/-- The Tracker's and the Lane Engines' parts leave the rest of the state as the port's own part left it. -/
theorem tornDown_place (s : State) (m : Master) : ∃ u, s.tornDown m = u.disowned m ∧
    PlaceFrame (s.modifyPort m (Port.tearDown s.timebase)) u ∧
    ∀ c x, u.ctx c = some x → x.master = m → x.state = .orphan :=
  ⟨_, rfl, orphanMaster_place _ m, fun _ _ hx hm => orphanMaster_orphans hx hm⟩

section
variable {s : State} {m : Master}

theorem tornDown_port (s : State) (m : Master) : (s.tornDown m).port m = (s.port m).tearDown s.timebase := by
  obtain ⟨u, hu, hplace, -⟩ := tornDown_place s m
  have hstart : (s.modifyPort m (Port.tearDown s.timebase)).port m = (s.port m).tearDown s.timebase :=
    State.port_setPort_same ..
  have hempty : ((s.port m).tearDown s.timebase).slotsUsed = 0 := by rw [Port.tearDown_eq]; rfl
  rw [hu, disowned_port]
  rw [← hstart] at hempty ⊢
  exact Port.eq_of_rest (hplace.rest m) ((hplace.slots m).trans hempty) hempty

theorem tornDown_alert (s : State) (m : Master) :
    (s.tornDown m).alert m = { s.alert m with pending := ⟨none, none, none, none⟩, busy := false } := by
  obtain ⟨u, hu, hplace, -⟩ := tornDown_place s m
  have halert : u.alert m = s.alert m := (hplace.alert m).trans (State.alert_setPort ..)
  rw [hu, disowned_alert, halert]

/-- The fault unit and the active table in a teardown, before UP_LOST occurs. -/
theorem tornDown_outside (s : State) (m : Master) :
    (s.tornDown m).active = s.active ∧ (s.tornDown m).sources = s.sources ∧ (s.tornDown m).log = s.log := by
  obtain ⟨u, hu, hplace, -⟩ := tornDown_place s m
  obtain ⟨hactive, hsources, hlog⟩ := disowned_rest u m
  have hstart : ∀ {α : Type} (f : Outside → α), (∀ (o : Outside) ls, f { o with lanes := ls } = f o) →
      f u.outside = f (s.modifyPort m (Port.tearDown s.timebase)).outside := fun f hf => by
    rw [hplace.outside, hf]
  have e1 := hstart Outside.active fun _ _ => rfl
  have e2 := hstart Outside.sources fun _ _ => rfl
  have e3 := hstart (fun o => (o.records, o.lostCount, o.nextRecord)) fun _ _ => rfl
  rw [hu, hactive, hsources, hlog]
  exact ⟨e1.trans (by cases m <;> rfl), e2.trans (by cases m <;> rfl), e3.trans (by cases m <;> rfl)⟩

theorem tornDown_torn (s : State) (m : Master) : TornDown s m (s.tornDown m) := by
  have hport := tornDown_port s m
  have halert := tornDown_alert s m
  have hfixed := tornDown_fixed s m
  obtain ⟨hactive, -, -⟩ := tornDown_outside s m
  obtain ⟨u, hu, hplace, horphans⟩ := tornDown_place s m
  obtain ⟨hbuffer, hcredits, hslots, hnotice⟩ := tearDown_empty s.timebase (s.port m)
  rw [← hport] at hbuffer hcredits hslots hnotice
  rw [hu] at hbuffer hcredits hslots hnotice halert hfixed hactive ⊢
  refine ⟨hbuffer, hcredits, hslots, hnotice, fun c x hx hm => ?_, disowned_claimless u m, ?_, hactive, hfixed,
    (congrArg AlertState.settings halert :)⟩
  · rw [disowned_ctx] at hx
    exact horphans c x hx hm
  · rw [disowned_port]
    refine (Port.outer_of_rest (hplace.rest m.other)).trans ?_
    rw [State.modifyPort, State.port_setPort, if_neg (by cases m <;> decide)]

/-- A torn-down master stays so at steps that leave contexts and claims alone and keep the ports but for their ALERT. -/
theorem TornDown.step {t u : State} (h : TornDown s m t) (hreports : Reports t u) (hframe : FaultFrame t u)
    (hactive : u.active = t.active) (hlevels : (u.alert m).settings = (t.alert m).settings) : TornDown s m u := by
  have houter := hframe.outer m
  exact {
    buffer := (congrArg (fun p : Port => p.buffer) houter :).trans h.buffer
    credits := (congrArg (fun p : Port => p.creditsOwed) houter :).trans h.credits
    slots := (hframe.slots m).trans h.slots
    notice := (congrArg (fun p : Port => p.notice) houter :).trans h.notice
    orphans := fun c x hx => h.orphans c x ((hreports.ctx c).symm.trans hx)
    claims := fun k c hc => h.claims k c ((hreports.claim k).symm.trans hc)
    other := (hframe.outer m.other).trans h.other
    active := hactive.trans h.active
    fixed := hframe.fixed.trans h.fixed
    levels := hlevels.trans h.levels }

theorem TornDown.occur {t : State} (h : TornDown s m t) {x : Source} {f : FaultFields} (hf : ¬ Fences x f) :
    TornDown s m (t.occur x f) :=
  h.step (occur_reports t hf) (occur_frame t x f) (occur_active t x f) (occur_settings t x f m)

theorem TornDown.testAlert {t : State} (h : TornDown s m t) : TornDown s m (t.testAlert m) := by
  have honly := testAlert_only t m
  exact h.step honly.reports (testAlert_frame t m) (by rw [honly]) (testAlert_settings t m m)

theorem Port.comeUp_eq (now : Time) (credit : Nat) (p : Port) :
    (p.comeUp now credit).buffer = [] ∧ (p.comeUp now credit).creditsOwed = 0 ∧
      (p.comeUp now credit).slotsUsed = p.slotsUsed ∧ (p.comeUp now credit).notice = p.notice ∧
      (p.comeUp now credit).link = .up ∧ (p.comeUp now credit).requestCredit = 4 ∧
      (p.comeUp now credit).responseCredit = credit := by
  unfold Port.comeUp Port.sendGrant
  split <;> exact ⟨rfl, rfl, rfl, rfl, rfl, rfl, rfl⟩

theorem TornDown.comeUp {t : State} (h : TornDown s m t) (now : Time) (credit : Nat) :
    TornDown s m (t.modifyPort m (Port.comeUp now credit)) := by
  obtain ⟨hbuffer, hcredits, hslots, hnotice, -⟩ := Port.comeUp_eq now credit (t.port m)
  have hport : (t.modifyPort m (Port.comeUp now credit)).port m = (t.port m).comeUp now credit := State.port_setPort_same ..
  refine ⟨by rw [hport]; exact hbuffer, by rw [hport]; exact hcredits, by rw [hport, hslots]; exact h.slots,
    by rw [hport, hnotice]; exact h.notice, fun c x hx => h.orphans c x ?_, fun k c hc => h.claims k c ?_, ?_, ?_, ?_, ?_⟩
  · rw [← hx]; exact (State.ctx_setPort ..).symm
  · rw [← hc]; exact (State.claim_setPort ..).symm
  · rw [State.modifyPort, State.port_setPort, if_neg (by cases m <;> decide)]; exact h.other
  · rw [← h.active]; cases m <;> rfl
  · rw [modifyPort_fixed]; exact h.fixed
  · rw [State.modifyPort, State.alert_setPort]; exact h.levels

/-- A start of a frame before the teardown makes no difference. -/
theorem TornDown.of_upStart {t : State} (h : TornDown (s.upStart m) m t) : TornDown s m t := by
  have hsame : ((s.upStart m).port m.other).outer = (s.port m.other).outer ∧ (s.upStart m).active = s.active ∧
      (s.upStart m).fixed = s.fixed ∧ ((s.upStart m).alert m).settings = (s.alert m).settings := by
    unfold State.upStart
    split
    · exact ⟨rfl, rfl, rfl, rfl⟩
    · refine ⟨(occur_frame ..).outer _ |>.trans ?_, (occur_active ..).trans ?_, (occur_frame ..).fixed.trans ?_,
        (occur_settings ..).trans ?_⟩
      · rw [State.modifyPort, State.port_setPort, if_neg (by cases m <;> decide)]
      · cases m <;> rfl
      · exact modifyPort_fixed ..
      · rw [State.modifyPort, State.alert_setPort]
  obtain ⟨hother, hactive, hfixed, hlevels⟩ := hsame
  exact { h with
    other := h.other.trans hother
    active := h.active.trans hactive
    fixed := h.fixed.trans hfixed
    levels := h.levels.trans hlevels }

end

end Sys2Proof.Machine
end

section
/-! SUPPORT. The events that tear a master down (R165, R166, R174). -/

namespace Sys2Proof.Machine

/-- The words of the statement for a torn-down master. -/
theorem TornDown.holds {s t : State} {m : Master} (h : TornDown s m t) (hlatch : (t.source .upLost).latch = true) :
    (t.port m).buffer = [] ∧ (t.port m).creditsOwed = 0 ∧ (t.port m).reserved = 0 ∧ (t.port m).filled = [] ∧
      (t.port m).notice = none ∧ (∀ c x, t.ctx c = some x → x.master = m → x.state = .orphan) ∧
      (∀ k c, t.claim k = some c → c.owner ≠ m) ∧
      (t.port m.other).link = (s.port m.other).link ∧ (t.port m.other).buffer = (s.port m.other).buffer ∧
      (t.port m.other).requestCredit = (s.port m.other).requestCredit ∧
      (t.port m.other).creditsOwed = (s.port m.other).creditsOwed ∧
      (t.port m.other).responseCredit = (s.port m.other).responseCredit ∧
      t.active = s.active ∧ s.SameSettings t ∧ (t.source .upLost).latch = true ∧
      (t.alert m).levels = (s.alert m).levels ∧ (t.alert m).floor = (s.alert m).floor := by
  obtain ⟨hreserved, hfilled⟩ := Port.slotsUsed_eq_zero h.slots
  exact ⟨h.buffer, h.credits, hreserved, hfilled, h.notice, h.orphans, h.claims,
    (congrArg (fun p : Port => p.link) h.other :), (congrArg (fun p : Port => p.buffer) h.other :),
    (congrArg (fun p : Port => p.requestCredit) h.other :), (congrArg (fun p : Port => p.creditsOwed) h.other :),
    (congrArg (fun p : Port => p.responseCredit) h.other :), h.active, sameSettings_of_fixed h.fixed, hlatch,
    congrArg Prod.fst h.levels, congrArg Prod.snd h.levels⟩

theorem tearDown_torn (s : State) (m : Master) : TornDown s m (s.tearDown m) := by
  rw [tearDown_eq]
  exact (tornDown_torn s m).occur (ofMaster_fences_not _ m)

theorem tearDown_latched (s : State) (m : Master) : ((s.tearDown m).source .upLost).latch = true := by
  rw [tearDown_eq]
  exact occur_latches (by decide) _

theorem tornDown_quiet (s : State) (m : Master) : (s.tornDown m).Quiet m :=
  .inr (by rw [tornDown_port, Port.tearDown_eq]; exact fun h => by cases h)

/-- The port of a torn-down master trains (R163). -/
theorem tearDown_port (s : State) (m : Master) : (s.tearDown m).port m = (s.port m).tearDown s.timebase := by
  rw [tearDown_eq, occur_port_quiet (tornDown_quiet s m) (ofMaster_fences_not _ m), tornDown_port]

theorem pended_get (a : AlertState) (action : Action) (x : Source) (q : Option (BitVec 16)) (c : FaultClass) :
    (a.pended action x q).pending.get c =
      if (action.alerts = true ∧ 0 < a.levels.get x.cls) ∧ c = x.cls then some ⟨x, q⟩ else a.pending.get c := by
  unfold AlertState.pended
  by_cases h : action.alerts = true ∧ 0 < a.levels.get x.cls
  · rw [if_pos h]
    by_cases e : c = x.cls
    · rw [if_pos ⟨h, e⟩, e, PerClass.get_set_same]
    · rw [if_neg fun k => e k.2]
      cases c <;> cases hx : x.cls <;> simp_all [PerClass.get, PerClass.set]
  · rw [if_neg h, if_neg fun k => h k.1]

/-- The alerts of a torn-down master before UP_LOST is pended: RECORDS_LOST may have been. -/
structure Cleared (s : State) (m : Master) (b : AlertState) : Prop where
  busy     : b.busy = false
  levels   : b.levels = (s.alert m).levels
  others   : ∀ c, c ≠ .internal → b.pending.get c = none
  internal : s.records.length < 16 → b.pending.get .internal = none

theorem cleared_empty (s : State) (m : Master) :
    Cleared s m { s.alert m with pending := ⟨none, none, none, none⟩, busy := false } :=
  ⟨rfl, rfl, fun c _ => by cases c <;> rfl, fun _ => rfl⟩

theorem Cleared.lost {s : State} {m : Master} {b : AlertState} (h : Cleared s m b) (hfull : ¬ s.records.length < 16)
    (action : Action) : Cleared s m (b.pended action .recordsLost none) := by
  obtain ⟨hbusy, hlevels, -⟩ := pended_busy b action .recordsLost none
  refine ⟨hbusy.trans h.busy, hlevels.trans h.levels, fun c hc => ?_, fun hroom => absurd hroom hfull⟩
  rw [pended_get, if_neg fun k => hc k.2]
  exact h.others c hc

theorem tearDown_alert (s : State) (m : Master) : ∃ b, Cleared s m b ∧ (s.tearDown m).alert m =
    b.pended (s.source .upLost).action .upLost (if s.records.length < 16 then some s.nextRecord else none) := by
  obtain ⟨-, hsources, hlog⟩ := tornDown_outside s m
  have halert := tornDown_alert s m
  have hsource : ∀ y, (s.tornDown m).source y = s.source y := fun y => by unfold State.source; rw [hsources]
  have hrecords : (s.tornDown m).records = s.records := congrArg Prod.fst hlog
  have hnext : (s.tornDown m).nextRecord = s.nextRecord := congrArg (fun p => p.2.2) hlog
  have hquiet := tornDown_quiet s m
  rw [tearDown_eq]
  generalize s.tornDown m = d at *
  by_cases hi : (d.source .upLost).action = .ignore
  · refine ⟨_, cleared_empty s m, ?_⟩
    rw [occur_ignored _ hi, latch_alert, halert, ← hsource, hi]
    rfl
  · have hocc := occur_alert_quiet (s := d) (x := .upLost) (.ofMaster m) (by decide) hquiet hi
    rw [State.sequence, hrecords, hnext, hsource] at hocc
    refine ⟨_, ?_, hocc⟩
    unfold State.recordedAlert
    rw [hrecords, halert]
    split
    · exact cleared_empty s m
    next hfull => exact (cleared_empty s m).lost hfull _

theorem linkLossEvent_lost {s : State} {m : Master} (hup : (s.port m).link = .up) (h : s.Arrived (s.port m).lastReceived 1000) :
    linkLossEvent m s = s.tearDown m := by
  refine if_pos ?_
  rw [State.linkLossDue, hup]
  exact arrives_of_arrived h

theorem arrived_of_arrives {s : State} {start : Option Time} {n : Nat} (h : s.arrives start n = true) :
    s.Arrived start (BitVec.ofNat 32 n) := by
  unfold State.arrives at h
  split at h
  next u => exact ⟨u, rfl, beq_iff_eq.1 h⟩
  next => cases h

theorem linkLossEvent_heard {s : State} {m : Master} (h : ¬ s.Arrived (s.port m).lastReceived 1000) :
    linkLossEvent m s = s := by
  refine if_neg fun hdue => h ?_
  exact arrived_of_arrives ((Bool.and_eq_true _ _).mp hdue).2

/-- A HELLO at an UP link tears the master down and is then taken (R166). -/
theorem masterHelloEvent_up {s : State} {m : Master} (hup : (s.port m).link = .up) (value : Byte) :
    masterHelloEvent m value s = ((s.upStart m).tearDown m).takeMasterHello m value := by
  have hlink : ((s.upStart m).port m).link = .up := by
    unfold State.upStart
    split
    · exact hup
    · rw [(occur_frame ..).link, State.modifyPort, State.port_setPort_same]
      exact hup
  have hfits : frameFits 2 = true := by decide
  unfold masterHelloEvent State.upFrame
  rw [if_pos hfits, State.masterHello, hlink]

theorem takeMasterHello_good {s t : State} {m : Master} (h : TornDown s m t) (hlatch : (t.source .upLost).latch = true)
    {value : Byte} (h1 : 1 ≤ value.toNat) (h16 : value.toNat ≤ 16) :
    TornDown s m (t.takeMasterHello m value) ∧ ((t.takeMasterHello m value).source .upLost).latch = true ∧
      ((t.takeMasterHello m value).port m).link = .up ∧ ((t.takeMasterHello m value).port m).requestCredit = 4 ∧
      ((t.takeMasterHello m value).port m).responseCredit = value.toNat := by
  rw [takeMasterHello_taken h1 h16]
  have htorn := (h.comeUp t.timebase value.toNat)
  have hport : (t.modifyPort m (Port.comeUp t.timebase value.toNat)).port m = (t.port m).comeUp t.timebase value.toNat :=
    State.port_setPort_same ..
  have hsource : (t.modifyPort m (Port.comeUp t.timebase value.toNat)).source .upLost = t.source .upLost :=
    State.source_setPort ..
  obtain ⟨-, -, -, -, hlink, hrequest, hresponse⟩ := Port.comeUp_eq t.timebase value.toNat (t.port m)
  rw [← hport] at hlink hrequest hresponse
  generalize t.modifyPort m (Port.comeUp t.timebase value.toNat) = u at *
  have houter := (testAlert_frame u m).outer m
  refine ⟨htorn.testAlert, ?_, ?_, ?_, ?_⟩
  · rw [(testAlert_only u m).source, hsource]; exact hlatch
  · exact (congrArg (fun p : Port => p.link) houter :).trans hlink
  · exact (congrArg (fun p : Port => p.requestCredit) houter :).trans hrequest
  · exact (congrArg (fun p : Port => p.responseCredit) houter :).trans hresponse

/-- Settles O8. -/
theorem teardownEmptiesMaster : Obligations.TeardownEmptiesMaster := by
  intro s m hrun hup torn action pends
  refine ⟨fun h => ⟨s.tearDown m, happens_eq hrun (linkLossEvent_lost hup h), ?_⟩,
    fun h => happens_eq hrun (linkLossEvent_heard h), fun value => ?_⟩
  · obtain ⟨b, hb, halert⟩ := tearDown_alert s m
    have hpends : pends ↔ action.alerts = true ∧ 0 < b.levels.get Source.upLost.cls := by
      rw [hb.levels]
      refine and_congr ?_ Iff.rfl
      cases action <;> simp [Action.alerts]
    have hget := pended_get b action .upLost (if s.records.length < 16 then some s.nextRecord else none)
    obtain ⟨hbusy, -, -⟩ := pended_busy b action .upLost (if s.records.length < 16 then some s.nextRecord else none)
    refine ⟨(tearDown_torn s m).holds (tearDown_latched s m), ?_, ?_, ?_, ?_, ?_, ?_, ?_, fun h => ?_, fun h => ?_, fun h => ?_⟩
    · rw [tearDown_port, Port.tearDown_eq]; rfl
    · rw [tearDown_port, Port.tearDown_eq]; rfl
    · rw [tearDown_port, Port.tearDown_eq]; rfl
    · rw [tearDown_port, Port.tearDown_eq]; rfl
    · rw [halert]; exact hbusy.trans hb.busy
    · rw [halert]; exact (hget .fabric).trans ((if_neg fun k => by cases k.2).trans (hb.others _ (by decide)))
    · rw [halert]; exact (hget .target).trans ((if_neg fun k => by cases k.2).trans (hb.others _ (by decide)))
    · rw [halert]; exact (hget .link).trans (if_pos ⟨hpends.1 h, rfl⟩)
    · rw [halert]; exact (hget .link).trans ((if_neg fun k => h (hpends.2 k.1)).trans (hb.others _ (by decide)))
    · rw [halert]; exact (hget .internal).trans ((if_neg fun k => by cases k.2).trans (hb.internal h))
  · have htorn : TornDown s m ((s.upStart m).tearDown m) := (tearDown_torn _ m).of_upStart
    have hlatch := tearDown_latched (s.upStart m) m
    have hport := tearDown_port (s.upStart m) m
    refine ⟨_, happens_eq hrun (masterHelloEvent_up hup value), ?_⟩
    generalize (s.upStart m).tearDown m = t at *
    have htraining : (t.port m).link = .training ∧ (t.port m).requestCredit = 0 ∧ (t.port m).responseCredit = 0 := by
      rw [hport, Port.tearDown_eq]; exact ⟨rfl, rfl, rfl⟩
    by_cases hgood : 1 ≤ value.toNat ∧ value.toNat ≤ 16
    · obtain ⟨htorn', hlatch', hlink⟩ := takeMasterHello_good htorn hlatch hgood.1 hgood.2
      exact ⟨htorn'.holds hlatch', fun _ _ => hlink, fun hbad => by omega⟩
    · have hbad : value.toNat < 1 ∨ 16 < value.toNat := by omega
      rw [takeMasterHello_malformed hbad]
      refine ⟨(htorn.occur (ofMaster_fences_not _ m)).holds (occur_latched (by decide) hlatch _ _),
        fun h1 h16 => absurd ⟨h1, h16⟩ hgood, fun _ => ?_⟩
      rw [occur_port_quiet (.inr (by rw [htraining.1]; decide)) (ofMaster_fences_not _ m)]
      exact htraining

end Sys2Proof.Machine
end

section
/-! SUPPORT. The completion of a leg (R61 to R70), as the statements write it. -/

namespace Sys2Proof.Machine

/-! ## The fall of a count and the claim that it may grant (R14, R127, R128) -/

/-- What the Claim Unit reads and writes when a count has fallen. -/
def State.drainView (s : State) : Vector (Option Claim) 8 × (Master → Target → Nat) × Time × Port × Port :=
  (s.claims, s.inFlight, s.timebase, s.portM0, s.portM1)

theorem drainView_of {s u : State} (hclaims : u.claims = s.claims) (hcounts : ∀ w v, u.inFlight w v = s.inFlight w v)
    (hrest : (u.timebase, u.portM0, u.portM1) = (s.timebase, s.portM0, s.portM1)) : u.drainView = s.drainView :=
  Prod.ext hclaims (Prod.ext (funext fun w => funext fun v => hcounts w v) hrest)

section
variable {s u : State} (h : u.drainView = s.drainView)
include h

theorem drainView_claim (k : ClaimId) : u.claim k = s.claim k := congrArg (fun v => v.1[k]) h

theorem drainView_inFlight (m : Master) (t : Target) : u.inFlight m t = s.inFlight m t :=
  congrFun (congrFun (congrArg (fun v => v.2.1) h) m) t

theorem drainView_drainingOn (m : Master) (t : Target) : u.drainingOn m t = s.drainingOn m t := by
  unfold State.drainingOn
  simp only [drainView_claim h]

theorem drainView_drained (c : Claim) : u.drained c = s.drained c := by
  unfold State.drained
  simp only [drainView_inFlight h]

/-- A grant by states of one view. -/
theorem grantClaim_view (k : ClaimId) :
    (u.grantClaim k).claims = (s.grantClaim k).claims ∧ ∀ w, (u.grantClaim k).port w = (s.grantClaim k).port w := by
  have hclaims : u.claims = s.claims := congrArg Prod.fst h
  have htime : u.timebase = s.timebase := congrArg (fun v => v.2.2.1) h
  have hport : ∀ w, u.port w = s.port w := fun w => by
    cases w
    · exact congrArg (fun v => v.2.2.2.1) h
    · exact congrArg (fun v => v.2.2.2.2) h
  have hlease : ∀ lease, u.leaseDeadline lease = s.leaseDeadline lease := fun lease => by
    unfold State.leaseDeadline State.after; rw [htime]
  unfold State.grantClaim
  rw [drainView_claim h]
  split
  next c _ =>
    split
    · rw [hlease]
      refine ⟨?_, fun w => ?_⟩
      · have e : ∀ (v : State) (r : Response) (n : Master), (v.fillSlot n r).claims = v.claims := fun v r n => by
          cases n <;> rfl
        rw [e, e, State.setClaim, State.setClaim, hclaims]
      · simp only [State.fillSlot, State.modifyPort, State.port_setPort, State.port_setClaim, hport]
    · exact ⟨hclaims, hport⟩
  · exact ⟨hclaims, hport⟩

theorem reexamine_view (m : Master) (t : Target) :
    (u.reexamine m t).claims = (s.reexamine m t).claims ∧ ∀ w, (u.reexamine m t).port w = (s.reexamine m t).port w := by
  have hsame : u.claims = s.claims ∧ ∀ w, u.port w = s.port w := by
    refine ⟨congrArg Prod.fst h, fun w => ?_⟩
    cases w
    · exact congrArg (fun v => v.2.2.2.1) h
    · exact congrArg (fun v => v.2.2.2.2) h
  unfold State.reexamine
  rw [drainView_drainingOn h]
  split
  next k _ =>
    rw [drainView_claim h]
    split
    next c _ =>
      rw [drainView_drained h]
      split
      · exact grantClaim_view h k
      · exact hsame
    · exact hsame
  · exact hsame

end

/-- The counts after one of them has been set. -/
theorem inFlight_setCount (s : State) (m w : Master) (t v : Target) (n : Nat) :
    (s.setRecord t ((s.record t).setInFlight m n)).inFlight w v = if w = m ∧ v = t then n else s.inFlight w v := by
  unfold State.inFlight
  rw [State.record_setRecord]
  by_cases e : v = t
  · subst e
    rw [if_pos rfl]
    rcases eq_or_eq_other m w with e | e
    · rw [e, if_pos ⟨rfl, rfl⟩]
      cases m <;> rfl
    · rw [e, if_neg (by cases m <;> simp [Master.other])]
      cases m <;> rfl
  · rw [if_neg e, if_neg fun h => e h.2]

theorem fall_view {s u : State} (h : u.drainView = s.drainView) (m : Master) (t : Target) :
    (u.fall m t).claims = (s.fall m t).claims ∧ ∀ w, (u.fall m t).port w = (s.fall m t).port w := by
  have hview : (u.setRecord t ((u.record t).setInFlight m (u.inFlight m t - 1))).drainView =
      (s.setRecord t ((s.record t).setInFlight m (s.inFlight m t - 1))).drainView :=
    drainView_of (congrArg Prod.fst h)
      (fun w v => by rw [inFlight_setCount, inFlight_setCount, drainView_inFlight h, drainView_inFlight h])
      (congrArg (fun v => v.2.2) h)
  exact reexamine_view hview m t

theorem inFlight_eq_of_record {s u : State} {m : Master} {v : Target} (h : u.record v = s.record v) :
    u.inFlight m v = s.inFlight m v := by
  unfold State.inFlight; rw [h]

theorem fall_inFlight (s : State) (m : Master) (t : Target) : (s.fall m t).inFlight m t = s.inFlight m t - 1 := by
  unfold State.inFlight
  rw [fall_record, if_pos rfl]
  cases m <;> rfl

theorem fall_inFlight_other (s : State) {m w : Master} {t v : Target} (h : w ≠ m ∨ v ≠ t) :
    (s.fall m t).inFlight w v = s.inFlight w v := by
  by_cases e : v = t
  · subst e
    have hw := h.resolve_right fun h => h rfl
    unfold State.inFlight
    rw [fall_record, if_pos rfl]
    rcases eq_or_eq_other m w with e | e
    · exact absurd e hw
    · rw [e]; cases m <;> rfl
  · exact inFlight_eq_of_record (by rw [fall_record, if_neg e])

/-! ## One completion -/

/-- The record of a target after the outcome of a leg of this master (R61, R14). -/
def TargetRecord.taking (r : TargetRecord) (m : Master) (o : LegOutcome) (n : Nat) : TargetRecord :=
  ({ r with consecutive := nextConsecutive o r.consecutive, errors := nextErrors o r.errors } : TargetRecord).setInFlight m
    (if o = .timeout then n else n - 1)

section
variable {s : State} {r : LegRef} {o : LegOutcome} {ws : List Word} {x : Ctx} {g : Leg} (hx : s.ctx r.ctx = some x)
  (hg : x.leg r.target = some g) (hu : g.unfinished = true)
include hx hg hu

theorem complete_record (v : Target) : (s.complete r o ws).record v =
    if v = r.target then (s.record v).taking x.master o (s.inFlight x.master v) else s.record v := by
  have hrecord : ((s.setCtx r.ctx (some (x.endLeg r.target o ws))).takeOutcome x.master r.target o).record v =
      if v = r.target then (s.record v).taking x.master o (s.inFlight x.master v) else s.record v := by
    rw [takeOutcome_record]
    split
    next e => rw [e]; rfl
    next => rfl
  rw [complete_eq hx hg hu]
  dsimp only
  split
  · rw [endContext_record, hrecord]
  · exact hrecord

/-- The state after the outcome is taken, without the end of the context. -/
theorem complete_unended (h : (x.endLeg r.target o ws).unfinished ≠ 0) :
    s.complete r o ws = (s.setCtx r.ctx (some (x.endLeg r.target o ws))).takeOutcome x.master r.target o := by
  rw [complete_eq hx hg hu]
  exact if_neg h

theorem complete_last (h : (x.endLeg r.target o ws).unfinished = 0) :
    s.complete r o ws = ((s.setCtx r.ctx (some (x.endLeg r.target o ws))).takeOutcome x.master r.target o).endContext r.ctx
      (x.endLeg r.target o ws) := by
  rw [complete_eq hx hg hu]
  exact if_pos h

end

theorem endContext_claims (s : State) (c : CtxId) (x : Ctx) : (s.endContext c x).claims = s.claims := by
  unfold State.endContext
  split
  · cases x.master <;> rfl
  · rfl

theorem endContext_port_other (s : State) (c : CtxId) (x : Ctx) : (s.endContext c x).port x.master.other = s.port x.master.other := by
  unfold State.endContext
  split
  · cases x.master <;> rfl
  · exact State.port_setCtx ..

/-- The end of an ACTIVE context fills a slot of its master, where one is reserved (R68, R170). -/
theorem endContext_filled {s : State} {x : Ctx} {tag : Byte} (c : CtxId) (hs : x.state = .active tag)
    (hslot : 0 < (s.port x.master).reserved) : ((s.endContext c x).port x.master).filled =
      (s.port x.master).filled ++ [{ x with mismatch := x.mismatchTarget }.response tag] := by
  unfold State.endContext
  rw [hs]
  dsimp only
  rw [State.fillSlot, State.modifyPort, State.port_setPort_same, State.port_setCtx, Port.fill, if_neg hslot.ne']

/-- An outcome that is not TIMEOUT lowers the count as a fall does. -/
theorem takeOutcome_claims (s : State) (m : Master) (t : Target) (o : LegOutcome) :
    (o = .timeout → (s.takeOutcome m t o).claims = s.claims ∧ ∀ w, (s.takeOutcome m t o).port w = s.port w) ∧
    (o ≠ .timeout → (s.takeOutcome m t o).claims = (s.fall m t).claims ∧
      ∀ w, (s.takeOutcome m t o).port w = (s.fall m t).port w) := by
  unfold State.takeOutcome
  dsimp only
  refine ⟨fun h => ?_, fun h => ?_⟩
  · rw [if_pos h]
    exact ⟨rfl, fun w => State.port_setRecord ..⟩
  · rw [if_neg h]
    have hview : (s.setRecord t { s.record t with
        consecutive := nextConsecutive o (s.record t).consecutive, errors := nextErrors o (s.record t).errors }).drainView =
        s.drainView := by
      refine drainView_of rfl (fun w v => ?_) rfl
      unfold State.inFlight
      rw [State.record_setRecord]
      split
      next e => rw [e]; rfl
      next => rfl
    exact fall_view hview m t

/-! ## The response (R68, R69) -/

theorem Ctx.endLeg_leg {x : Ctx} {t : Target} {g : Leg} (hg : x.leg t = some g) (o : LegOutcome) (ws : List Word) :
    (x.endLeg t o ws).leg t = some { g with state := .done o, data := x.kept o ws } := by
  obtain ⟨-, ht⟩ := Ctx.leg_eq_some hg
  unfold Ctx.leg at hg ⊢
  rw [Ctx.endLeg_legs, List.find?_map]
  have hp : ((fun h : Leg => decide (h.target = t)) ∘ Leg.endAt t o (x.kept o ws)) = fun h => decide (h.target = t) :=
    funext fun h => by rw [Function.comp_apply, Leg.endAt_target]
  rw [hp, hg, Option.map_some, Leg.endAt_same ht]

theorem Ctx.response_tag (x : Ctx) (tag : Byte) :
    (x.response tag).tag = tag ∧ (x.response tag).generation = some x.generation := by
  unfold Ctx.response
  split
  · exact ⟨rfl, rfl⟩
  · exact ⟨rfl, rfl⟩
  · exact ⟨rfl, rfl⟩
  · unfold Ctx.unicastResponse
    split <;> exact ⟨rfl, rfl⟩

/-- A kind whose requests go to one target (R69). -/
def Kind.Unicast (k : Kind) : Prop := k = .read ∨ k = .write ∨ k = .modify

theorem Ctx.response_unicast {x : Ctx} (h : x.kind.Unicast) (tag : Byte) : x.response tag = x.unicastResponse tag := by
  unfold Ctx.response
  rcases h with h | h | h <;> rw [h]

/-- The one leg of a unicast request, ended, decides its response. -/
theorem Ctx.endLeg_response {x : Ctx} {t : Target} {g : Leg} (h : x.kind.Unicast) (hlegs : x.legs = [g])
    (ht : g.target = t) (o : LegOutcome) (ws : List Word) (u : Option Target) (tag : Byte) :
    Ctx.response { x.endLeg t o ws with mismatch := u } tag =
      ⟨tag, o.status, none, some x.generation, none, unicastData { g with state := .done o, data := x.kept o ws }⟩ := by
  have hended : Ctx.legs { x.endLeg t o ws with mismatch := u } = [{ g with state := .done o, data := x.kept o ws }] := by
    change (x.endLeg t o ws).legs = _
    rw [Ctx.endLeg_legs, hlegs, List.map_singleton, Leg.endAt_same ht]
  have hkind : Kind.Unicast (Ctx.kind { x.endLeg t o ws with mismatch := u }) := h
  rw [Ctx.response_unicast hkind, Ctx.unicastResponse, hended]
  rfl

/-- What the last completion of an ACTIVE context adds to the slots of its master (R68). -/
theorem complete_filled {s : State} {r : LegRef} {o : LegOutcome} {ws : List Word} {x : Ctx} {g : Leg} {tag : Byte}
    (hx : s.ctx r.ctx = some x) (hg : x.leg r.target = some g) (hu : g.unfinished = true) (hlast : x.unfinished = 1)
    (hs : x.state = .active tag) (hslot : 0 < (s.port x.master).reserved) :
    ((s.complete r o ws).port x.master).filled = (s.port x.master).filled ++
      [Ctx.response { x.endLeg r.target o ws with mismatch := (x.endLeg r.target o ws).mismatchTarget } tag] := by
  have hzero : (x.endLeg r.target o ws).unfinished = 0 := by
    change x.unfinished - 1 = 0; rw [hlast]
  have hport : ((s.setCtx r.ctx (some (x.endLeg r.target o ws))).takeOutcome x.master r.target o).port x.master =
      s.port x.master := by rw [takeOutcome_port, State.port_setCtx]
  rw [complete_last hx hg hu hzero]
  have hfilled := endContext_filled (s := (s.setCtx r.ctx (some (x.endLeg r.target o ws))).takeOutcome x.master r.target o)
    (x := x.endLeg r.target o ws) r.ctx hs (by change 0 < (State.port _ x.master).reserved; rw [hport]; exact hslot)
  exact hfilled.trans (by change (State.port _ x.master).filled ++ _ = _; rw [hport])

theorem nextErrors_eq (o : LegOutcome) (n : Nat) :
    ((∃ code, o = .targetError code) ∨ o = .timeout ∨ o = .badResponse → nextErrors o n = min (n + 1) 65535) ∧
    ((∀ code, o ≠ .targetError code) → o ≠ .timeout → o ≠ .badResponse → nextErrors o n = n) := by
  refine ⟨fun h => ?_, fun h1 h2 h3 => ?_⟩
  · rcases h with ⟨code, rfl⟩ | rfl | rfl <;> rfl
  · cases o with
    | targetError code => exact absurd rfl (h1 code)
    | timeout => exact absurd rfl h2
    | badResponse => exact absurd rfl h3
    | _ => rfl

theorem nextConsecutive_eq (o : LegOutcome) (n : Nat) :
    nextConsecutive o n = if o = .timeout then min (n + 1) 15 else if o = .ok then 0 else n := by
  cases o <;> rfl

theorem taking_eq (r : TargetRecord) (m : Master) (o : LegOutcome) (n : Nat) :
    (r.taking m o n).health = r.health ∧ (r.taking m o n).consecutive = nextConsecutive o r.consecutive ∧
      (r.taking m o n).errors = nextErrors o r.errors := by
  unfold TargetRecord.taking
  cases m <;> exact ⟨rfl, rfl, rfl⟩

section
variable {s : State} {r : LegRef} {o : LegOutcome} {ws : List Word} {x : Ctx} {g : Leg} (hx : s.ctx r.ctx = some x)
  (hg : x.leg r.target = some g) (hu : g.unfinished = true)
include hx hg hu

theorem complete_inFlight : (s.complete r o ws).inFlight x.master r.target =
    if o = .timeout then s.inFlight x.master r.target else s.inFlight x.master r.target - 1 := by
  have hrecord := complete_record (o := o) (ws := ws) hx hg hu r.target
  rw [if_pos rfl] at hrecord
  generalize s.inFlight x.master r.target = n at *
  unfold State.inFlight
  rw [hrecord]
  unfold TargetRecord.taking
  cases x.master <;> rfl

theorem complete_inFlight_other {w : Master} {v : Target} (h : w ≠ x.master ∨ v ≠ r.target) :
    (s.complete r o ws).inFlight w v = s.inFlight w v := by
  have hrecord := complete_record (o := o) (ws := ws) hx hg hu v
  split at hrecord
  next e =>
    have hw : w = x.master.other :=
      (eq_or_eq_other x.master w).resolve_left (h.resolve_right fun hv => hv e)
    rw [hw]
    unfold State.inFlight
    rw [hrecord]
    unfold TargetRecord.taking
    cases x.master <;> rfl
  next => exact inFlight_eq_of_record hrecord

theorem complete_claims :
    (o = .timeout → (s.complete r o ws).claims = s.claims ∧
      (s.complete r o ws).port x.master.other = s.port x.master.other) ∧
    (o ≠ .timeout → (s.complete r o ws).claims = (s.fall x.master r.target).claims ∧
      (s.complete r o ws).port x.master.other = (s.fall x.master r.target).port x.master.other) := by
  have hview : State.drainView (s.setCtx r.ctx (some (x.endLeg r.target o ws))) = s.drainView := rfl
  have hfall : ((s.setCtx r.ctx (some (x.endLeg r.target o ws))).fall x.master r.target).claims = (s.fall x.master r.target).claims ∧
      ∀ w, ((s.setCtx r.ctx (some (x.endLeg r.target o ws))).fall x.master r.target).port w = (s.fall x.master r.target).port w :=
    fall_view hview x.master r.target
  obtain ⟨htimeout, hother⟩ := takeOutcome_claims (s.setCtx r.ctx (some (x.endLeg r.target o ws))) x.master r.target o
  have hend : (s.complete r o ws).claims =
        ((s.setCtx r.ctx (some (x.endLeg r.target o ws))).takeOutcome x.master r.target o).claims ∧
      (s.complete r o ws).port x.master.other =
        ((s.setCtx r.ctx (some (x.endLeg r.target o ws))).takeOutcome x.master r.target o).port x.master.other := by
    rw [complete_eq hx hg hu]
    dsimp only
    split
    · exact ⟨endContext_claims .., endContext_port_other ..⟩
    · exact ⟨rfl, rfl⟩
  refine ⟨fun h => ?_, fun h => ?_⟩
  · obtain ⟨hc, hp⟩ := htimeout h
    exact ⟨hend.1.trans hc, hend.2.trans ((hp _).trans (State.port_setCtx ..))⟩
  · obtain ⟨hc, hp⟩ := hother h
    exact ⟨hend.1.trans (hc.trans hfall.1), hend.2.trans ((hp _).trans (hfall.2 _))⟩

end

/-- Settles O41. -/
theorem completionUpdatesContextAndRecord : Obligations.CompletionUpdatesContextAndRecord := by
  intro s c t x g o words hx hg hstate u
  have hu : g.unfinished = true := (Leg.unfinished_iff g).2 hstate
  have hframe : LegFrame s u := complete_frame s ⟨c, t⟩ o words
  have hrecord : ∀ v, u.record v = if v = t then (s.record v).taking x.master o (s.inFlight x.master v) else s.record v :=
    complete_record (r := ⟨c, t⟩) hx hg hu
  have hself := (hrecord t).trans (if_pos rfl)
  obtain ⟨hhealth, hconsecutive, herrors⟩ := taking_eq (s.record t) x.master o (s.inFlight x.master t)
  obtain ⟨herr, hnoerr⟩ := nextErrors_eq o (s.record t).errors
  obtain ⟨htimeout, hother⟩ := complete_claims (r := ⟨c, t⟩) (o := o) (ws := words) hx hg hu
  have hctx : ∀ d, u.ctx d = if d = c then if (x.endLeg t o words).unfinished = 0 then none else some (x.endLeg t o words)
      else s.ctx d := complete_ctx (r := ⟨c, t⟩) hx hg hu
  have houtside := hframe.outside
  have hlegs := Ctx.endLeg_leg hg o words
  refine ⟨by rw [hself, hhealth], by rw [hself, hconsecutive, nextConsecutive_eq], fun h => ?_, fun h1 h2 h3 => ?_,
    complete_inFlight (r := ⟨c, t⟩) hx hg hu, ?_, fun v hv => (hrecord v).trans (if_neg hv), fun d hd => (hctx d).trans (if_neg hd),
    (congrArg Outside.lanes houtside :), (congrArg Outside.active houtside :), (congrArg Outside.hub houtside :),
    (congrArg Outside.sources houtside :), (congrArg Outside.records houtside :), (congrArg Outside.alertM0 houtside :),
    (congrArg Outside.alertM1 houtside :), sameSettings_of_fixed (congrArg Outside.fixed houtside), htimeout, hother,
    fun hmany => ⟨x.endLeg t o words, ?_, rfl, rfl, fun ho => ?_, fun ho => ?_, rfl, _, hlegs, rfl⟩,
    fun hlast => ⟨?_, fun tag hs hslot => ⟨_, complete_filled hx hg hu hlast hs hslot, ?_⟩⟩⟩
  · rw [hself, herrors, herr h]
  · rw [hself, herrors, hnoerr h1 h2 h3]
  · exact complete_inFlight_other (r := ⟨c, t⟩) hx hg hu (.inl (by cases x.master <;> decide))
  · have hleft : (x.endLeg t o words).unfinished ≠ 0 := by
      change x.unfinished - 1 ≠ 0; omega
    rw [hctx c, if_pos rfl, if_neg hleft]
  · exact if_pos ho
  · exact if_neg ho
  · have hzero : (x.endLeg t o words).unfinished = 0 := by
      change x.unfinished - 1 = 0; rw [hlast]
    rw [hctx c, if_pos rfl, if_pos hzero]
  · obtain ⟨htag, hgeneration⟩ := Ctx.response_tag
      { x.endLeg t o words with mismatch := (x.endLeg t o words).mismatchTarget } tag
    refine ⟨htag, hgeneration, fun hone hkind => ?_⟩
    have hresponse := Ctx.endLeg_response (t := t) hkind hone (Ctx.leg_eq_some hg).2 o words
      (x.endLeg t o words).mismatchTarget tag
    exact ⟨congrArg Response.status hresponse, congrArg Response.summary hresponse⟩

end Sys2Proof.Machine
end

section
/-! SUPPORT. The response of a context whose last leg has ended (R68 to R70, R32 to R36), as the statements write it. -/

namespace Sys2Proof.Machine

/-- A context in its place has the right counts (R62, R64, R67). -/
theorem counted_of_legsPlaced {s : State} (h : s.LegsPlaced) {c : CtxId} {x : Ctx} (hx : s.ctx c = some x) : x.Counted := by
  cases hd : s.resetDue with
  | true => rw [(legsPlaced_due hd).1 h c] at hx; cases hx
  | false => exact ((legsPlaced_standing hd).1 h).counted c x hx

/-! ## Group responses -/

theorem keepsData_eq (k : Kind) :
    k.keepsData = (k == .read || k == .modify || k == .gread .matching || k == .gread .list) := by
  cases k with
  | gread c => cases c <;> rfl
  | _ => rfl

theorem groupStatus_eq (total ok : Nat) (mismatch : Option Target) :
    groupStatus total ok mismatch =
      if mismatch ≠ none then .mismatch else if ok = 0 then .failed else if ok < total then .partialOk else .ok := by
  unfold groupStatus
  cases mismatch <;> rfl

theorem find?_filter_mismatch (legs : List Leg) (reference : List Word) :
    legs.find? (fun g => g.state == .done .ok && g.data != some reference) =
      (legs.filter (fun h => h.state = .done .ok)).find? (fun h => h.data != some reference) := by
  rw [List.find?_filter]
  congr 1
  funext g
  rw [Bool.eq_iff_iff]
  simp

/-- The mismatch target is the lowest OK leg whose data differ from those of the lowest OK leg (R33, R67). -/
theorem Ctx.Tallied.mismatch {x : Ctx} (h : x.Tallied) (hactive : x.state ≠ .orphan) :
    x.mismatchTarget = if x.kind = .gread .matching then
      ((x.legs.filter (fun h => h.state = .done .ok)).find?
        (fun h => h.data != (x.legs.filter (fun h => h.state = .done .ok)).head?.bind Leg.data)).map Leg.target
      else none := by
  obtain ⟨-, -, hmatch⟩ := h
  by_cases hk : x.kind = .gread .matching
  · obtain ⟨hacc, hdata⟩ := hmatch hk hactive
    have hhead : (x.legs.filter (fun h => h.state = .done .ok)).head? = x.legs.find? (fun h => h.state = .done .ok) :=
      List.head?_filter ..
    rw [if_pos hk, hhead, ← hacc]
    unfold Ctx.mismatchTarget
    rw [hk]
    cases ha : x.accumulator with
    | some reference => exact congrArg (Option.map Leg.target) (find?_filter_mismatch x.legs reference)
    | none =>
      have hnone : x.legs.filter (fun h => h.state = .done .ok) = [] := by
        rw [ha] at hacc
        cases hfind : x.legs.find? (fun h => h.state = .done .ok) with
        | none => rw [← List.head?_eq_none_iff, hhead, hfind]
        | some g =>
          rw [hfind] at hacc
          exact absurd hacc.symm (hdata g (List.mem_of_find?_eq_some hfind) (by simpa using List.find?_some hfind))
      rw [hnone]
      rfl
  · rw [if_neg hk]
    unfold Ctx.mismatchTarget
    split
    next h _ => exact absurd h hk
    next => rfl

/-- The data of a group response (R70). -/
theorem Ctx.Tallied.groupData {x : Ctx} (h : x.Tallied) (hactive : x.state ≠ .orphan) :
    x.groupData = match x.kind with
      | .gread .list => .records (x.legs.filterMap (fun h =>
          match h.state with
          | .done p => some ⟨h.target, p, h.data⟩
          | _ => none))
      | .gread .matching =>
        (((x.legs.filter (fun h => h.state = .done .ok)).head?.bind Leg.data).map ResponseData.words).getD .none
      | .gread _ => (x.accumulator.map ResponseData.words).getD .none
      | _ => .none := by
  obtain ⟨-, -, hmatch⟩ := h
  have hrecords : listRecords x.legs = x.legs.filterMap (fun h =>
      match h.state with
      | .done p => some ⟨h.target, p, h.data⟩
      | _ => none) := by
    unfold listRecords
    congr 1
    funext g
    unfold Leg.outcome
    cases g.state <;> rfl
  have hhead : (x.legs.filter (fun h => h.state = .done .ok)).head? = x.legs.find? (fun h => h.state = .done .ok) :=
    List.head?_filter ..
  unfold Ctx.groupData
  cases hk : x.kind with
  | gread c =>
    cases c with
    | list => exact congrArg ResponseData.records hrecords
    | matching =>
      rw [hhead, ← (hmatch hk hactive).1]
      dsimp only
      cases x.accumulator <;> rfl
    | _ =>
      dsimp only
      cases x.accumulator <;> rfl
  | _ => rfl

theorem Ctx.response_group {x : Ctx} (h : ¬ x.kind.Unicast) (tag : Byte) : x.response tag = x.groupResponse tag := by
  unfold Ctx.response
  cases hk : x.kind with
  | read => exact absurd (.inl hk) h
  | write => exact absurd (.inr (.inl hk)) h
  | modify => exact absurd (.inr (.inr hk)) h
  | _ => rfl

/-- A group context answers with what it tallies of its legs (R70). -/
theorem Ctx.Tallied.groupResponse {x : Ctx} (h : x.Tallied) (hactive : x.state ≠ .orphan) (tag : Byte) :
    Ctx.groupResponse { x with mismatch := x.mismatchTarget } tag = x.groupAnswer tag x.legs x.accumulator := by
  have hdata : Ctx.groupData { x with mismatch := x.mismatchTarget } = x.groupData := rfl
  have hcount : x.legsOk = (x.legs.filter (fun h => h.state = .done .ok)).length := by
    rw [h.1, List.countP_eq_length_filter]
  have hzero : (x.legsOk = 0) = (x.legs.filter (fun h => h.state = .done .ok) = []) := by
    rw [hcount]; exact propext List.length_eq_zero_iff
  unfold Ctx.groupResponse Ctx.groupAnswer
  rw [hdata, h.groupData hactive, groupStatus_eq, h.mismatch hactive]
  dsimp only
  rw [← hcount, ← h.2.1]
  simp only [hzero] <;> rfl

theorem Ctx.kept_active {x : Ctx} {tag : Byte} (h : x.state = .active tag) (o : LegOutcome) (ws : List Word) :
    x.kept o ws = if o = .ok ∧ x.kind.keepsData = true then some ws else none := by
  have htag : x.tag.isSome = true := by rw [Ctx.tag, h]; rfl
  unfold Ctx.kept
  rw [htag]
  simp only [true_and]

/-- The data of the one leg of a unicast request (R69). -/
theorem unicastData_kept {x : Ctx} {tag : Byte} (hs : x.state = .active tag) (hkind : x.kind.Unicast) (g : Leg)
    (o : LegOutcome) (ws : List Word) :
    unicastData { g with state := .done o, data := x.kept o ws } = match o with
      | .ok => if x.kind = .write then .none else .words ws
      | .targetError code => .fields [code]
      | _ => .none := by
  cases o with
  | ok =>
    rw [Ctx.kept_active hs]
    rcases hkind with h | h | h <;> rw [h] <;> rfl
  | _ => rfl

/-- Settles O42: the last leg leaves the context tallied, and a tallied context answers as the statement writes it. -/
theorem lastCompletionBuildsResponse : Obligations.LastCompletionBuildsResponse := by
  intro s c t x g o words tag hplaced hx hg hstate hlast hs hslot answers keeps legs
  have hu : g.unfinished = true := (Leg.unfinished_iff g).2 hstate
  have hfilled := complete_filled (r := ⟨c, t⟩) (o := o) (ws := words) hx hg hu hlast hs hslot
  refine ⟨fun hone hkind => ?_, fun hread hwrite hmodify => ?_⟩
  · rw [Ctx.endLeg_response (t := t) hkind hone (Ctx.leg_eq_some hg).2, unicastData_kept hs hkind] at hfilled
    refine hfilled.trans ?_
    cases o <;> rfl
  · have hgroup : ¬ (Ctx.kind { x.endLeg t o words with mismatch := (x.endLeg t o words).mismatchTarget }).Unicast := fun h => by
      rcases h with h | h | h
      · exact hread h
      · exact hwrite h
      · exact hmodify h
    have hactive : (x.endLeg t o words).state ≠ .orphan := fun h => by cases hs.symm.trans h
    have htallied := (counted_of_legsPlaced hplaced hx).endLeg_tallied hg hu o words
    have hlegs : (x.endLeg t o words).legs = legs := by
      rw [Ctx.endLeg_legs, Ctx.kept_active hs, keepsData_eq]
      rfl
    rw [Ctx.response_group hgroup, htallied.groupResponse hactive, hlegs] at hfilled
    exact hfilled

end Sys2Proof.Machine
end

section
/-! SUPPORT. The accumulator of a context over the legs that end (R66, R67), as the statements write it. -/

namespace Sys2Proof.Machine

/-- The end of a leg: its target, its outcome and its data. -/
abbrev LegEnd := Target × LegOutcome × List Word

def LegEnd.Ok (e : LegEnd) : Prop := e.2.1 = .ok

def Ctx.endLegs (x : Ctx) (es : List LegEnd) : Ctx := es.foldl (fun y e => y.endLeg e.1 e.2.1 e.2.2) x

/-- The data of the legs that end OK, in the order of their ends. -/
def okData (es : List LegEnd) : List (List Word) := (es.filter (fun e => e.2.1 = .ok)).map (fun e => e.2.2)

theorem mem_okData {es : List LegEnd} {d : List Word} : d ∈ okData es ↔ ∃ e ∈ es, e.Ok ∧ e.2.2 = d := by
  unfold okData LegEnd.Ok
  simp [List.mem_map, List.mem_filter]

theorem okData_eq_nil {es : List LegEnd} : okData es = [] ↔ ∀ e ∈ es, ¬ e.Ok := by
  unfold okData LegEnd.Ok
  simp

theorem Ctx.endLegs_same (x : Ctx) (es : List LegEnd) :
    (x.endLegs es).kind = x.kind ∧ (x.endLegs es).state = x.state ∧
      (x.endLegs es).legs.map Leg.target = x.legs.map Leg.target := by
  induction es generalizing x with
  | nil => exact ⟨rfl, rfl, rfl⟩
  | cons e es ih =>
    obtain ⟨hkind, hstate, hlegs⟩ := ih (x.endLeg e.1 e.2.1 e.2.2)
    refine ⟨hkind, hstate, hlegs.trans ?_⟩
    rw [Ctx.endLeg_legs, List.map_map]
    exact List.map_congr_left fun g _ => Leg.endAt_target ..

theorem Ctx.endLeg_accumulator_ok {x : Ctx} {tag : Byte} (h : x.state = .active tag) (t : Target) (ws : List Word) :
    (x.endLeg t .ok ws).accumulator = x.nextAccumulator t ws := by
  refine if_pos ⟨rfl, ?_⟩
  rw [Ctx.tag, h]; rfl

theorem Ctx.endLeg_accumulator_failed (x : Ctx) (t : Target) {o : LegOutcome} (h : o ≠ .ok) (ws : List Word) :
    (x.endLeg t o ws).accumulator = x.accumulator := if_neg fun k => h k.1

/-! ## OR and AND (R66) -/

/-- The next accumulator of a kind that combines. -/
def combineData (f : Word → Word → Word) (acc : Option (List Word)) (d : List Word) : Option (List Word) :=
  match acc with
  | some a => some (List.zipWith f a d)
  | none => some d

/-- The accumulator folds the data of the OK legs. -/
theorem Ctx.endLegs_combined {f : Word → Word → Word} {k : Kind}
    (hk : ∀ (x : Ctx) t ws, x.kind = k → x.nextAccumulator t ws = combineData f x.accumulator ws) {tag : Byte}
    (es : List LegEnd) {x : Ctx} (hkind : x.kind = k) (hs : x.state = .active tag) :
    (x.endLegs es).accumulator = (okData es).foldl (combineData f) x.accumulator := by
  induction es generalizing x with
  | nil => rfl
  | cons e es ih =>
    obtain ⟨t, o, ws⟩ := e
    refine (ih (x := x.endLeg t o ws) hkind hs).trans ?_
    by_cases ho : o = .ok
    · subst ho
      have hdata : okData ((t, .ok, ws) :: es) = ws :: okData es := rfl
      rw [Ctx.endLeg_accumulator_ok hs, hk x t ws hkind, hdata, List.foldl_cons]
    · have hdata : okData ((t, o, ws) :: es) = okData es := by
        unfold okData
        rw [List.filter_cons_of_neg (by simpa using ho)]
      rw [Ctx.endLeg_accumulator_failed x t ho, hdata]

theorem foldl_combineData (f : Word → Word → Word) (ds : List (List Word)) (a : List Word) :
    ds.foldl (combineData f) (some a) = some (ds.foldl (List.zipWith f) a) := by
  induction ds generalizing a with
  | nil => rfl
  | cons d ds ih => exact ih _

/-- Lists of one length, combined word by word. -/
theorem foldl_zipWith_getD {n : Nat} (f : Word → Word → Word) (ds : List (List Word)) (a : List Word) (ha : a.length = n)
    (hds : ∀ d ∈ ds, d.length = n) : (ds.foldl (List.zipWith f) a).length = n ∧
      ∀ i, i < n → (ds.foldl (List.zipWith f) a)[i]? = some ((ds.map (·.getD i 0)).foldl f (a.getD i 0)) := by
  induction ds generalizing a with
  | nil =>
    refine ⟨ha, fun i hi => ?_⟩
    rw [List.foldl_nil, List.map_nil, List.foldl_nil, List.getD_eq_getElem _ _ (by omega), List.getElem?_eq_getElem (by omega)]
  | cons d ds ih =>
    have hd : d.length = n := hds d List.mem_cons_self
    have hlen : (List.zipWith f a d).length = n := by rw [List.length_zipWith, ha, hd, Nat.min_self]
    obtain ⟨hl, hget⟩ := ih (List.zipWith f a d) hlen fun e he => hds e (List.mem_cons_of_mem _ he)
    refine ⟨hl, fun i hi => (hget i hi).trans ?_⟩
    rw [List.map_cons, List.foldl_cons, List.getD_eq_getElem _ _ (by omega), List.getElem_zipWith,
      List.getD_eq_getElem a _ (by omega), List.getD_eq_getElem d _ (by omega)]

/-- What OR and AND leave in the accumulator of a context that had none. -/
theorem combined_getElem? {n : Nat} {f : Word → Word → Word} [Std.Commutative f] [Std.Associative f] {unit : Word}
    (hunit : ∀ w, f unit w = w) {ds : List (List Word)} (hne : ds ≠ []) (hds : ∀ d ∈ ds, d.length = n) :
    ∃ acc, ds.foldl (combineData f) none = some acc ∧ acc.length = n ∧
      ∀ i, i < n → acc[i]? = some (ds.foldr (fun d v => f (d.getD i 0) v) unit) := by
  cases ds with
  | nil => exact absurd rfl hne
  | cons d ds =>
    obtain ⟨hlen, hget⟩ := foldl_zipWith_getD f ds d (hds d List.mem_cons_self) fun e he => hds e (List.mem_cons_of_mem _ he)
    refine ⟨_, foldl_combineData f ds d, hlen, fun i hi => (hget i hi).trans (congrArg some ?_)⟩
    calc (ds.map (·.getD i 0)).foldl f (d.getD i 0)
      _ = ((d :: ds).map (·.getD i 0)).foldl f unit := by rw [List.map_cons, List.foldl_cons, hunit]
      _ = ((d :: ds).map (·.getD i 0)).foldr f unit := List.foldl_eq_foldr ..
      _ = (d :: ds).foldr (fun d v => f (d.getD i 0) v) unit := List.foldr_map ..

/-! ## MATCH (R67) -/

/-- A leg of the context to this target has ended OK. -/
def Ctx.OkAt (x : Ctx) (u : Target) : Prop := ∃ g ∈ x.legs, g.target = u ∧ g.state = .done .ok

theorem Ctx.lowerOk_iff (x : Ctx) (t : Target) : x.lowerOk t = true ↔ ∃ u, u < t ∧ x.OkAt u := by
  unfold Ctx.lowerOk Ctx.OkAt
  rw [List.any_eq_true]
  constructor
  · rintro ⟨g, hg, h⟩
    rw [Bool.and_eq_true, decide_eq_true_iff, beq_iff_eq] at h
    exact ⟨g.target, h.1, g, hg, rfl, h.2⟩
  · rintro ⟨u, hu, g, hg, rfl, hs⟩
    exact ⟨g, hg, by rw [Bool.and_eq_true, decide_eq_true_iff, beq_iff_eq]; exact ⟨hu, hs⟩⟩

theorem Ctx.okAt_endLeg {x : Ctx} {t : Target} (ht : ∃ g ∈ x.legs, g.target = t) (o : LegOutcome) (ws : List Word) (u : Target) :
    (x.endLeg t o ws).OkAt u ↔ if u = t then o = .ok else x.OkAt u := by
  unfold Ctx.OkAt
  simp only [Ctx.endLeg_legs, List.mem_map]
  by_cases e : u = t
  · subst e
    rw [if_pos rfl]
    constructor
    · rintro ⟨_, ⟨g, hg, rfl⟩, hgt, hs⟩
      rw [Leg.endAt_target] at hgt
      rw [Leg.endAt_same hgt] at hs
      exact LegState.done.inj hs
    · rintro rfl
      obtain ⟨g, hg, hgt⟩ := ht
      exact ⟨_, ⟨g, hg, rfl⟩, (Leg.endAt_target ..).trans hgt, by rw [Leg.endAt_same hgt]⟩
  · rw [if_neg e]
    constructor
    · rintro ⟨_, ⟨g, hg, rfl⟩, hgt, hs⟩
      rw [Leg.endAt_target] at hgt
      rw [Leg.endAt_other (by rw [hgt]; exact e)] at hs
      exact ⟨g, hg, hgt, hs⟩
    · rintro ⟨g, hg, hgt, hs⟩
      exact ⟨_, ⟨g, hg, rfl⟩, (Leg.endAt_target ..).trans hgt, by rw [Leg.endAt_other (by rw [hgt]; exact e)]; exact hs⟩

/-- The lowest OK end of the list. -/
def LowestOk (es : List LegEnd) (e : LegEnd) : Prop := e ∈ es ∧ e.Ok ∧ ∀ f ∈ es, f.Ok → e.1 ≤ f.1

theorem exists_lowestOk {es : List LegEnd} (h : ∃ e ∈ es, e.Ok) : ∃ e, LowestOk es e := by
  induction es with
  | nil => obtain ⟨e, he, -⟩ := h; cases he
  | cons e es ih =>
    by_cases hrest : ∃ f ∈ es, f.Ok
    · obtain ⟨f, hf, hok, hlow⟩ := ih hrest
      by_cases he : e.Ok ∧ e.1 ≤ f.1
      · refine ⟨e, List.mem_cons_self, he.1, fun k hk hkok => ?_⟩
        rcases List.mem_cons.1 hk with rfl | hk
        · exact le_refl _
        · exact he.2.trans (hlow k hk hkok)
      · refine ⟨f, List.mem_cons_of_mem _ hf, hok, fun k hk hkok => ?_⟩
        rcases List.mem_cons.1 hk with rfl | hk
        · exact (lt_of_not_ge fun hle => he ⟨hkok, hle⟩).le
        · exact hlow k hk hkok
    · obtain ⟨k, hk, hok⟩ := h
      rcases List.mem_cons.1 hk with rfl | hk
      · refine ⟨k, List.mem_cons_self, hok, fun f hf hfok => ?_⟩
        rcases List.mem_cons.1 hf with rfl | hf
        · exact le_refl _
        · exact absurd ⟨f, hf, hfok⟩ hrest
      · exact absurd ⟨k, hk, hok⟩ hrest

section
variable {x : Ctx} (hnone : ∀ g ∈ x.legs, g.state ≠ .done .ok)
include hnone

/-- The legs that have ended OK are the ones that the list ended so. -/
theorem Ctx.okAt_endLegs (es : List LegEnd) (hnodup : (es.map Prod.fst).Nodup)
    (hin : ∀ e ∈ es, ∃ g ∈ x.legs, g.target = e.1) (u : Target) :
    (x.endLegs es).OkAt u ↔ ∃ e ∈ es, e.1 = u ∧ e.Ok := by
  induction es using List.reverseRecOn with
  | nil =>
    refine ⟨fun ⟨g, hg, _, hok⟩ => absurd hok (hnone g hg), fun ⟨e, he, _⟩ => by cases he⟩
  | append_singleton es e ih =>
    rw [List.map_append, List.map_singleton, List.nodup_append] at hnodup
    obtain ⟨hnodup, -, hdisjoint⟩ := hnodup
    have hih := ih hnodup fun f hf => hin f (List.mem_append_left _ hf)
    have hfold : x.endLegs (es ++ [e]) = (x.endLegs es).endLeg e.1 e.2.1 e.2.2 := List.foldl_concat ..
    have htarget : ∃ g ∈ (x.endLegs es).legs, g.target = e.1 := by
      obtain ⟨g, hg, ht⟩ := hin e (List.mem_append_right _ List.mem_cons_self)
      have hm : e.1 ∈ (x.endLegs es).legs.map Leg.target := by
        rw [(x.endLegs_same es).2.2, ← ht]; exact List.mem_map_of_mem hg
      exact List.mem_map.1 hm
    rw [hfold, Ctx.okAt_endLeg htarget]
    split
    next e' =>
      refine ⟨fun hok => ⟨e, List.mem_append_right _ List.mem_cons_self, e'.symm, hok⟩, fun ⟨f, hf, hfu, hok⟩ => ?_⟩
      rcases List.mem_append.1 hf with hf | hf
      · exact absurd (hfu.trans e') (hdisjoint f.1 (List.mem_map_of_mem hf) e.1 List.mem_cons_self)
      · rw [List.mem_singleton.1 hf] at hok; exact hok
    next e' =>
      rw [hih]
      refine ⟨fun ⟨f, hf, h⟩ => ⟨f, List.mem_append_left _ hf, h⟩, fun ⟨f, hf, hfu, hok⟩ => ?_⟩
      rcases List.mem_append.1 hf with hf | hf
      · exact ⟨f, hf, hfu, hok⟩
      · rw [List.mem_singleton.1 hf] at hfu; exact absurd hfu.symm e'

/-- A MATCH keeps the data of the lowest OK leg. -/
theorem Ctx.endLegs_matching {tag : Byte} (hs : x.state = .active tag) (hk : x.kind = .gread .matching) (hacc : x.accumulator = none) (es : List LegEnd)
    (hnodup : (es.map Prod.fst).Nodup) (hin : ∀ e ∈ es, ∃ g ∈ x.legs, g.target = e.1) :
    (okData es = [] → (x.endLegs es).accumulator = none) ∧
      ∀ e, LowestOk es e → (x.endLegs es).accumulator = some e.2.2 := by
  induction es using List.reverseRecOn with
  | nil => exact ⟨fun _ => hacc, fun e he => by cases he.1⟩
  | append_singleton es e ih =>
    have hall := hnodup
    rw [List.map_append, List.map_singleton, List.nodup_append] at hnodup
    obtain ⟨hnodup, -, hdisjoint⟩ := hnodup
    have hin' : ∀ f ∈ es, ∃ g ∈ x.legs, g.target = f.1 := fun f hf => hin f (List.mem_append_left _ hf)
    obtain ⟨ihnone, ihlow⟩ := ih hnodup hin'
    have hokAt := Ctx.okAt_endLegs hnone es hnodup hin'
    obtain ⟨hkind, hstate, -⟩ := x.endLegs_same es
    have hfold : x.endLegs (es ++ [e]) = (x.endLegs es).endLeg e.1 e.2.1 e.2.2 := List.foldl_concat ..
    have hmem : e ∈ es ++ [e] := List.mem_append_right _ List.mem_cons_self
    rw [hfold]
    generalize x.endLegs es = y at *
    by_cases ho : e.Ok
    · have hnext : (y.endLeg e.1 e.2.1 e.2.2).accumulator = if y.lowerOk e.1 then y.accumulator else some e.2.2 := by
        have hok : e.2.1 = .ok := ho
        rw [hok, Ctx.endLeg_accumulator_ok (hstate.trans hs), Ctx.nextAccumulator_matching (hkind.trans hk)]
      refine ⟨fun hnil => absurd ho (okData_eq_nil.1 hnil e hmem), fun f ⟨hf, hfok, hlow⟩ => hnext.trans ?_⟩
      rcases List.mem_append.1 hf with hf | hf
      · have hne : f.1 ≠ e.1 := hdisjoint f.1 (List.mem_map_of_mem hf) e.1 List.mem_cons_self
        have hlower : y.lowerOk e.1 = true :=
          (Ctx.lowerOk_iff y e.1).2 ⟨f.1, lt_of_le_of_ne (hlow e hmem ho) hne, (hokAt f.1).2 ⟨f, hf, rfl, hfok⟩⟩
        rw [if_pos hlower]
        exact ihlow f ⟨hf, hfok, fun k hk hkok => hlow k (List.mem_append_left _ hk) hkok⟩
      · obtain rfl := List.mem_singleton.1 hf
        refine if_neg fun hlower => ?_
        obtain ⟨u, hu, hat⟩ := (Ctx.lowerOk_iff y f.1).1 hlower
        obtain ⟨k, hk, rfl, hkok⟩ := (hokAt u).1 hat
        exact absurd hu (not_lt.2 (hlow k (List.mem_append_left _ hk) hkok))
    · rw [Ctx.endLeg_accumulator_failed y e.1 ho]
      refine ⟨fun hnil => ihnone ?_, fun f ⟨hf, hfok, hlow⟩ => ihlow f ⟨?_, hfok, fun k hk hkok =>
        hlow k (List.mem_append_left _ hk) hkok⟩⟩
      · exact okData_eq_nil.2 fun f hf => okData_eq_nil.1 hnil f (List.mem_append_left _ hf)
      · rcases List.mem_append.1 hf with hf | hf
        · exact hf
        · rw [List.mem_singleton.1 hf] at hfok; exact absurd hfok ho

end

/-! ## Every kind (R66, R67) -/

theorem Ctx.nextAccumulator_combining {x : Ctx} {f : Word → Word → Word}
    (hk : x.kind = .gread .or ∧ f = (· ||| ·) ∨ x.kind = .gread .and ∧ f = (· &&& ·)) (t : Target) (ws : List Word) :
    x.nextAccumulator t ws = combineData f x.accumulator ws := by
  unfold Ctx.nextAccumulator
  rcases hk with ⟨hk, rfl⟩ | ⟨hk, rfl⟩ <;> rw [hk] <;> cases x.accumulator <;> rfl

/-- The kinds that fold the data of their legs. -/
def Kind.Folds (k : Kind) : Prop := k = .gread .or ∨ k = .gread .and ∨ k = .gread .matching

theorem Ctx.nextAccumulator_plain {x : Ctx} (hk : ¬ x.kind.Folds) (t : Target) (ws : List Word) :
    x.nextAccumulator t ws = x.accumulator := by
  unfold Ctx.nextAccumulator
  split
  next e _ => exact absurd (.inl e) hk
  next e _ => exact absurd (.inr (.inl e)) hk
  next e _ => exact absurd (.inl e) hk
  next e _ => exact absurd (.inr (.inl e)) hk
  next e => exact absurd (.inr (.inr e)) hk
  next => rfl

theorem Ctx.endLegs_plain (es : List LegEnd) {x : Ctx} (hk : ¬ x.kind.Folds) : (x.endLegs es).accumulator = x.accumulator := by
  induction es generalizing x with
  | nil => rfl
  | cons e es ih =>
    refine (ih (x := x.endLeg e.1 e.2.1 e.2.2) hk).trans ?_
    have hnext : (x.endLeg e.1 e.2.1 e.2.2).accumulator =
        if e.2.1 = .ok ∧ x.tag.isSome then x.nextAccumulator e.1 e.2.2 else x.accumulator := rfl
    rw [hnext, Ctx.nextAccumulator_plain hk, ite_self]

theorem Ctx.endLegs_accumulator_of_none_ok {x : Ctx} {es : List LegEnd} (h : okData es = []) :
    (x.endLegs es).accumulator = x.accumulator := by
  induction es generalizing x with
  | nil => rfl
  | cons e es ih =>
    have hok := okData_eq_nil.1 h
    refine (ih (x := x.endLeg e.1 e.2.1 e.2.2) (okData_eq_nil.2 fun f hf => hok f (List.mem_cons_of_mem _ hf))).trans ?_
    exact Ctx.endLeg_accumulator_failed x e.1 (hok e List.mem_cons_self) e.2.2

theorem okData_perm {es fs : List LegEnd} (h : es.Perm fs) : (okData es).Perm (okData fs) := (h.filter _).map _

theorem LowestOk.perm {es fs : List LegEnd} {e : LegEnd} (h : LowestOk es e) (hp : es.Perm fs) : LowestOk fs e :=
  ⟨hp.mem_iff.1 h.1, h.2.1, fun f hf => h.2.2 f (hp.mem_iff.2 hf)⟩

/-- A combination does not depend on the order of the data. -/
theorem combined_perm {n : Nat} {f : Word → Word → Word} [Std.Commutative f] [Std.Associative f] {unit : Word}
    (hunit : ∀ w, f unit w = w) {ds es : List (List Word)} (hp : ds.Perm es) (hds : ∀ d ∈ ds, d.length = n) :
    es.foldl (combineData f) none = ds.foldl (combineData f) none := by
  by_cases hne : ds = []
  · subst hne; rw [hp.nil_eq]
  · have hne' : es ≠ [] := fun e => hne (e ▸ hp).eq_nil
    obtain ⟨a, ha, hal, hag⟩ := combined_getElem? hunit hne hds
    obtain ⟨b, hb, hbl, hbg⟩ := combined_getElem? hunit hne' fun d hd => hds d (hp.mem_iff.2 hd)
    have hfold : ∀ i, es.foldr (fun d v => f (d.getD i 0) v) unit = ds.foldr (fun d v => f (d.getD i 0) v) unit := fun i => by
      rw [← List.foldr_map (f := fun d : List Word => d.getD i 0), ← List.foldr_map (f := fun d : List Word => d.getD i 0)]
      exact (hp.symm.map _).foldr_eq _
    rw [ha, hb]
    refine congrArg some (List.ext_getElem? fun i => ?_)
    by_cases hi : i < n
    · rw [hag i hi, hbg i hi, hfold]
    · rw [List.getElem?_eq_none (by omega), List.getElem?_eq_none (by omega)]

/-- Settles O43: OR and AND fold the data word by word from their units, a MATCH keeps the lowest OK leg's. -/
theorem accumulatorCombinesOkLegs : Obligations.AccumulatorCombinesOkLegs := by
  unfold Obligations.AccumulatorCombinesOkLegs
  refine ⟨fun x t o ws h => if_neg fun k => ?_, fun x tag ends hs hacc hnone hnodup hin hlen => ?_⟩
  · obtain ⟨-, ht⟩ := k
    rw [Ctx.tag, h] at ht
    cases ht
  intro after oks
  have hoks : ∀ d ∈ okData ends, d.length = x.count := fun d hd => by
    obtain ⟨e, he, hok, rfl⟩ := mem_okData.1 hd
    exact hlen e he hok
  have hor : x.kind = .gread .or → ∀ es, after es = (okData es).foldl (combineData (· ||| ·)) none := fun hk es =>
    hacc ▸ Ctx.endLegs_combined (fun y t ws hy => Ctx.nextAccumulator_combining (.inl ⟨hy, rfl⟩) t ws) es hk hs
  have hand : x.kind = .gread .and → ∀ es, after es = (okData es).foldl (combineData (· &&& ·)) none := fun hk es =>
    hacc ▸ Ctx.endLegs_combined (fun y t ws hy => Ctx.nextAccumulator_combining (.inr ⟨hy, rfl⟩) t ws) es hk hs
  have zeroOr : ∀ w : Word, 0 ||| w = w := fun _ => BitVec.zero_or
  have onesAnd : ∀ w : Word, BitVec.allOnes 32 &&& w = w := fun _ => BitVec.allOnes_and
  have hmatch := fun hk => Ctx.endLegs_matching hnone hs hk hacc
  refine ⟨fun h => (Ctx.endLegs_accumulator_of_none_ok h).trans hacc, fun hne hk => ?_, fun hne hk => ?_,
    fun hk e he hok hlow => (hmatch hk ends hnodup hin).2 e ⟨he, hok, hlow⟩, fun other hp => ?_⟩
  · rw [hor hk]; exact combined_getElem? zeroOr hne hoks
  · rw [hand hk]; exact combined_getElem? onesAnd hne hoks
  · by_cases hfolds : x.kind.Folds
    · rcases hfolds with hk | hk | hk
      · rw [hor hk, hor hk]; exact combined_perm zeroOr (okData_perm hp) hoks
      · rw [hand hk, hand hk]; exact combined_perm onesAnd (okData_perm hp) hoks
      · have hnodup' : (other.map Prod.fst).Nodup := ((hp.map _).nodup_iff).1 hnodup
        obtain ⟨hnil, hlow⟩ := hmatch hk ends hnodup hin
        obtain ⟨hnil', hlow'⟩ := hmatch hk other hnodup' fun e he => hin e (hp.mem_iff.2 he)
        by_cases hok : ∃ e ∈ ends, LegEnd.Ok e
        · obtain ⟨e, he⟩ := exists_lowestOk hok
          exact (hlow' e (he.perm hp)).trans (hlow e he).symm
        · have hnone' : okData ends = [] := okData_eq_nil.2 fun e he h => hok ⟨e, he, h⟩
          have hnone'' : okData other = [] := (hnone' ▸ okData_perm hp).nil_eq.symm
          exact (hnil' hnone'').trans (hnil hnone').symm
    · exact (Ctx.endLegs_plain other hfolds).trans (Ctx.endLegs_plain ends hfolds).symm

end Sys2Proof.Machine
end

section
/-! SUPPORT. A LEG-BACK at a lane (R95 to R97), and the fall of an in-flight count (R14, R127), as the statements write
them. -/

namespace Sys2Proof.Machine

/-! ## The search of the window -/

theorem findSome?_finRange_of_least {n : Nat} {α : Type*} {f : Fin n → Option α} {i : Fin n} {a : α} (h : f i = some a)
    (hlow : ∀ j, j < i → f j = none) : (List.finRange n).findSome? f = some a := by
  rw [List.findSome?_eq_some_iff]
  refine ⟨(List.finRange n).take i, i, (List.finRange n).drop (i + 1), ?_, h, fun j hj => hlow j ?_⟩
  · have hi : (i : Nat) < (List.finRange n).length := by simp
    have hget : (List.finRange n)[(i : Nat)] = i := by simp
    calc List.finRange n
      _ = (List.finRange n).take i ++ (List.finRange n).drop i := (List.take_append_drop ..).symm
      _ = _ := by rw [List.drop_eq_getElem_cons hi, hget]
  · obtain ⟨k, hk, rfl⟩ := List.mem_take_iff_getElem.1 hj
    rw [List.getElem_finRange]
    exact Fin.lt_def.2 (Nat.lt_of_lt_of_le hk (Nat.min_le_left ..))

theorem issuedSlot_of_least {x : Lane} {q : Byte} {w : SlotId} {c : CtxId} {m : Master} {t : Target} {d : Time}
    (hw : Least (fun w => ∃ c m t d, x.slot w = .issued q c m t d) w) (h : x.slot w = .issued q c m t d) :
    x.issuedSlot q = some (w, ⟨c, t⟩, m) := by
  refine findSome?_finRange_of_least (by rw [h]; exact if_pos rfl) fun v hv => ?_
  have hno := hw.2 v hv
  split
  next p c' m' t' d' e => exact if_neg fun hp : p = q => hno ⟨c', m', t', d', hp ▸ e⟩
  next => rfl

theorem issuedSlot_eq_none {x : Lane} {q : Byte} (h : ∀ w c m t d, x.slot w ≠ .issued q c m t d) : x.issuedSlot q = none := by
  refine List.findSome?_eq_none_iff.2 fun v _ => ?_
  split
  next p c m t d e => exact if_neg fun hp : p = q => h v c m t d (hp ▸ e)
  next => rfl

theorem expiredSlot_of_least {x : Lane} {q : Byte} {w : SlotId} {m : Master} {t : Target}
    (hw : Least (fun w => ∃ m t, x.slot w = .expired q m t) w) (h : x.slot w = .expired q m t) :
    x.expiredSlot q = some (w, m, t) := by
  refine findSome?_finRange_of_least (by rw [h]; exact if_pos rfl) fun v hv => ?_
  have hno := hw.2 v hv
  split
  next p m' t' e => exact if_neg fun hp : p = q => hno ⟨m', t', hp ▸ e⟩
  next => rfl

theorem expiredSlot_eq_none {x : Lane} {q : Byte} (h : ∀ w m t, x.slot w ≠ .expired q m t) : x.expiredSlot q = none := by
  refine List.findSome?_eq_none_iff.2 fun v _ => ?_
  split
  next p m t e => exact if_neg fun hp : p = q => h v m t (hp ▸ e)
  next => rfl

/-! ## A LEG-BACK of good length -/

theorem slotFreed_standing {s : State} (h : s.resetDue = false) (m : Master) (t : Target) : s.slotFreed m t = s.fall m t := by
  unfold State.slotFreed
  rw [h]; exact if_neg Bool.false_ne_true

theorem modifyLane_setLane (s : State) (l : LaneId) (x : Lane) (f : Lane → Lane) :
    (s.setLane l x).modifyLane l f = s.setLane l (f x) := by
  simp [State.modifyLane, State.setLane, State.lane]

section
variable {s : State} {l : LaneId} {f : LegBackFrame}
  (hphase : s.phase = .running ∨ ∃ before, s.phase = .resetting before) (hd : (s.lane l).state ≠ .disabled)
  (hr : (s.lane l).receiver = .hunting) (hfit : f.rest.length ≤ 1016)
include hphase hd hr hfit

theorem legBack_row : exec (.legBack l f) s = .next (s.judgeLegBack l f) := by
  have hrow : exec (.legBack l f) s = .next (legBackEvent l f s) := happensAtLane_eq (f := legBackEvent l f) hphase
  rw [hrow]
  exact congrArg _ (laneFrame_fits hd hr (by unfold LegBackFrame.bytes; omega) (by unfold LegBackFrame.bytes; omega) _)

theorem legBack_row_sound (hlen : legBackLengthOk f = true) :
    exec (.legBack l f) s = .next ((s.setLane l ((s.lane l).heard s.timebase)).takeLegBack l f) := by
  rw [legBack_row hphase hd hr hfit]
  exact congrArg _ (if_pos hlen)

end

section
variable {s : State} {l : LaneId} {f : LegBackFrame}

theorem takeLegBack_issued {w : SlotId} {c : CtxId} {m : Master} {t : Target} {d : Time}
    (hw : Least (fun w => ∃ c m t d, (s.lane l).slot w = .issued f.seq c m t d) w)
    (h : (s.lane l).slot w = .issued f.seq c m t d) : s.takeLegBack l f = s.answerLeg l w ⟨c, t⟩ m f := by
  unfold State.takeLegBack
  rw [issuedSlot_of_least hw h]

variable (hno : ∀ w c m t d, (s.lane l).slot w ≠ .issued f.seq c m t d)
include hno

theorem takeLegBack_late {w : SlotId} {m : Master} {t : Target}
    (hw : Least (fun w => ∃ m t, (s.lane l).slot w = .expired f.seq m t) w) (h : (s.lane l).slot w = .expired f.seq m t) :
    s.takeLegBack l f = ((s.modifyLane l (fun x => x.setSlot w .free)).slotFreed m t).occur .lateResponse
      { FaultFields.none with lane := some l, target := some t } := by
  unfold State.takeLegBack
  rw [issuedSlot_eq_none hno, expiredSlot_of_least hw h]

theorem takeLegBack_stray (h : ∀ w m t, (s.lane l).slot w ≠ .expired f.seq m t) :
    s.takeLegBack l f = s.occur .strayResponse (.ofLane l) := by
  unfold State.takeLegBack
  rw [issuedSlot_eq_none hno, expiredSlot_eq_none h]

end

/-! ## The outcome of a LEG-BACK (R95, R96) -/

theorem matchesLeg_iff (f : LegBackFrame) (x : Ctx) (g : Leg) : matchesLeg f x g = true ↔
    (f.station.toNat = g.station.val ∧ f.op = legOpCode x.legOp) ∧
      ((f.error = false ∧ f.arg.toNat = x.count) ∨ (f.error = true ∧ f.arg ≠ 0)) := by
  unfold matchesLeg
  rw [Bool.and_eq_true, Bool.and_eq_true, beq_iff_eq, beq_iff_eq]
  cases f.error <;> simp

section
variable {f : LegBackFrame} {x : Ctx} {g : Leg}

theorem legBackOutcome_ok (h : f.station.toNat = g.station.val ∧ f.op = legOpCode x.legOp) (he : f.error = false)
    (ha : f.arg.toNat = x.count) : legBackOutcome f x g = .ok := by
  have hm : matchesLeg f x g = true := (matchesLeg_iff ..).2 ⟨h, .inl ⟨he, ha⟩⟩
  unfold legBackOutcome
  rw [if_pos hm, he]; rfl

theorem legBackOutcome_error (h : f.station.toNat = g.station.val ∧ f.op = legOpCode x.legOp) (he : f.error = true)
    (ha : f.arg ≠ 0) : legBackOutcome f x g = .targetError f.arg := by
  have hm : matchesLeg f x g = true := (matchesLeg_iff ..).2 ⟨h, .inr ⟨he, ha⟩⟩
  unfold legBackOutcome
  rw [if_pos hm, he]; rfl

theorem legBackOutcome_bad (h : ¬ ((f.station.toNat = g.station.val ∧ f.op = legOpCode x.legOp) ∧
    ((f.error = false ∧ f.arg.toNat = x.count) ∨ (f.error = true ∧ f.arg ≠ 0)))) : legBackOutcome f x g = .badResponse :=
  if_neg fun hm => h ((matchesLeg_iff ..).1 hm)

end

theorem answerLeg_sent {s : State} {l : LaneId} {w : SlotId} {r : LegRef} {x : Ctx} {g : Leg}
    (hsent : s.sentCtx r.ctx = some x) (hg : x.leg r.target = some g) (m : Master) (f : LegBackFrame) :
    s.answerLeg l w r m f = ((s.setLane l ((s.lane l).setSlot w .free)).complete r (legBackOutcome f x g)
      (readWords f.rest)).legBackFault (legBackOutcome f x g) (legFields l r.target m (s.ctx r.ctx)) := by
  unfold State.answerLeg
  rw [hsent]
  dsimp only
  rw [hg] <;> rfl

theorem answerLeg_eq {s : State} (hrun : s.phase = .running) {l : LaneId} {w : SlotId} {r : LegRef} {x : Ctx} {g : Leg}
    (hx : s.ctx r.ctx = some x) (hg : x.leg r.target = some g) (m : Master) (f : LegBackFrame) : s.answerLeg l w r m f =
      ((s.setLane l ((s.lane l).setSlot w .free)).complete r (legBackOutcome f x g) (readWords f.rest)).legBackFault
        (legBackOutcome f x g) { lane := some l, target := some r.target, master := some m, tag := x.tag, detail := none } := by
  rw [answerLeg_sent ((State.sentCtx_running s hrun r.ctx).trans hx) hg, hx]
  rfl

/-- Settles O39: the search of the window finds the slot named, and the outcome is read off the leg. -/
theorem legBackEndsItsLeg : Obligations.LegBackEndsItsLeg := by
  unfold Obligations.LegBackEndsItsLeg
  intro s l f hrun hd hr hfit
  refine ⟨fun hlen => ?_, fun hlen w c m t d x g hw hslot hx hg => ?_⟩
  · rw [legBack_row (.inl hrun) hd hr hfit]
    exact congrArg _ (if_neg (by rw [hlen]; exact Bool.false_ne_true))
  intro heard u words fields same
  have hheard : (s.lane l).heard s.timebase = heard := lane_heard ..
  have htake : exec (.legBack l f) s = .next ((u.complete ⟨c, t⟩ (legBackOutcome f x g) words).legBackFault
      (legBackOutcome f x g) fields) := by
    rw [legBack_row_sound (.inl hrun) hd hr hfit hlen, hheard]
    have hu : (s.setLane l heard).setLane l (((s.setLane l heard).lane l).setSlot w .free) = u :=
      modifyLane_setLane s l heard fun x => x.setSlot w .free
    have hslots : ((s.setLane l heard).lane l).slot = (s.lane l).slot := by rw [State.lane_setLane_same]; rfl
    rw [takeLegBack_issued (by rw [hslots]; exact hw) (by rw [hslots]; exact hslot)]
    refine congrArg _ ((answerLeg_eq (s := s.setLane l heard) hrun (r := ⟨c, t⟩) hx hg m f).trans ?_)
    rw [hu]
  clear_value u
  refine ⟨fun h he ha => ?_, fun h he ha => ?_, fun h => ?_⟩ <;> rw [htake]
  · rw [legBackOutcome_ok h he ha]; rfl
  · rw [legBackOutcome_error h he ha]; rfl
  · rw [legBackOutcome_bad h]; rfl

/-! ## The fall of a count (R14, R127) -/

theorem drainsOn_iff (c : Claim) (m : Master) (t : Target) : c.drainsOn m t = true ↔
    (∃ tag d, c.state = .draining tag d) ∧ c.owner = m.other ∧ t ∈ c.members := by
  unfold Claim.drainsOn
  split
  next tag d e =>
    rw [e, Bool.and_eq_true, beq_iff_eq, List.contains_iff_mem]
    exact ⟨fun h => ⟨⟨tag, d, rfl⟩, h⟩, fun h => h.2⟩
  next e =>
    rw [e]
    exact ⟨fun h => (Bool.false_ne_true h).elim, fun ⟨⟨_, _, h⟩, _⟩ => by cases h⟩

/-- The record concerns a fall of this master's count for the target (R127). -/
def State.DrainsOn (s : State) (m : Master) (t : Target) (k : ClaimId) : Prop :=
  ∃ c tag d, s.claim k = some c ∧ c.state = .draining tag d ∧ c.owner = m.other ∧ t ∈ c.members

theorem drainsOn_claim_iff (s : State) (m : Master) (t : Target) (k : ClaimId) :
    (match s.claim k with | some c => c.drainsOn m t | none => false) = true ↔ s.DrainsOn m t k := by
  unfold State.DrainsOn
  cases s.claim k with
  | none => exact ⟨fun h => (Bool.false_ne_true h).elim, fun ⟨_, _, _, h, _⟩ => by cases h⟩
  | some c =>
    refine (drainsOn_iff c m t).trans ⟨fun ⟨⟨tag, d, h⟩, h'⟩ => ⟨c, tag, d, rfl, h, h'⟩, ?_⟩
    rintro ⟨_, tag, d, hc, h, h'⟩
    cases hc
    exact ⟨⟨tag, d, h⟩, h'⟩

theorem drainingOn_eq_none {s : State} {m : Master} {t : Target} (h : ∀ k, ¬ s.DrainsOn m t k) : s.drainingOn m t = none :=
  List.find?_eq_none.2 fun k _ hk => h k ((drainsOn_claim_iff ..).1 hk)

theorem drainingOn_of_least {s : State} {m : Master} {t : Target} {k : ClaimId} (h : Least (s.DrainsOn m t) k) :
    s.drainingOn m t = some k :=
  find?_of_least _ k ((least_congr (drainsOn_claim_iff s m t) k).2 h)

theorem drained_iff (s : State) (c : Claim) : s.drained c = true ↔ ∀ t ∈ c.members, s.inFlight c.owner.other t = 0 := by
  unfold State.drained
  simp only [List.all_eq_true, beq_iff_eq]

theorem other_other (m : Master) : m.other.other = m := by cases m <;> rfl

theorem fall_undrained {s : State} {m : Master} {t : Target} (h : ∀ k, ¬ s.DrainsOn m t k) :
    s.fall m t = s.setRecord t ((s.record t).setInFlight m (s.inFlight m t - 1)) := by
  unfold State.fall State.reexamine
  rw [drainingOn_eq_none (s := s.setRecord t _) h]

/-- What the Claim Unit does with the record that the fall concerns. -/
theorem reexamine_of_least {s : State} {m : Master} {t : Target} {k : ClaimId} (hk : Least (s.DrainsOn m t) k) {c : Claim}
    (hc : s.claim k = some c) : s.reexamine m t = if s.drained c then s.grantClaim k else s := by
  unfold State.reexamine
  rw [drainingOn_of_least hk]
  dsimp only
  rw [hc]

theorem grantClaim_eq {s : State} {k : ClaimId} {c : Claim} (hc : s.claim k = some c) {tag : Byte} {d : Time}
    (hs : c.state = .draining tag d) : s.grantClaim k =
      (s.setClaim k (some { c with state := .held (if c.lease = 0 then none
        else some (s.timebase + BitVec.ofNat 32 (c.lease.toNat * 1000))) })).fillSlot c.owner
        (answerWith tag 0x10 .ok c.generation (byteOf k.val :: byteOf c.members.length :: c.members.map idByte)) := by
  have hfields : grantFields k c = byteOf k.val :: byteOf c.members.length :: c.members.map idByte := by
    unfold grantFields listField
    rw [List.length_map]
    refine congrArg (fun x => byteOf k.val :: byteOf c.members.length :: x) ?_
    induction c.members with
    | nil => rfl
    | cons t ts ih => exact congrArg (idByte t :: ·) ih
  unfold State.grantClaim
  rw [hc]
  dsimp only
  rw [hs]
  dsimp only
  rw [hfields] <;> rfl

/-- Settles O40: a late answer frees its EXPIRED slot, and a fall reexamines the least DRAINING record it concerns. -/
theorem legBackLateOrStray : Obligations.LegBackLateOrStray := by
  unfold Obligations.LegBackLateOrStray
  refine ⟨?_, ?_⟩
  · intro s l f hrun hd hr hfit hlen hno heard
    have hheard : (s.lane l).heard s.timebase = heard := lane_heard ..
    have hslots : ((s.setLane l heard).lane l).slot = (s.lane l).slot := by rw [State.lane_setLane_same]; rfl
    have hno' : ∀ w c m t d, ((s.setLane l heard).lane l).slot w ≠ .issued f.seq c m t d := by rw [hslots]; exact hno
    refine ⟨fun w m t hw hslot => ?_, fun hnot => ?_⟩ <;> rw [legBack_row_sound (.inl hrun) hd hr hfit hlen, hheard]
    · rw [takeLegBack_late hno' (by rw [hslots]; exact hw) (by rw [hslots]; exact hslot), modifyLane_setLane, slotFreed_standing]
      unfold State.resetDue
      rw [show (s.setLane l (heard.setSlot w .free)).phase = .running from hrun]
    · rw [takeLegBack_stray hno' (by rw [hslots]; exact hnot)]
  · intro s m t fallen drains
    refine ⟨fun h => fall_undrained h, fun k c tag d hk hc hs => ?_⟩
    have howner : c.owner = m.other := by
      obtain ⟨c', _, _, hc', -, ho, -⟩ := hk.1
      rw [hc] at hc'
      cases hc'
      exact ho
    have hall : fallen.drained c = true ↔ ∀ v ∈ c.members, fallen.inFlight m v = 0 := by
      rw [drained_iff, howner, other_other]
    have hfall : s.fall m t = if fallen.drained c then fallen.grantClaim k else fallen :=
      reexamine_of_least (s := fallen) hk hc
    refine ⟨fun ⟨v, hv, hne⟩ => hfall.trans (if_neg fun h => hne (hall.1 h v hv)), fun h => ?_⟩
    rw [hfall, if_pos (hall.2 h), grantClaim_eq (s := fallen) hc hs, howner]
    rfl

end Sys2Proof.Machine
end

section
/-! SUPPORT. The timers of a lane and its loss (R85 to R88), as the statements write them: what an occurrence leaves of
what the endings of legs change. -/

namespace Sys2Proof.Machine

/-! ## What an occurrence leaves of the legs' places -/

theorem State.EndedAs.refl (s : State) : s.EndedAs s := ⟨rfl, rfl, rfl, fun _ => ⟨rfl, rfl⟩⟩

theorem State.EndedAs.trans {s t u : State} (h : s.EndedAs t) (k : t.EndedAs u) : s.EndedAs u := by
  obtain ⟨hctx, hstatus, hclaims, hslots⟩ := h
  obtain ⟨kctx, kstatus, kclaims, kslots⟩ := k
  exact ⟨kctx.trans hctx, kstatus.trans hstatus, kclaims.trans hclaims,
    fun m => ⟨(kslots m).1.trans (hslots m).1, (kslots m).2.trans (hslots m).2⟩⟩

theorem setLane_endedAs (s : State) (l : LaneId) (x : Lane) : s.EndedAs (s.setLane l x) :=
  ⟨rfl, rfl, rfl, fun m => by cases m <;> exact ⟨rfl, rfl⟩⟩

theorem testAlert_endedAs (s : State) (m : Master) : s.EndedAs (s.testAlert m) := by
  unfold State.testAlert
  dsimp only
  split
  · split
    · split
      · refine ⟨by cases m <;> rfl, by cases m <;> rfl, by cases m <;> rfl, fun w => ?_⟩
        cases m <;> cases w <;> exact ⟨rfl, rfl⟩
      · exact .refl s
    · exact .refl s
  · exact .refl s

theorem pendFor_endedAs (s : State) (m : Master) (c : FaultClass) (p : Pended) : s.EndedAs (s.pendFor m c p) := by
  unfold State.pendFor
  dsimp only
  split
  · refine .trans (t := s.setAlert m _) ⟨by cases m <;> rfl, by cases m <;> rfl, by cases m <;> rfl, fun w => ?_⟩
      (testAlert_endedAs ..)
    cases m <;> cases w <;> exact ⟨rfl, rfl⟩
  · exact .refl s

theorem alertStep_endedAs (s : State) (x : Source) (q : Option (BitVec 16)) : s.EndedAs (s.alertStep x q) :=
  (pendFor_endedAs ..).trans (pendFor_endedAs ..)

/-- ISOLATE of this source ends no leg here and changes no Target Status record. -/
def State.IsolatesIdle (s : State) (x : Source) (f : FaultFields) : Prop :=
  ∀ u : State, u.contexts = s.contexts → u.lanes = s.lanes → u.EndedAs (u.isolateStep x f)

theorem act_endedAs {s : State} {a : Action} {x : Source} {f : FaultFields} (h : a = .isolate → s.IsolatesIdle x f)
    (q : Option (BitVec 16)) : s.EndedAs (s.act a x f q) := by
  have halerts : s.EndedAs (if a.alerts then s.alertStep x q else s) := by
    split
    · exact alertStep_endedAs ..
    · exact .refl s
  have hlanes : (if a.alerts then s.alertStep x q else s).lanes = s.lanes := (alertsIf_only s a x q).reports.lanes
  unfold State.act
  dsimp only
  generalize (if a.alerts then s.alertStep x q else s) = u at halerts hlanes
  split
  · exact halerts.trans (h rfl u halerts.1 hlanes)
  · refine halerts.trans ?_
    rw [haltStep_eq]
    exact ⟨rfl, rfl, rfl, fun m => by cases m <;> exact ⟨rfl, rfl⟩⟩
  · exact halerts

theorem latch_endedAs (s : State) (x : Source) : s.EndedAs (s.latch x) :=
  ⟨rfl, rfl, rfl, fun m => by cases m <;> exact ⟨rfl, rfl⟩⟩

theorem recordsLost_endedAs (s : State) : s.EndedAs s.recordsLost :=
  (latch_endedAs s .recordsLost).trans (act_endedAs (fun _ u _ _ => (rfl : u.isolateStep .recordsLost .none = u) ▸ .refl u) _)

theorem recordStep_endedAs (s : State) (x : Source) (f : FaultFields) : s.EndedAs (s.recordStep x f).1 := by
  unfold State.recordStep
  split
  · exact ⟨rfl, rfl, rfl, fun m => by cases m <;> exact ⟨rfl, rfl⟩⟩
  · exact .trans (t := { s with lostCount := min (s.lostCount + 1) 255 })
      ⟨rfl, rfl, rfl, fun m => by cases m <;> exact ⟨rfl, rfl⟩⟩ (recordsLost_endedAs _)

theorem occur_endedAs {s : State} {x : Source} {f : FaultFields} (h : (s.source x).action = .isolate → s.IsolatesIdle x f) :
    s.EndedAs (s.occur x f) := by
  have hstep := (latch_endedAs s x).trans (recordStep_endedAs _ x f)
  have hlanes : ((s.latch x).recordStep x f).1.lanes = s.lanes := (recordStep_reports (s.latch x) x f).lanes
  unfold State.occur
  dsimp only
  split
  · exact latch_endedAs s x
  · refine hstep.trans (act_endedAs (fun ha u hctx hl => ?_) _)
    exact h ha u (hctx.trans hstep.1) (hl.trans hlanes)

/-- The fence of a lane that has nothing left to send. -/
theorem fenceLane_endedAs {s : State} {l : LaneId} (h : (s.lane l).state = .up → s.unsentLegs l = []) :
    s.EndedAs (s.fenceLane l) := by
  by_cases hup : (s.lane l).state = .up
  · rw [fenceLane_up hup, h hup]
    exact setLane_endedAs ..
  · obtain ⟨x, hx, -⟩ := fenceLane_notUp hup
    rw [hx]
    exact setLane_endedAs ..

theorem unsentLegs_eq_nil_iff (s : State) (l : LaneId) : s.unsentLegs l = [] ↔ (s.lane l).queue = [] ∧ s.NonePending l := by
  unfold State.unsentLegs
  rw [List.append_eq_nil_iff, pendingFor_eq_nil_iff]

theorem unsentLegs_nil_congr {s u : State} (hctx : u.contexts = s.contexts) (hlanes : u.lanes = s.lanes) (l : LaneId) :
    u.unsentLegs l = [] ↔ s.unsentLegs l = [] := by
  have hc : ∀ c, u.ctx c = s.ctx c := ctx_of_contexts hctx
  have hl : u.lane l = s.lane l := by unfold State.lane; rw [hlanes]
  rw [unsentLegs_eq_nil_iff, unsentLegs_eq_nil_iff, hl]
  unfold State.NonePending
  simp only [hc]

/-- A LINK occurrence of a lane that has nothing left to send. -/
theorem occur_ofLane_endedAs {s : State} {x : Source} (hx : x.cls = .link) {l : LaneId}
    (h : (s.source x).action = .isolate → (s.lane l).state = .up → s.unsentLegs l = []) :
    s.EndedAs (s.occur x (.ofLane l)) := by
  refine occur_endedAs fun ha u hctx hlanes => ?_
  have hl : u.lane l = s.lane l := by unfold State.lane; rw [hlanes]
  have hstep : u.isolateStep x (.ofLane l) = u.fenceLane l := by unfold State.isolateStep; rw [hx]; rfl
  rw [hstep]
  exact fenceLane_endedAs fun hup => (unsentLegs_nil_congr hctx hlanes l).2 (h ha (hl ▸ hup))

theorem endLaneWork_nonePending {s : State} (h : s.LegsStand) (l : LaneId) : (s.endLaneWork l).NonePending l := by
  intro c x g hx hg hl hp
  have hleg := ((endLaneWork_ended h.counted l).legs c g.target l .pending nofun).1 ⟨x, g, hx, hg, rfl, hl, hp⟩
  exact of_decide_eq_false hleg.2 ((mem_laneLegs h).2 (.inr (.inr hleg.1)))

/-! ## A lane that a fault fences -/

/-- What a fence keeps of a lane. -/
theorem Lane.whenFenced_keeps (x : Lane) : x.whenFenced.window = x.window ∧ (x.queue = [] → x.whenFenced.queue = []) ∧
    (x.contact = false → x.whenFenced.contact = false) ∧ x.whenFenced.nextSeq = x.nextSeq ∧
    x.whenFenced.stations = x.stations := by
  unfold Lane.whenFenced
  split
  · exact ⟨rfl, fun _ => rfl, id, rfl, rfl⟩
  · exact ⟨rfl, id, fun _ => rfl, rfl, rfl⟩
  · exact ⟨rfl, id, fun _ => rfl, rfl, rfl⟩
  · exact ⟨rfl, id, id, rfl, rfl⟩
  · exact ⟨rfl, id, id, rfl, rfl⟩

theorem Lane.whenFenced_state {x : Lane} (h : x.state ≠ .disabled) : x.whenFenced.state = .fenced := by
  unfold Lane.whenFenced
  split
  · rfl
  · rfl
  · rfl
  next e => exact e
  next e => exact absurd e h

section
variable (s : State) {x : Source} (hx : x.cls = .link) (l : LaneId)
include hx

/-- The lane of a LINK occurrence, which ISOLATE fences. -/
theorem occur_ofLane_lane : (s.occur x (.ofLane l)).lane l =
    if (s.source x).action = .isolate then (s.lane l).whenFenced else s.lane l := by
  rw [occur_lane]
  have hf : (FaultFields.ofLane l).lane = some l := rfl
  rw [hx, hf]
  simp only [and_true]

omit hx in
theorem occur_ofLane_lane_other (x : Source) {i : LaneId} (hi : i ≠ l) : (s.occur x (.ofLane l)).lane i = s.lane i := by
  rw [occur_lane, if_neg]
  rintro ⟨-, -, h⟩
  exact hi (Option.some.inj h).symm

/-- What a LINK occurrence keeps of its lane. -/
theorem occur_ofLane_keeps : ((s.lane l).Idle → ((s.occur x (.ofLane l)).lane l).Idle) ∧
    ((s.lane l).contact = false → ((s.occur x (.ofLane l)).lane l).contact = false) ∧
    ((s.occur x (.ofLane l)).lane l).nextSeq = (s.lane l).nextSeq ∧
    ((s.occur x (.ofLane l)).lane l).stations = (s.lane l).stations := by
  obtain ⟨hwindow, hqueue, hcontact, hseq, hstations⟩ := (s.lane l).whenFenced_keeps
  rw [occur_ofLane_lane s hx l]
  split
  · refine ⟨fun ⟨hq, hs⟩ => ⟨hqueue hq, fun w => ?_⟩, hcontact, hseq, hstations⟩
    unfold Lane.slot
    rw [hwindow]
    exact hs w
  · exact ⟨id, id, rfl, rfl⟩

end

/-! ## What the Lane Engine sends (R85, R88) -/

theorem Lane.send_eq {f : LaneFrame} (hf : ∀ g, f ≠ .legOut g) (now : Time) (x : Lane) : x.send now f =
    { x with
      line := some (x.line.getD f), waiting := if x.line = none then x.waiting else x.waiting ++ [f],
      lastSent := if x.line = none ∧ x.contact = true then some now else x.lastSent } := by
  unfold Lane.send
  cases h : x.line with
  | none => simp
  | some g => simp [enqueueFrame_append f hf]

theorem due_iff (s : State) (arrival : Option Time) : s.due arrival = true ↔ arrival = some s.timebase := by
  unfold State.due
  exact beq_iff_eq

theorem passed_iff (now : Time) (start : Option Time) (n : Nat) :
    passed now start n = true ↔ ∃ u, start = some u ∧ n ≤ (now - u).toNat := by
  unfold passed
  cases start with
  | none => exact ⟨fun h => (Bool.false_ne_true h).elim, fun ⟨_, h, _⟩ => by cases h⟩
  | some u => exact decide_eq_true_iff.trans ⟨fun h => ⟨u, rfl, h⟩, fun ⟨_, h, hn⟩ => by cases h; exact hn⟩

section
variable {s : State} {l : LaneId}

theorem laneHelloIntervalEvent_due (hs : (s.lane l).state = .training) (hn : (s.lane l).hellosSent < 50)
    (h : s.Arrived (s.lane l).helloTime 200) :
    laneHelloIntervalEvent l s = s.setLane l (Lane.helloAgain s.timebase (s.lane l)) := by
  refine if_pos ?_
  unfold State.laneHelloDue
  simp only [Bool.and_eq_true, beq_iff_eq, decide_eq_true_iff]
  exact ⟨⟨hs, hn⟩, arrives_of_arrived h⟩

theorem laneTrainingFailureEvent_due (hs : (s.lane l).state = .training) (hn : (s.lane l).hellosSent = 50)
    (h : s.Arrived (s.lane l).helloTime 200) :
    laneTrainingFailureEvent l s = (s.setLane l ((s.lane l).quiet .down
      (if (s.lane l).autoRetrain = true then some (s.timebase + 100000) else none))).occur .laneTrainFail (.ofLane l) := by
  refine if_pos ?_
  unfold State.laneFailureDue
  simp only [Bool.and_eq_true, beq_iff_eq]
  exact ⟨⟨hs, hn⟩, arrives_of_arrived h⟩

theorem laneRetryEvent_due (hs : (s.lane l).state = .down) (h : (s.lane l).retryTime = some s.timebase) :
    laneRetryEvent l s = s.setLane l ((s.lane l).startedTraining s.timebase) := by
  refine (if_pos ?_).trans (trainLane_eq s l)
  unfold State.laneRetryDue
  rw [Bool.and_eq_true, beq_iff_eq, due_iff]
  exact ⟨hs, h⟩

theorem laneKeepaliveDue_iff : s.laneKeepaliveDue l = true ↔
    (s.lane l).contact = true ∧ ∃ u, (s.lane l).lastSent = some u ∧ 100 ≤ (s.timebase - u).toNat := by
  unfold State.laneKeepaliveDue
  rw [Bool.and_eq_true, passed_iff]
  rfl

theorem laneTransmitterFreeEvent_idle (h : (s.lane l).waiting = []) :
    laneTransmitterFreeEvent l s = s.setLane l { s.lane l with line := none } := by
  unfold laneTransmitterFreeEvent State.modifyLane
  dsimp only
  rw [h]

theorem laneTransmitterFreeEvent_next {f : LaneFrame} {rest : List LaneFrame} (h : (s.lane l).waiting = f :: rest) :
    laneTransmitterFreeEvent l s = s.setLane l { s.lane l with
      line := some f, waiting := rest,
      lastSent := if (s.lane l).contact = true then some s.timebase else (s.lane l).lastSent } := by
  unfold laneTransmitterFreeEvent State.modifyLane
  dsimp only
  rw [h] <;> rfl

/-- Settles O47: one equation for each timer that is due. -/
theorem laneTimersTrainAndKeepAlive : Obligations.LaneTimersTrainAndKeepAlive := by
  unfold Obligations.LaneTimersTrainAndKeepAlive
  intro s l hrun x
  refine ⟨fun hs hn h => happens_eq hrun ?_, fun hs hn h => ?_, fun hs h => happens_eq hrun (laneRetryEvent_due hs h),
    fun hc u hu hlong => happens_eq hrun ?_, fun h => happens_eq hrun (if_neg fun hdue => ?_),
    fun h => happens_eq hrun (laneTransmitterFreeEvent_idle h),
    fun f rest h => happens_eq hrun (laneTransmitterFreeEvent_next h)⟩
  · rw [laneHelloIntervalEvent_due hs hn h, Lane.helloAgain, Lane.send_eq (by simp)]
  · refine ⟨_, happens_eq hrun (laneTrainingFailureEvent_due hs hn h), occur_latches (by simp) _, fun i hi => ?_,
      occur_active .., sameSettings_of_fixed (occur_frame ..).fixed, fun ha => ?_, fun ha => ?_⟩
    · rw [occur_ofLane_lane_other _ _ _ hi, State.lane_setLane, if_neg hi]
    · rw [occur_ofLane_lane _ rfl, State.lane_setLane_same]
      exact if_neg ha
    · rw [occur_ofLane_lane _ rfl, State.lane_setLane_same]
      exact if_pos ha
  · refine (if_pos (laneKeepaliveDue_iff.2 ⟨hc, u, hu, hlong⟩)).trans ?_
    unfold State.modifyLane
    dsimp only
    rw [Lane.send_eq (by simp)]
  · obtain ⟨hc, u, hu, hlong⟩ := laneKeepaliveDue_iff.1 hdue
    rcases h with h | h
    · exact Bool.false_ne_true (h.symm.trans hc)
    · exact absurd (h u hu) (Nat.not_lt.2 hlong)

end

/-! ## Lane loss (R88) -/

/-- Where a lane goes after a loss (the table of R88). -/
def Lane.lost (now : Time) (x : Lane) : Lane :=
  match x.state, x.autoRetrain with
  | .up, true => x.startedTraining now
  | .up, false => x.quiet .down none
  | w, _ => x.quiet w x.retryTime

section
variable {x : Lane} (now : Time)

theorem Lane.lost_retrains (h : x.state = .up) (ha : x.autoRetrain = true) : x.lost now = x.startedTraining now := by
  unfold Lane.lost; rw [h, ha]

theorem Lane.lost_stays (h : x.state = .up) (ha : x.autoRetrain = false) : x.lost now = x.quiet .down none := by
  unfold Lane.lost; rw [h, ha]

theorem Lane.lost_notUp (h : x.state ≠ .up) : x.lost now = x.quiet x.state x.retryTime := by
  unfold Lane.lost
  split
  next e _ => exact absurd e h
  next e _ => exact absurd e h
  next => rfl

theorem Lane.lost_state : (x.lost now).state ≠ .up ∧ (x.lost now).contact = false ∧ (x.lost now).queue = x.queue ∧
    (x.lost now).window = x.window ∧ (x.lost now).nextSeq = x.nextSeq ∧ (x.lost now).stations = x.stations := by
  by_cases hup : x.state = .up
  · cases ha : x.autoRetrain
    · rw [Lane.lost_stays now hup ha]
      exact ⟨nofun, rfl, rfl, rfl, rfl, rfl⟩
    · rw [Lane.lost_retrains now hup ha]
      exact ⟨nofun, rfl, rfl, rfl, rfl, rfl⟩
  · rw [Lane.lost_notUp now hup]
    exact ⟨hup, rfl, rfl, rfl, rfl, rfl⟩

end

theorem placeLostLane_eq (s : State) (l : LaneId) : s.placeLostLane l = s.setLane l ((s.lane l).lost s.timebase) := by
  unfold State.placeLostLane
  dsimp only
  split
  next e e' => rw [trainLane_eq, Lane.lost_retrains _ e e']
  next e e' => rw [Lane.lost_stays _ e e']; rfl
  next h h' =>
    have hup : (s.lane l).state ≠ .up := fun e => by
      cases ha : (s.lane l).autoRetrain
      · exact h' e ha
      · exact h e ha
    rw [Lane.lost_notUp _ hup]
    rfl

theorem laneLossEvent_lost {s : State} {l : LaneId} (hc : (s.lane l).contact = true)
    (h : s.Arrived (s.lane l).lastReceived 1000) :
    laneLossEvent l s = ((s.endLaneWork l).placeLostLane l).occur .laneLost (.ofLane l) := by
  refine if_pos ?_
  rw [State.laneLossDue, hc]
  exact arrives_of_arrived h

theorem laneLossEvent_heard {s : State} {l : LaneId}
    (h : (s.lane l).contact = false ∨ ¬ s.Arrived (s.lane l).lastReceived 1000) : laneLossEvent l s = s := by
  refine if_neg fun hdue => ?_
  obtain ⟨hc, harrives⟩ := (Bool.and_eq_true _ _).mp hdue
  rcases h with h | h
  · exact Bool.false_ne_true (h.symm.trans hc)
  · exact h (arrived_of_arrives harrives)

theorem endLaneWork_idle (s : State) (l : LaneId) : ((s.endLaneWork l).lane l).Idle := by
  rw [endLaneWork_lane]
  exact ⟨rfl, slot_emptyWindow _⟩

/-- What an occurrence at a lane after the lane-wide ending leaves. -/
structure LostAt (s : State) (l : LaneId) (t : State) : Prop where
  idle     : (t.lane l).Idle
  others   : ∀ i, i ≠ l → t.lane i = s.lane i
  active   : t.active = s.active
  settings : s.SameSettings t

theorem lostAt_setLane (s : State) (l : LaneId) {x : Lane} (hq : x.queue = [])
    (hw : x.window = ((s.endLaneWork l).lane l).window) : LostAt s l ((s.endLaneWork l).setLane l x) where
  idle := by
    rw [State.lane_setLane_same]
    refine ⟨hq, fun w => ?_⟩
    unfold Lane.slot
    rw [hw]
    exact (endLaneWork_idle s l).2 w
  others := fun i hi => by rw [State.lane_setLane, if_neg hi, (endLaneWork_frame s l).lanes i hi]
  active := (endLaneWork_frame s l).active
  settings := sameSettings_of_fixed (endLaneWork_frame s l).fixed

theorem LostAt.occur {s t : State} {l : LaneId} (h : LostAt s l t) {x : Source} (hx : x.cls = .link) :
    LostAt s l (t.occur x (.ofLane l)) where
  idle := (occur_ofLane_keeps t hx l).1 h.idle
  others := fun i hi => (occur_ofLane_lane_other t l x hi).trans (h.others i hi)
  active := (occur_active ..).trans h.active
  settings := by
    have hfixed : (t.occur x (.ofLane l)).fixed = t.fixed := (occur_frame ..).fixed
    obtain ⟨h1, h2, h3, h4, h5, h6, h7, h8, h9, h10, h11, h12, h13, h14⟩ := sameSettings_of_fixed hfixed
    obtain ⟨k1, k2, k3, k4, k5, k6, k7, k8, k9, k10, k11, k12, k13, k14⟩ := h.settings
    exact ⟨h1.trans k1, h2.trans k2, h3.trans k3, h4.trans k4, h5.trans k5, h6.trans k6, h7.trans k7, h8.trans k8,
      h9.trans k9, h10.trans k10, h11.trans k11, h12.trans k12, h13.trans k13, h14.trans k14⟩

theorem endLaneWork_action (s : State) (l : LaneId) (x : Source) :
    ((s.endLaneWork l).source x).action = (s.source x).action := by
  have h := congrArg Prod.fst (endLaneWork_frame s l).faults
  simp only at h
  unfold State.source
  rw [h]

/-- The lane of this state after the lane-wide ending has become `y`, and LANE_LOST occurs. -/
def State.loseLane (s : State) (l : LaneId) (y : Lane) : State :=
  ((s.endLaneWork l).setLane l y).occur .laneLost (.ofLane l)

section
variable (s : State) (l : LaneId) {y : Lane}

theorem loseLane_lostAt (hq : y.queue = []) (hw : y.window = ((s.endLaneWork l).lane l).window) :
    LostAt s l (s.loseLane l y) := (lostAt_setLane s l hq hw).occur rfl

theorem loseLane_latches (y : Lane) : ((s.loseLane l y).source .laneLost).latch = true := occur_latches (by simp) _

theorem loseLane_action (y : Lane) (x : Source) : ((s.loseLane l y).source x).action = (s.source x).action := by
  unfold State.loseLane
  rw [occur_action]
  exact endLaneWork_action s l x

theorem loseLane_lane (y : Lane) : (s.loseLane l y).lane l =
    if (s.source .laneLost).action = .isolate then y.whenFenced else y := by
  have haction : (((s.endLaneWork l).setLane l y).source .laneLost).action = (s.source .laneLost).action :=
    endLaneWork_action s l .laneLost
  unfold State.loseLane
  rw [occur_ofLane_lane _ rfl, State.lane_setLane_same, haction]

theorem loseLane_endedAs (hrun : s.phase = .running) (hq : y.queue = [])
    (h : y.state = .up → (s.source .laneLost).action = .isolate → s.LegsPlaced) :
    (s.endLaneWork l).EndedAs (s.loseLane l y) := by
  refine (setLane_endedAs ..).trans (occur_ofLane_endedAs rfl fun ha hup => ?_)
  rw [State.lane_setLane_same] at hup
  have hplaced := h hup ((endLaneWork_action s l .laneLost).symm.trans ha)
  have hstands := (legsPlaced_standing (s := s) (by unfold State.resetDue; rw [hrun])).1 hplaced
  refine (unsentLegs_eq_nil_iff ..).2 ⟨?_, endLaneWork_nonePending hstands l⟩
  rw [State.lane_setLane_same]
  exact hq

end

theorem happensAtLane_of_running {f : State → State} {s t : State} (hrun : s.phase = .running) (h : f s = t) :
    happensAtLane f s = .next t := by rw [happensAtLane_running f s hrun, h]

/-- Settles O48: the lane is lost after the lane-wide ending, so the fence of LANE_LOST ends no leg. -/
theorem laneLossEndsLaneWork : Obligations.LaneLossEndsLaneWork := by
  unfold Obligations.LaneLossEndsLaneWork
  intro s l hrun x
  refine ⟨fun h => happensAtLane_of_running hrun (laneLossEvent_heard h), fun hc harr => ?_⟩
  have hv : (s.endLaneWork l).lane l = { x with queue := [], window := emptyWindow } := endLaneWork_lane s l
  have hvs : ((s.endLaneWork l).lane l).state = x.state := by rw [hv]
  have hva : ((s.endLaneWork l).lane l).autoRetrain = x.autoRetrain := by rw [hv]
  obtain ⟨hnotUp, hcontact, hqueue, hwindow, hseq, hstations⟩ := Lane.lost_state (x := (s.endLaneWork l).lane l) s.timebase
  have hrow : laneLossEvent l s = s.loseLane l (((s.endLaneWork l).lane l).lost s.timebase) := by
    have htime : (s.endLaneWork l).timebase = s.timebase := congrArg Fixed.timebase (endLaneWork_frame s l).fixed
    rw [laneLossEvent_lost hc harr, placeLostLane_eq, htime]; rfl
  set y := ((s.endLaneWork l).lane l).lost s.timebase with hy
  have hnone : y.queue = [] := hqueue.trans (endLaneWork_idle s l).1
  have hlost := loseLane_lostAt s l hnone hwindow
  obtain ⟨-, kcontact, kseq, kstations⟩ := occur_ofLane_keeps ((s.endLaneWork l).setLane l y) (x := .laneLost) rfl l
  rw [State.lane_setLane_same] at kcontact kseq kstations
  have hlane := loseLane_lane s l y
  refine ⟨_, happensAtLane_of_running hrun hrow, ⟨?_, loseLane_endedAs s l hrun hnone fun hup => absurd hup hnotUp⟩,
    hlost.idle, kcontact hcontact, kseq.trans (hseq.trans (by rw [hv])), kstations.trans (hstations.trans (by rw [hv])),
    loseLane_latches s l y, hlost.others, hlost.active, hlost.settings, fun ha => ⟨fun hs har => ?_, fun hs har => ?_⟩,
    fun ha hs => ?_, fun hs => ?_⟩
  · refine congrArg (s.loseLane l) ?_
    rw [hy]
    unfold Lane.lost
    rw [hv] <;> rfl
  · rw [hlane, if_neg ha, hy, Lane.lost_retrains _ (hvs.trans hs) (hva.trans har)]; rfl
  · rw [hlane, if_neg ha, hy, Lane.lost_stays _ (hvs.trans hs) (hva.trans har)]; exact ⟨rfl, rfl⟩
  · rw [hlane, if_pos ha]
    refine Lane.whenFenced_state ?_
    rw [hy]
    cases har : x.autoRetrain
    · rw [Lane.lost_stays _ (hvs.trans hs) (hva.trans har)]; exact nofun
    · rw [Lane.lost_retrains _ (hvs.trans hs) (hva.trans har)]; exact nofun
  · have hstate : y.state = .fenced := by
      rw [hy, Lane.lost_notUp _ (by rw [hvs, hs]; exact nofun)]
      exact hvs.trans hs
    rw [hlane]
    split
    · exact Lane.whenFenced_state (by rw [hstate]; exact nofun)
    · exact hstate

end Sys2Proof.Machine
end

section
/-! SUPPORT. A HELLO of the device (R86, R89), as the statement writes it. -/

namespace Sys2Proof.Machine

theorem stationsOk_iff (b : Byte) : stationsOk b = true ↔ 1 ≤ b.toNat ∧ b.toNat ≤ 4 := by
  unfold stationsOk
  exact decide_eq_true_iff

section
variable {s : State} {l : LaneId} {stations : Byte}

theorem deviceHello_row (hrun : s.phase = .running) (hd : (s.lane l).state ≠ .disabled)
    (hr : (s.lane l).receiver = .hunting) {t : State} (h : State.deviceHello l stations s = t) :
    exec (.deviceHello l stations) s = .next t := by
  refine happensAtLane_of_running (f := deviceHelloEvent l stations) hrun ?_
  exact (laneFrame_fits hd hr (by decide) (by decide) _).trans h

theorem deviceHello_row_disabled (hrun : s.phase = .running) (hd : (s.lane l).state = .disabled) :
    exec (.deviceHello l stations) s = .next s := by
  refine happensAtLane_of_running (f := deviceHelloEvent l stations) hrun (if_neg fun h => ?_)
  exact (listens_iff _).1 h hd

theorem deviceHello_noContact (hc : (s.lane l).contact = false) :
    State.deviceHello l stations s = if (s.lane l).state = .training then
      if stationsOk stations = true then s.takeTrainingAnswer l stations else s.occur .frameMalformed (.ofLane l)
      else s := by
  unfold State.deviceHello
  dsimp only
  rw [hc, if_neg Bool.false_ne_true]
  split
  next e => rw [if_pos e]; rfl
  next e => rw [if_neg e]

theorem deviceHello_contact (hc : (s.lane l).contact = true) :
    State.deviceHello l stations s = s.deviceRestart l stations := if_pos hc

/-- The lane as it stands after the lane-wide ending. -/
theorem endLaneWork_lane_control (s : State) (l : LaneId) : ((s.endLaneWork l).lane l).state = (s.lane l).state ∧
    ((s.endLaneWork l).lane l).autoRetrain = (s.lane l).autoRetrain ∧
    ((s.endLaneWork l).lane l).retryTime = (s.lane l).retryTime ∧ (s.endLaneWork l).timebase = s.timebase := by
  rw [endLaneWork_lane]
  exact ⟨rfl, rfl, rfl, congrArg Fixed.timebase (endLaneWork_frame s l).fixed⟩

theorem deviceRestart_silent (h : ¬ ((s.lane l).state = .up ∧ (s.lane l).autoRetrain = true)) :
    s.deviceRestart l stations = s.loseLane l (((s.endLaneWork l).lane l).lost s.timebase) := by
  obtain ⟨hvs, hva, -, -⟩ := endLaneWork_lane_control s l
  unfold State.deviceRestart State.loseLane
  dsimp only
  split
  next hs ha => exact absurd ⟨hs, ha⟩ h
  next hs ha =>
    rw [Lane.lost_stays _ (hvs.trans hs) (hva.trans ha)]; rfl
  next hup hdown =>
    have hs : (s.lane l).state ≠ .up := fun e => by
      cases ha : (s.lane l).autoRetrain
      · exact hdown e ha
      · exact hup e ha
    rw [Lane.lost_notUp _ (hvs ▸ hs)]; rfl

section
variable (hs : (s.lane l).state = .up) (ha : (s.lane l).autoRetrain = true)
include hs ha

theorem deviceRestart_up : s.deviceRestart l stations =
    let t := (((s.endLaneWork l).trainLane l).takeTrainingAnswer l stations).occur .laneLost (.ofLane l)
    if stationsOk stations = true then t else t.occur .frameMalformed (.ofLane l) := by
  unfold State.deviceRestart
  dsimp only
  rw [hs, ha]

/-- A good HELLO at an UP lane that retrains is also the answer of its training (R89). -/
theorem deviceRestart_good (hg : 1 ≤ stations.toNat ∧ stations.toNat ≤ 4) : s.deviceRestart l stations =
    s.loseLane l (Lane.comeUp s.timebase stations.toNat (((s.endLaneWork l).lane l).startedTraining s.timebase)) := by
  obtain ⟨-, -, -, htime⟩ := endLaneWork_lane_control s l
  have hok : stationsOk stations = true := (stationsOk_iff _).2 hg
  rw [deviceRestart_up hs ha]
  dsimp only
  rw [if_pos hok, State.takeTrainingAnswer, if_pos hok, trainLane_eq, modifyLane_setLane, htime]
  unfold State.loseLane
  rw [show ((s.endLaneWork l).setLane l _).timebase = s.timebase from htime]

theorem deviceRestart_bad (hg : ¬ (1 ≤ stations.toNat ∧ stations.toNat ≤ 4)) : s.deviceRestart l stations =
    (s.loseLane l (((s.endLaneWork l).lane l).startedTraining s.timebase)).occur .frameMalformed (.ofLane l) := by
  obtain ⟨-, -, -, htime⟩ := endLaneWork_lane_control s l
  have hok : ¬ stationsOk stations = true := fun h => hg ((stationsOk_iff _).1 h)
  rw [deviceRestart_up hs ha]
  dsimp only
  rw [if_neg hok, State.takeTrainingAnswer, if_neg hok, trainLane_eq, htime]
  rfl

end

end

section
variable {s : State} {l : LaneId} {stations : Byte} (hrun : s.phase = .running)
include hrun

/-- What a HELLO leaves that finds the lane in contact, whatever the lane becomes. -/
theorem loseLane_facts {y : Lane} (hq : y.queue = ((s.endLaneWork l).lane l).queue)
    (hw : y.window = ((s.endLaneWork l).lane l).window) :
    ((s.loseLane l y).lane l).Idle ∧ ((s.loseLane l y).source .laneLost).latch = true ∧
      (∀ i, i ≠ l → (s.loseLane l y).lane i = s.lane i) ∧ (s.loseLane l y).active = s.active ∧
      s.SameSettings (s.loseLane l y) ∧
      (¬ (s.source .laneLost).action = .isolate ∨ s.LegsPlaced → (s.endLaneWork l).EndedAs (s.loseLane l y)) := by
  have hnone : y.queue = [] := hq.trans (endLaneWork_idle s l).1
  have h := loseLane_lostAt s l hnone hw
  refine ⟨h.idle, loseLane_latches s l y, h.others, h.active, h.settings, fun hor => loseLane_endedAs s l hrun hnone ?_⟩
  exact fun _ ha => hor.resolve_left fun hn => hn ha

end

/-- Settles O46: a HELLO in contact loses the lane first; the three ways it goes on are told by what the lane becomes. -/
theorem deviceHelloTrainsLane : Obligations.DeviceHelloTrainsLane := by
  unfold Obligations.DeviceHelloTrainsLane
  intro s l stations hrun hr x good isolates v trained
  obtain ⟨hvs, hva, hvr, -⟩ := endLaneWork_lane_control s l
  refine ⟨fun hc hs hg => ?_, fun hc hs hg => ?_, fun hc hs => ?_, fun _ hs => deviceHello_row_disabled hrun hs,
    fun hc hs => ?_⟩
  · refine deviceHello_row hrun (by rw [hs]; exact nofun) hr ?_
    have hok : stationsOk stations = true := (stationsOk_iff _).2 hg
    rw [deviceHello_noContact hc, if_pos hs, if_pos hok]
    exact if_pos hok
  · refine deviceHello_row hrun (by rw [hs]; exact nofun) hr ?_
    rw [deviceHello_noContact hc, if_pos hs, if_neg fun hok => hg ((stationsOk_iff _).1 hok)]
  · have hother : x.state ≠ .disabled ∧ x.state ≠ .training := by rcases hs with hs | hs <;> rw [hs] <;> exact ⟨nofun, nofun⟩
    refine deviceHello_row hrun hother.1 hr ?_
    rw [deviceHello_noContact hc, if_neg hother.2]
  · have hd : x.state ≠ .disabled := by rcases hs with hs | hs <;> rw [hs] <;> exact nofun
    have hrow : exec (.deviceHello l stations) s = .next (s.deviceRestart l stations) :=
      deviceHello_row hrun hd hr (deviceHello_contact hc)
    by_cases hup : x.state = .up ∧ x.autoRetrain = true
    · obtain ⟨hup, har⟩ := hup
      by_cases hg : good
      · have hlane := loseLane_lane s l (Lane.comeUp s.timebase stations.toNat trained)
        obtain ⟨hidle, hlatch, hothers, hactive, hsettings, hends⟩ := loseLane_facts hrun (s := s) (l := l)
          (y := Lane.comeUp s.timebase stations.toNat trained) rfl rfl
        rw [deviceRestart_good hup har hg] at hrow
        refine ⟨_, hrow, hidle, hlatch, hothers, hactive, hsettings, hends, fun _ _ _ => ⟨rfl, ?_, ?_, fun h => ?_, fun h => ?_⟩,
          fun _ _ hbad => absurd hg hbad, fun _ hno => absurd (har.symm.trans hno) nofun, fun hf => absurd (hup.symm.trans hf) nofun⟩
        · rw [hlane]; split <;> rfl
        · rw [hlane]; split <;> rfl
        · rw [hlane, if_neg h]; rfl
        · rw [hlane, if_pos h]; rfl
      · have hlane := loseLane_lane s l trained
        obtain ⟨hidle, hlatch, hothers, hactive, hsettings, hends⟩ := loseLane_facts hrun (s := s) (l := l) (y := trained) rfl rfl
        have hstate : ((s.loseLane l trained).lane l).state =
            if (s.source .laneLost).action = .isolate then .fenced else .training := by
          rw [hlane]; split <;> rfl
        have hcontact : ((s.loseLane l trained).lane l).contact = false := by rw [hlane]; split <;> rfl
        have hnotUp : ((s.loseLane l trained).lane l).state ≠ .up := by rw [hstate]; split <;> exact nofun
        have hlast := occur_ofLane_lane (s.loseLane l trained) (x := .frameMalformed) rfl l
        rw [loseLane_action s l trained .frameMalformed] at hlast
        obtain ⟨-, kcontact, -, -⟩ := occur_ofLane_keeps (s.loseLane l trained) (x := .frameMalformed) rfl l
        have hlost := (loseLane_lostAt s l (y := trained) (endLaneWork_idle s l).1 rfl).occur (x := .frameMalformed) rfl
        have hfirst : v.EndedAs (s.loseLane l trained) := loseLane_endedAs s l hrun (endLaneWork_idle s l).1 nofun
        have hends' := hfirst.trans (occur_ofLane_endedAs (x := .frameMalformed) rfl (l := l) fun _ hu => absurd hu hnotUp)
        rw [deviceRestart_bad hup har hg] at hrow
        refine ⟨_, hrow, hlost.idle, occur_latched (by simp) hlatch .., hlost.others, hlost.active, hlost.settings,
          fun _ => hends', fun _ _ hgood => absurd hgood hg,
          fun _ _ _ => ⟨rfl, kcontact hcontact, occur_latches (by simp) _, fun hl hm => ?_, fun hor => ?_⟩,
          fun _ hno => absurd (har.symm.trans hno) nofun, fun hf => absurd (hup.symm.trans hf) nofun⟩
        · rw [hlast, if_neg hm, hstate, if_neg hl]
        · rw [hlast]
          split
          next => exact Lane.whenFenced_state (by rw [hstate]; split <;> exact nofun)
          next hm => rw [hstate, if_pos (hor.resolve_right hm)]
    · obtain ⟨-, hcontact, hqueue, hwindow, -, -⟩ := Lane.lost_state (x := v.lane l) s.timebase
      obtain ⟨hidle, hlatch, hothers, hactive, hsettings, hends⟩ := loseLane_facts hrun (s := s) (l := l) hqueue hwindow
      have hlane := loseLane_lane s l ((v.lane l).lost s.timebase)
      obtain ⟨-, kcontact, -, -⟩ := occur_ofLane_keeps (v.setLane l ((v.lane l).lost s.timebase)) (x := .laneLost) rfl l
      rw [State.lane_setLane_same] at kcontact
      rw [deviceRestart_silent hup] at hrow
      refine ⟨_, hrow, hidle, hlatch, hothers, hactive, hsettings, hends, fun hs ha => absurd ⟨hs, ha⟩ hup,
        fun hs ha => absurd ⟨hs, ha⟩ hup, fun hs ha => ?_, fun hs => ?_⟩
      · have hlost : (v.lane l).lost s.timebase = (v.lane l).quiet .down none :=
          Lane.lost_stays _ (hvs.trans hs) (hva.trans ha)
        rw [hlost] at hlane kcontact
        refine ⟨by rw [hlost]; rfl, ?_, ?_, fun h => ?_, fun h => ?_⟩
        · rw [hlost]; exact kcontact rfl
        · rw [hlost, hlane]; split <;> rfl
        · rw [hlost, hlane, if_neg h]; rfl
        · rw [hlost, hlane, if_pos h]; rfl
      · have hlost : (v.lane l).lost s.timebase = (v.lane l).quiet .fenced x.retryTime := by
          rw [Lane.lost_notUp _ (by rw [hvs, hs]; exact nofun), hvs, hvr, hs]
        rw [hlost] at hlane kcontact
        refine ⟨by rw [hlost]; rfl, ?_, ?_⟩
        · rw [hlost]; exact kcontact rfl
        · rw [hlost, hlane]; split <;> rfl

end Sys2Proof.Machine
end

section
/-! SUPPORT. The order of the legs that wait PENDING for a lane (R37, R59): the list is the one that runs in this order
through the waiting legs. -/

namespace Sys2Proof.Machine

/-- The age of a context that is not FREE. -/
def State.ageAt (s : State) (c : CtxId) : Nat := (s.ctx c).elim 0 s.age

theorem State.ageAt_of_ctx {s : State} {c : CtxId} {x : Ctx} (h : s.ctx c = some x) : s.ageAt c = s.age x := by
  unfold State.ageAt; rw [h]; rfl

/-- The context stands before the other: it is older, or as old and of lower number. -/
def State.CtxBefore (s : State) (c d : CtxId) : Prop := s.ageAt d < s.ageAt c ∨ s.ageAt d = s.ageAt c ∧ c.val < d.val

/-- The leg waits before the other (R59). -/
def State.Before (s : State) (r q : LegRef) : Prop := s.CtxBefore r.ctx q.ctx ∨ r.ctx = q.ctx ∧ r.target.val < q.target.val

theorem State.CtxBefore.asymm {s : State} {c d : CtxId} (h : s.CtxBefore c d) : ¬ s.CtxBefore d c := by
  unfold State.CtxBefore at *; omega

theorem State.CtxBefore.irrefl {s : State} (c : CtxId) : ¬ s.CtxBefore c c := fun h => h.asymm h

theorem State.Before.asymm {s : State} {r q : LegRef} (h : s.Before r q) : ¬ s.Before q r := by
  rintro (k | ⟨k, k'⟩)
  · rcases h with h | ⟨h, -⟩
    · exact h.asymm k
    · exact State.CtxBefore.irrefl _ (h ▸ k)
  · rcases h with h | ⟨-, h'⟩
    · exact State.CtxBefore.irrefl _ (k ▸ h)
    · omega

theorem State.Before.irrefl {s : State} (r : LegRef) : ¬ s.Before r r := fun h => h.asymm h

/-! ## The list runs in this order -/

theorem usedContexts_ascending (s : State) : s.usedContexts.Pairwise fun c d => c.1 < d.1 := by
  refine List.Pairwise.filterMap _ (fun c d hcd p hp q hq => ?_) (List.pairwise_lt_finRange 32)
  obtain ⟨x, -, rfl⟩ := Option.map_eq_some_iff.1 hp
  obtain ⟨y, -, rfl⟩ := Option.map_eq_some_iff.1 hq
  exact hcd

/-- The order of a list of contexts by age. -/
def State.OlderFirst (s : State) (c d : CtxId × Ctx) : Prop := s.age d.2 < s.age c.2 ∨ s.age d.2 = s.age c.2 ∧ c.1 < d.1

theorem insertByAge_olderFirst {s : State} {c : CtxId × Ctx} {ds : List (CtxId × Ctx)} (h : ds.Pairwise s.OlderFirst)
    (hc : ∀ d ∈ ds, d.1 < c.1) : (insertByAge s c ds).Pairwise s.OlderFirst := by
  induction ds with
  | nil => exact List.pairwise_singleton ..
  | cons d ds ih =>
    obtain ⟨hd, hds⟩ := List.pairwise_cons.1 h
    unfold insertByAge
    split
    next hlt =>
      refine List.pairwise_cons.2 ⟨fun e he => .inl ?_, h⟩
      rcases List.mem_cons.1 he with rfl | he
      · exact hlt
      · rcases hd e he with k | k <;> omega
    next hle =>
      refine List.pairwise_cons.2 ⟨fun e he => ?_, ih hds fun e he => hc e (List.mem_cons_of_mem _ he)⟩
      rcases (mem_insertByAge s c ds e).1 he with rfl | he
      · have hlow := hc d List.mem_cons_self
        rcases Nat.lt_or_eq_of_le (Nat.le_of_not_lt hle) with k | k
        · exact .inl k
        · exact .inr ⟨k, hlow⟩
      · exact hd e he

theorem foldl_insertByAge_olderFirst {s : State} (cs acc : List (CtxId × Ctx)) (hcs : cs.Pairwise fun c d => c.1 < d.1)
    (hacc : acc.Pairwise s.OlderFirst) (hlow : ∀ c ∈ cs, ∀ d ∈ acc, d.1 < c.1) :
    (cs.foldl (fun acc c => insertByAge s c acc) acc).Pairwise s.OlderFirst := by
  induction cs generalizing acc with
  | nil => exact hacc
  | cons c cs ih =>
    obtain ⟨hc, hcs⟩ := List.pairwise_cons.1 hcs
    refine ih _ hcs (insertByAge_olderFirst hacc fun d hd => hlow c List.mem_cons_self d hd) fun e he d hd => ?_
    rcases (mem_insertByAge s c acc d).1 hd with rfl | hd
    · exact hc e he
    · exact hlow e (List.mem_cons_of_mem _ he) d hd

theorem byAge_olderFirst (s : State) : s.byAge.Pairwise s.OlderFirst :=
  foldl_insertByAge_olderFirst _ _ (usedContexts_ascending s) .nil fun _ _ _ hd => by cases hd

theorem pendingFor_before {s : State} (hc : s.Counts) (l : LaneId) : (s.pendingFor l).Pairwise s.Before := by
  have hctx : ∀ c ∈ s.byAge, s.ctx c.1 = some c.2 := fun c hm => (mem_usedContexts s c.1 c.2).1 ((mem_byAge s c).1 hm)
  refine List.pairwise_flatMap.2 ⟨fun c hm => ?_, (byAge_olderFirst s).imp_of_mem fun {c d} hcm hdm hcd r hr q hq => ?_⟩
  · refine List.pairwise_map.2 ?_
    have hasc : c.2.legs.Pairwise fun g h => g.target < h.target := List.pairwise_map.1 (hc c.1 c.2 (hctx c hm)).ascending
    exact (hasc.filter _).imp fun h => .inr ⟨rfl, h⟩
  · obtain ⟨g, -, rfl⟩ := List.mem_map.1 hr
    obtain ⟨h, -, rfl⟩ := List.mem_map.1 hq
    refine .inl ?_
    unfold State.CtxBefore
    rw [State.ageAt_of_ctx (hctx c hcm), State.ageAt_of_ctx (hctx d hdm)]
    exact hcd

/-- The list is known by its legs: two lists in this order with the same legs are one. -/
theorem eq_of_before {s : State} {rs qs : List LegRef} (hr : rs.Pairwise s.Before) (hq : qs.Pairwise s.Before)
    (h : ∀ r, r ∈ rs ↔ r ∈ qs) : rs = qs := by
  have hnodup : ∀ ps : List LegRef, ps.Pairwise s.Before → ps.Nodup := fun ps hp =>
    hp.imp fun {a b} hab (e : a = b) => State.Before.irrefl b (e ▸ hab)
  have hperm := (List.perm_ext_iff_of_nodup (hnodup rs hr) (hnodup qs hq)).2 h
  exact hperm.eq_of_pairwise (fun a b _ _ hab hba => absurd hba hab.asymm) hr hq

/-- What waits for a lane after some of its legs have gone. -/
theorem pendingFor_of_gone {s t : State} (hs : s.Counts) (ht : t.Counts) {l : LaneId} {p : LegRef → Bool}
    (hage : ∀ r ∈ t.pendingFor l, t.ageAt r.ctx = s.ageAt r.ctx)
    (hlegs : ∀ r, t.HasLeg r.ctx r.target l .pending ↔ s.HasLeg r.ctx r.target l .pending ∧ p r = true) :
    t.pendingFor l = (s.pendingFor l).filter p := by
  refine eq_of_before (s := s) ?_ ((pendingFor_before hs l).filter p) fun r => ?_
  · refine (pendingFor_before ht l).imp_of_mem fun {r q} hr hq hrq => ?_
    unfold State.Before State.CtxBefore at *
    rwa [← hage r hr, ← hage q hq]
  · rw [List.mem_filter, mem_pendingFor, mem_pendingFor, hlegs]

theorem hasLeg_of_oldestPending {s : State} {l : LaneId} {c : CtxId} {t : Target} (h : s.OldestPending l c t) :
    s.HasLeg c t l .pending := by
  obtain ⟨x, g, hx, hg, ht, hl, hp, -⟩ := h
  exact ⟨x, g, hx, hg, ht, hl, hp⟩

/-- The oldest PENDING leg stands first. -/
theorem pendingFor_of_oldest {s : State} (hc : s.Counts) {l : LaneId} {c : CtxId} {t : Target} (h : s.OldestPending l c t) :
    ∃ rest, s.pendingFor l = ⟨c, t⟩ :: rest := by
  have hin := (mem_pendingFor s l ⟨c, t⟩).2 (hasLeg_of_oldestPending h)
  have hbefore := pendingFor_before hc l
  obtain ⟨x, g, hx, -, -, -, -, hold⟩ := h
  cases hp : s.pendingFor l with
  | nil => rw [hp] at hin; cases hin
  | cons r rest =>
    refine ⟨rest, congrArg (· :: rest) ?_⟩
    rw [hp] at hin hbefore
    rcases List.mem_cons.1 hin with e | hin
    · exact e.symm
    · have hfirst := (List.pairwise_cons.1 hbefore).1 _ hin
      obtain ⟨y, k, hy, hk, hkt, hkl, hkp⟩ := (mem_pendingFor s l r).1 (by rw [hp]; exact List.mem_cons_self)
      obtain ⟨hsame, hother⟩ := hold r.ctx y k hy hk hkl hkp
      exfalso
      rcases hfirst with hfirst | ⟨e, hlt⟩
      · by_cases e : r.ctx = c
        · exact State.CtxBefore.irrefl c (e ▸ hfirst)
        · have hlt := hother e
          unfold State.CtxBefore at hfirst
          rw [State.ageAt_of_ctx hx, State.ageAt_of_ctx hy] at hfirst
          omega
      · have hle : t.val ≤ r.target.val := hkt ▸ Fin.le_def.1 (hsame e)
        exact absurd hlt (Nat.not_lt.2 hle)

end Sys2Proof.Machine
end

section
/-! SUPPORT. An issue at a lane (R94, R92), as the statement writes it. -/

namespace Sys2Proof.Machine

/-! ## Refill and issue change contexts and lanes alone -/

/-- The two states agree but for the contexts and the lanes. -/
def OnlyLegs (s t : State) : Prop := t = { s with contexts := t.contexts, lanes := t.lanes }

theorem OnlyLegs.refl (s : State) : OnlyLegs s s := rfl

theorem OnlyLegs.trans {s t u : State} (h : OnlyLegs s t) (k : OnlyLegs t u) : OnlyLegs s u := by
  unfold OnlyLegs at *
  rw [k, h]

theorem setLane_onlyLegs (s : State) (l : LaneId) (x : Lane) : OnlyLegs s (s.setLane l x) := rfl

theorem setLegState_onlyLegs (s : State) (r : LegRef) (v : LegState) : OnlyLegs s (s.setLegState r v) := by
  unfold State.setLegState
  split <;> rfl

theorem refill_onlyLegs (s : State) (l : LaneId) : OnlyLegs s (s.refill l) := by
  unfold State.refill
  split
  · rfl
  · exact (setLegState_onlyLegs ..).trans (setLane_onlyLegs ..)

theorem OnlyLegs.fixed {s t : State} (h : OnlyLegs s t) : t.fixed = s.fixed := by rw [h]; rfl

theorem refill_lane (s : State) (l i : LaneId) : (s.refill l).lane i =
    if i = l then { s.lane l with queue := (s.lane l).queue ++ (s.pendingFor l).head?.toList } else s.lane i := by
  unfold State.refill
  split
  next h =>
    rw [h, List.head?_nil, Option.toList_none, List.append_nil]
    split
    next e => rw [e]
    next => rfl
  next r rest h =>
    rw [State.modifyLane, State.lane_setLane, h, setLegState_lane, setLegState_lane]
    rfl

theorem refill_ctx (s : State) (l : LaneId) (c : CtxId) : (s.refill l).ctx c =
    ((s.pendingFor l).head?.elim s fun r => s.setLegState r .queued).ctx c := by
  unfold State.refill
  split
  next h => rw [h]; rfl
  next r rest h => rw [h]; rfl

/-! ## The leg that an issue names -/

theorem find?_map_turn {legs : List Leg} {t : Target} {g : Leg} (h : legs.find? (fun g => g.target = t) = some g) (u : Target)
    (v : LegState) : (legs.map (Leg.turn u v)).find? (fun g => g.target = t) = some (g.turn u v) := by
  have hsame : (fun g : Leg => decide (g.target = t)) ∘ Leg.turn u v = fun g => decide (g.target = t) :=
    funext fun g => by simp [Leg.turn_target]
  rw [List.find?_map, hsame, h]
  rfl

theorem setLegState_leg {s : State} {r : LegRef} {x : Ctx} {g : Leg} (hx : s.ctx r.ctx = some x) (hg : x.leg r.target = some g)
    (q : LegRef) (v : LegState) : ∃ y, (s.setLegState q v).ctx r.ctx = some y ∧
      y.leg r.target = some (if r.ctx = q.ctx then g.turn q.target v else g) := by
  by_cases e : r.ctx = q.ctx
  · rw [e] at hx ⊢
    rw [setLegState_ctx hx, if_pos rfl, if_pos rfl]
    exact ⟨_, rfl, find?_map_turn hg q.target v⟩
  · refine ⟨x, ?_, by rw [if_neg e]; exact hg⟩
    unfold State.setLegState
    split
    · rw [State.ctx_setCtx, if_neg e]; exact hx
    · exact hx

/-- The leg a refill takes is not one that has left PENDING. -/
theorem refill_leg {s : State} {l : LaneId} {r : LegRef} {x : Ctx} {g : Leg} (hx : s.ctx r.ctx = some x)
    (hg : x.leg r.target = some g) (hno : ∀ h ∈ x.legs, h.target = r.target → h.state ≠ .pending) :
    ∃ y, (s.refill l).ctx r.ctx = some y ∧ y.leg r.target = some g := by
  rw [refill_ctx]
  cases hp : (s.pendingFor l).head? with
  | none => exact ⟨x, hx, hg⟩
  | some q =>
    obtain ⟨y, hy, hleg⟩ := setLegState_leg hx hg q .queued
    refine ⟨y, hy, hleg.trans (congrArg some ?_)⟩
    split
    next e =>
      refine Leg.turn_other (fun htarget => ?_) _
      obtain ⟨z, k, hz, hk, hkt, -, hks⟩ := (mem_pendingFor s l q).1 (List.mem_of_head? hp)
      rw [← e, hx] at hz
      cases hz
      have hgt : g.target = r.target := by simpa using List.find?_some hg
      exact hno k hk (hkt.trans (htarget.symm.trans hgt)) hks
    next => rfl

/-! ## The sequence number (R94) -/

theorem freeSeq_of_least {x : Lane} {n : Fin 4}
    (h : Least (fun n : Fin 4 => x.nextSeq + BitVec.ofNat 8 n.val ∉ x.heldSeqs) n) :
    x.freeSeq = x.nextSeq + BitVec.ofNat 8 n.val := by
  have htries : ([0, 1, 2, 3] : List Byte) = (List.finRange 4).map fun n => BitVec.ofNat 8 n.val := by decide
  have hfind : (List.finRange 4).find? ((fun q => !x.heldSeqs.contains q) ∘ (fun k => x.nextSeq + k) ∘
      fun n => BitVec.ofNat 8 n.val) = some n := by
    refine find?_of_least _ n ((least_congr (fun i => ?_) n).2 h)
    simp
  unfold Lane.freeSeq
  rw [htries, List.map_map, List.find?_map, hfind]
  rfl

theorem freeSlot_of_least {x : Lane} {w : SlotId} (h : Least (fun w => x.slot w = .free) w) : x.freeSlot = some w :=
  find?_of_least _ w ((least_congr (fun i => by simp) w).2 h)

theorem freeSlot_eq_none {x : Lane} (h : ∀ w, x.slot w ≠ .free) : x.freeSlot = none :=
  List.find?_eq_none.2 fun w _ hw => h w (by simpa using hw)

/-! ## The issue -/

theorem issueEvent_idle {s : State} {l : LaneId} (h : (s.lane l).state ≠ .up ∨ s.hub = .halted ∨
    (∀ w, (s.lane l).slot w ≠ .free) ∨ (s.lane l).queue = []) : issueEvent l s = s := by
  refine if_neg fun hcan => ?_
  unfold State.canIssue at hcan
  simp only [Bool.and_eq_true, beq_iff_eq, bne_iff_ne] at hcan
  obtain ⟨⟨⟨hup, hrun⟩, hslot⟩, hqueue⟩ := hcan
  rcases h with h | h | h | h
  · exact h hup
  · exact hrun h
  · rw [freeSlot_eq_none h] at hslot; cases hslot
  · rw [h] at hqueue; cases hqueue

theorem issueEvent_eq {s : State} {l : LaneId} {r : LegRef} {rest : List LegRef} {w : SlotId} {c : Ctx} {g : Leg}
    (hup : (s.lane l).state = .up) (hrun : s.hub ≠ .halted) (hq : (s.lane l).queue = r :: rest)
    (hw : Least (fun w => (s.lane l).slot w = .free) w) (hc : s.ctx r.ctx = some c) (hg : c.leg r.target = some g) :
    issueEvent l s = s.issueLeg l r rest w c g := by
  have hcan : s.canIssue l = true := by
    unfold State.canIssue
    simp only [Bool.and_eq_true, beq_iff_eq, bne_iff_ne]
    exact ⟨⟨⟨hup, hrun⟩, by rw [freeSlot_of_least hw]; rfl⟩, by rw [hq]; rfl⟩
  unfold issueEvent
  rw [if_pos hcan]
  dsimp only
  rw [hq, freeSlot_of_least hw]
  dsimp only
  rw [hc]
  dsimp only
  rw [hg]

theorem Lane.send_keeps (now : Time) (f : LaneFrame) (x : Lane) : (x.send now f).window = x.window ∧
    (x.send now f).queue = x.queue ∧ (x.send now f).nextSeq = x.nextSeq := by
  unfold Lane.send
  split <;> exact ⟨rfl, rfl, rfl⟩

theorem Lane.send_line {x : Lane} (h : x.line = none) (now : Time) (f : LaneFrame) : (x.send now f).line = some f := by
  unfold Lane.send
  rw [h]

section
variable {s : State} {l : LaneId} {r : LegRef} {rest : List LegRef} (w : SlotId) (c : Ctx) (g : Leg)

/-- The state of an issue before its refill. -/
def State.headIssued (s : State) (l : LaneId) (r : LegRef) (rest : List LegRef) (w : SlotId) (c : Ctx) (g : Leg) : State :=
  (s.setLane l ((s.lane l).issuing rest w (.issued (s.lane l).freeSeq r.ctx c.master r.target
    (s.after (s.classDuration g.deadline))))).setLegState r .issued

theorem issueLeg_onlyLegs : OnlyLegs s (s.issueLeg l r rest w c g) := by
  rw [issueLeg_eq]
  exact (((setLane_onlyLegs ..).trans (setLegState_onlyLegs ..)).trans (refill_onlyLegs ..)).trans (setLane_onlyLegs ..)

/-- The lane after an issue. -/
theorem issueLeg_lane : ∃ y : Lane, (s.issueLeg l r rest w c g).lane l = y ∧
    (∀ v, y.slot v = if v = w then .issued (s.lane l).freeSeq r.ctx c.master r.target
      (s.after (s.classDuration g.deadline)) else (s.lane l).slot v) ∧ y.nextSeq = (s.lane l).freeSeq + 1 ∧
    y.queue = rest ++ ((s.headIssued l r rest w c g).pendingFor l).head?.toList ∧
    ((s.lane l).line = none → y.line = some (.legOut ⟨(s.lane l).freeSeq, g.station, c.legOp, g.addr, c.count⟩)) := by
  have hlane : (s.headIssued l r rest w c g).lane l = (s.lane l).issuing rest w (.issued (s.lane l).freeSeq r.ctx c.master
      r.target (s.after (s.classDuration g.deadline))) := (setLegState_lane ..).trans (State.lane_setLane_same ..)
  have he : (s.issueLeg l r rest w c g).lane l = Lane.send s.timebase
      (.legOut ⟨(s.lane l).freeSeq, g.station, c.legOp, g.addr, c.count⟩) { (s.headIssued l r rest w c g).lane l with
        queue := ((s.headIssued l r rest w c g).lane l).queue ++ ((s.headIssued l r rest w c g).pendingFor l).head?.toList } := by
    rw [issueLeg_eq, State.modifyLane, State.lane_setLane_same, refill_lane, if_pos rfl]
    rfl
  rw [hlane] at he
  refine ⟨_, he, ?_⟩
  generalize hx : ({ (s.lane l).issuing rest w _ with queue := _ } : Lane) = x
  obtain ⟨hwindow, hqueue, hseq⟩ := x.send_keeps s.timebase
    (.legOut ⟨(s.lane l).freeSeq, g.station, c.legOp, g.addr, c.count⟩)
  refine ⟨fun v => ?_, by rw [hseq, ← hx]; rfl, by rw [hqueue, ← hx]; rfl, fun h => Lane.send_line (by rw [← hx]; exact h) ..⟩
  unfold Lane.slot at *
  rw [hwindow, ← hx]
  exact slot_setSlot ..

variable (hc : s.ctx r.ctx = some c)
include hc

theorem headIssued_ctx (d : CtxId) : (s.headIssued l r rest w c g).ctx d =
    if d = r.ctx then some (c.setLegState r.target .issued) else s.ctx d :=
  setLegState_ctx (s := s.setLane l _) hc .issued d

theorem headIssued_nonePending (h : s.NonePending l) : (s.headIssued l r rest w c g).NonePending l := by
  intro d x k hx hk hl hp
  rw [headIssued_ctx w c g hc] at hx
  split at hx
  next e =>
    cases hx
    obtain ⟨k0, hk0, rfl⟩ := List.mem_map.1 hk
    by_cases ht : k0.target = r.target
    · rw [if_pos ht] at hp; cases hp
    · rw [if_neg ht] at hp hl; exact h r.ctx c k0 hc hk0 hl hp
  next => exact h d x k hx hk hl hp

theorem headIssued_ageAt (d : CtxId) : (s.headIssued l r rest w c g).ageAt d = s.ageAt d := by
  have hadm : (s.headIssued l r rest w c g).admission = s.admission := by
    rw [((setLane_onlyLegs s l _).trans (setLegState_onlyLegs _ r .issued) : OnlyLegs s (s.headIssued l r rest w c g))]
  unfold State.ageAt State.age
  rw [hadm, headIssued_ctx w c g hc]
  split
  next e => rw [e, hc]; rfl
  next => rfl

/-- The leg of an issue is ISSUED, and no refill takes it (R94). -/
theorem issueLeg_leg (hg : c.leg r.target = some g) : ∃ c' g', (s.issueLeg l r rest w c g).ctx r.ctx = some c' ∧
    c'.leg r.target = some g' ∧ g'.state = .issued := by
  have hgt : g.target = r.target := by simpa using List.find?_some hg
  have hctx : (s.headIssued l r rest w c g).ctx r.ctx = some (c.setLegState r.target .issued) :=
    (headIssued_ctx w c g hc r.ctx).trans (if_pos rfl)
  have hleft : ∀ k ∈ (c.setLegState r.target .issued).legs, k.target = r.target → k.state ≠ .pending := fun k hk ht => by
    obtain ⟨k0, -, rfl⟩ := List.mem_map.1 hk
    change (Leg.turn r.target .issued k0).target = _ at ht
    rw [Leg.turn_target] at ht
    rw [if_pos ht]
    exact nofun
  obtain ⟨y, hy, hleg⟩ := refill_leg (l := l) hctx (find?_map_turn hg r.target .issued) hleft
  refine ⟨y, _, hy, hleg, ?_⟩
  rw [Leg.turn_same hgt]

section
variable (hs : s.LegsStand) (hq : (s.lane l).queue = r :: rest)
include hs hq

omit hc in
theorem queue_head_queued : s.HasLeg r.ctx r.target l .queued := (hs.queued l r).1 (by rw [hq]; exact List.mem_cons_self)

omit hc in
theorem headIssued_counts : (s.headIssued l r rest w c g).Counts :=
  have hhead : s.HasLeg r.ctx r.target l .queued := queue_head_queued hs hq
  setLegState_counts (s := s.setLane l _) hs.counted hhead open_queued open_issued

theorem headIssued_pendingFor : (s.headIssued l r rest w c g).pendingFor l = s.pendingFor l := by
  refine (pendingFor_of_gone (p := fun _ => true) hs.counted (headIssued_counts w c g hs hq)
    (fun q _ => headIssued_ageAt w c g hc q.ctx) fun q => ?_).trans (List.filter_true _)
  have hhead := queue_head_queued hs hq
  refine (setLegState_hasLeg (s := s.setLane l _) (v := .issued) hs.counted hhead q.ctx q.target l .pending).trans ?_
  rw [and_iff_left rfl]
  split
  next e =>
    refine ⟨fun h => (by cases h.2), fun h => ?_⟩
    obtain rfl : q = r := e
    cases (hs.counted.hasLeg_unique hhead h).2
  next => rfl

/-- A freed queue position goes to the oldest PENDING leg (R92). -/
theorem issueLeg_refills {d : CtxId} {t : Target} (h : s.OldestPending l d t) :
    ((s.headIssued l r rest w c g).pendingFor l).head? = some ⟨d, t⟩ ∧ (s.issueLeg l r rest w c g).HasLeg d t l .queued := by
  obtain ⟨more, hmore⟩ := pendingFor_of_oldest hs.counted h
  have hpending := (headIssued_pendingFor w c g hc hs hq).trans hmore
  have hhead : ((s.headIssued l r rest w c g).pendingFor l).head? = some ⟨d, t⟩ := by rw [hpending]; rfl
  refine ⟨hhead, ?_⟩
  have hleg : (s.headIssued l r rest w c g).HasLeg d t l .pending := (mem_pendingFor _ l ⟨d, t⟩).1 (List.mem_of_head? hhead)
  obtain ⟨x, k, hx, hk⟩ := (setLegState_hasLeg (v := .queued) (r := ⟨d, t⟩) (headIssued_counts w c g hs hq) hleg d t l
    .queued).2 ((if_pos rfl).mpr ⟨rfl, rfl⟩)
  refine ⟨x, k, ?_, hk⟩
  have hrefill := refill_ctx (s.headIssued l r rest w c g) l d
  rw [hhead] at hrefill
  exact hrefill.trans hx

end

end

/-- Settles O45: the head of the queue goes into the lowest FREE slot, and the refill takes the leg that waits first. -/
theorem issueTakesHeadOfQueue : Obligations.IssueTakesHeadOfQueue := by
  unfold Obligations.IssueTakesHeadOfQueue
  intro s l hrun x
  refine ⟨fun h => happens_eq hrun (issueEvent_idle h), fun r rest w c g q hup hhub hq hw hc hg ⟨n, hn, hqn⟩ => ?_⟩
  have hseq : x.freeSeq = q := (freeSeq_of_least hn).trans hqn.symm
  have honly := issueLeg_onlyLegs (s := s) (l := l) (r := r) (rest := rest) w c g
  obtain ⟨y, hy, hslot, hnext, hqueue, hline⟩ := issueLeg_lane (s := s) (l := l) (r := r) (rest := rest) w c g
  rw [hseq] at hslot hnext hline
  refine ⟨_, happens_eq hrun (issueEvent_eq hup hhub hq hw hc hg), ?_, fun v hv => ?_, ?_, fun hnone => ?_,
    fun hplaced d t hold => ?_, issueLeg_leg w c g hc hg, fun h => ?_, ?_⟩
  · rw [hy, hslot, if_pos rfl]; rfl
  · rw [hy, hslot, if_neg hv]
  · rw [hy, hnext]
  · have hnil := (pendingFor_eq_nil_iff _ l).2 (headIssued_nonePending (rest := rest) w c g hc hnone)
    rw [hy, hqueue, hnil, List.head?_nil, Option.toList_none, List.append_nil]
  · have hs := (legsPlaced_standing (s := s) (by unfold State.resetDue; rw [hrun])).1 hplaced
    obtain ⟨hhead, hleg⟩ := issueLeg_refills w c g hc hs hq hold
    rw [hy, hqueue, hhead]
    exact ⟨rfl, hleg⟩
  · rw [hy, hline h]
  · have hothers : ∀ i, i ≠ l → (s.issueLeg l r rest w c g).lane i = s.lane i := fun i hi => by
      rw [issueLeg_eq, State.modifyLane, State.lane_setLane, if_neg hi, refill_lane, if_neg hi, setLegState_lane,
        State.lane_setLane, if_neg hi]
    refine ⟨?_, ?_, ?_, ?_, ?_, ?_, ?_, ?_, ?_, ?_, hothers, sameSettings_of_fixed honly.fixed⟩ <;> rw [honly]

end Sys2Proof.Machine
end

section
/-! SUPPORT. The expiry of a slot (R98, R116), as the statement writes it. -/

namespace Sys2Proof.Machine

/-! ## What the faults of an expiry leave of a target and of the lanes -/

/-- A fault step that fences no lane: it leaves the lanes, the fixed fields, and of the target the error total and both in-flight
counts. -/
structure FaultsAt (t : Target) (u z : State) : Prop where
  lanes    : z.lanes = u.lanes
  fixed    : z.fixed = u.fixed
  errors   : (z.record t).errors = (u.record t).errors
  inFlight : ∀ n, z.inFlight n t = u.inFlight n t

theorem FaultsAt.refl (t : Target) (u : State) : FaultsAt t u u := ⟨rfl, rfl, rfl, fun _ => rfl⟩

theorem FaultsAt.trans {t : Target} {u v z : State} (h : FaultsAt t u v) (k : FaultsAt t v z) : FaultsAt t u z :=
  ⟨k.lanes.trans h.lanes, k.fixed.trans h.fixed, k.errors.trans h.errors, fun n => (k.inFlight n).trans (h.inFlight n)⟩

theorem occur_faultsAt (t : Target) (u : State) {x : Source} (hx : x.cls ≠ .link) (f : FaultFields) :
    FaultsAt t u (u.occur x f) where
  lanes := (occur_reports u fun h => hx h.1).lanes
  fixed := (occur_frame ..).fixed
  errors := (occur_record u x f t).2.1
  inFlight := fun n => occur_inFlight u x f n t fun h => hx h.2.1

theorem setRecord_faultsAt {t : Target} {u : State} {r : TargetRecord} (he : r.errors = (u.record t).errors)
    (hn : ∀ n, r.inFlight n = u.inFlight n t) : FaultsAt t u (u.setRecord t r) where
  lanes := rfl
  fixed := rfl
  errors := by rw [State.record_setRecord_same]; exact he
  inFlight := fun n => by unfold State.inFlight; rw [State.record_setRecord_same]; exact hn n

theorem quarantine_faultsAt (t : Target) (u : State) : FaultsAt t u (u.quarantine t) :=
  setRecord_faultsAt rfl fun n => by cases n <;> rfl

theorem foundCorrupt_faultsAt (t : Target) (u : State) : FaultsAt t u (u.foundCorrupt t) := by
  have hclear : FaultsAt t u ((u.setActive t ⟨.absent, false⟩).setRecord t
      { u.record t with health := .healthy, consecutive := 0 }) := by
    have hset : FaultsAt t u (u.setActive t ⟨.absent, false⟩) := ⟨rfl, rfl, rfl, fun _ => rfl⟩
    exact hset.trans (setRecord_faultsAt rfl fun n => by cases n <;> rfl)
  exact hclear.trans (occur_faultsAt t _ (by decide) _)

/-! ## The threshold test (R116) -/

theorem testThreshold_corrupt {u : State} {t : Target} (h : (u.activeEntry t).corrupt = true) :
    u.testThreshold t = (u.foundCorrupt t, false) := by
  unfold State.testThreshold
  rw [readActive_corrupt h]
  exact if_neg fun k => k.2.1 rfl

/-- The threshold of the entry is reached (R116). -/
def State.ThresholdReached (u : State) (t : Target) : Prop := (u.record t).health = .healthy ∧
  (u.activeEntry t).entry.threshold ≠ 0 ∧ (u.activeEntry t).entry.threshold ≤ (u.record t).consecutive

section
variable {u : State} {t : Target} (h : (u.activeEntry t).corrupt = false)
include h

theorem testThreshold_reached (hr : u.ThresholdReached t) : u.testThreshold t = (u.quarantine t, true) := by
  unfold State.testThreshold
  rw [readActive_sound u t h]
  exact if_pos hr

theorem testThreshold_below (hr : ¬ u.ThresholdReached t) : u.testThreshold t = (u, false) := by
  unfold State.testThreshold
  rw [readActive_sound u t h]
  exact if_neg hr

end

theorem testThreshold_faultsAt (t : Target) (u : State) : FaultsAt t u (u.testThreshold t).1 := by
  cases h : (u.activeEntry t).corrupt
  · by_cases hr : u.ThresholdReached t
    · rw [testThreshold_reached h hr]; exact quarantine_faultsAt t u
    · rw [testThreshold_below h hr]; exact .refl t u
  · rw [testThreshold_corrupt h]
    exact foundCorrupt_faultsAt t u

/-! ## The event -/

/-- The faults that follow the threshold test of an expiry (R98). -/
def State.expiryFaults (u : State) (l : LaneId) (t : Target) (fields : FaultFields) : State :=
  let p := u.testThreshold t
  (p.1.occur .legTimeout fields).occurIf p.2 .targetQuarantined { FaultFields.none with lane := some l, target := some t }

theorem occurIf_false (u : State) (x : Source) (f : FaultFields) : u.occurIf false x f = u := rfl

theorem expiryFaults_faultsAt (u : State) (l : LaneId) (t : Target) (f : FaultFields) : FaultsAt t u (u.expiryFaults l t f) := by
  have hout := (testThreshold_faultsAt t u).trans (occur_faultsAt t (u.testThreshold t).1 (x := .legTimeout) (by decide) f)
  unfold State.expiryFaults State.occurIf
  dsimp only
  split
  · exact hout.trans (occur_faultsAt t _ (by decide) _)
  · exact hout

theorem expiryFaults_latches (u : State) (l : LaneId) (t : Target) (f : FaultFields) :
    ((u.expiryFaults l t f).source .legTimeout).latch = true := by
  have hlatch : (((u.testThreshold t).1.occur .legTimeout f).source .legTimeout).latch = true := occur_latches (by simp) f
  unfold State.expiryFaults State.occurIf
  dsimp only
  split
  · exact occur_latched (by simp) hlatch ..
  · exact hlatch

section
variable {u : State} {t : Target} (l : LaneId) (f : FaultFields)

theorem expiryFaults_corrupt (h : (u.activeEntry t).corrupt = true) :
    u.expiryFaults l t f = (u.foundCorrupt t).occur .legTimeout f := by
  unfold State.expiryFaults
  rw [testThreshold_corrupt h]
  rfl

theorem expiryFaults_below (h : (u.activeEntry t).corrupt = false) (hr : ¬ u.ThresholdReached t) :
    u.expiryFaults l t f = u.occur .legTimeout f := by
  unfold State.expiryFaults
  rw [testThreshold_below h hr]
  rfl

theorem expiryFaults_reached (h : (u.activeEntry t).corrupt = false) (hr : u.ThresholdReached t) :
    u.expiryFaults l t f = ((u.quarantine t).occur .legTimeout f).occur .targetQuarantined
      { FaultFields.none with lane := some l, target := some t } := by
  unfold State.expiryFaults
  rw [testThreshold_reached h hr]
  rfl

/-- What the faults of a sound entry leave in the target's record. -/
theorem expiryFaults_sound (h : (u.activeEntry t).corrupt = false) :
    ((u.expiryFaults l t f).record t).consecutive = (u.record t).consecutive ∧
      ((u.activeEntry t).entry.threshold ≠ 0 → (u.activeEntry t).entry.threshold ≤ (u.record t).consecutive →
        ((u.expiryFaults l t f).record t).health = .quarantined) ∧
      (u.ThresholdReached t → ((u.expiryFaults l t f).source .targetQuarantined).latch = true) := by
  by_cases hr : u.ThresholdReached t
  · rw [expiryFaults_reached l f h hr]
    obtain ⟨hcount, -, hhealth⟩ := occur_record (u.quarantine t) .legTimeout f t
    obtain ⟨hcount', -, hhealth'⟩ := occur_record ((u.quarantine t).occur .legTimeout f) .targetQuarantined
      { FaultFields.none with lane := some l, target := some t } t
    have hself : (u.quarantine t).record t = { u.record t with health := .quarantined } := State.record_setRecord_same ..
    rw [hself] at hcount hhealth
    exact ⟨hcount'.trans hcount, fun _ _ => hhealth' (hhealth rfl), fun _ => occur_latches (by simp) _⟩
  · rw [expiryFaults_below l f h hr]
    obtain ⟨hcount, -, hhealth⟩ := occur_record u .legTimeout f t
    refine ⟨hcount, fun hne hle => hhealth ?_, fun k => absurd k hr⟩
    cases hh : (u.record t).health
    · exact absurd ⟨hh, hne, hle⟩ hr
    · rfl

end

theorem expiring_of_issued {s : State} {l : LaneId} {w : SlotId} {q : Byte} {c : CtxId} {m : Master} {t : Target}
    (h : (s.lane l).slot w = .issued q c m t s.timebase) : s.expiring l w = some (q, ⟨c, t⟩, m) := by
  unfold State.expiring
  rw [h]
  exact if_pos rfl

theorem expiring_eq_none {s : State} {l : LaneId} {w : SlotId}
    (h : ∀ q c m t, (s.lane l).slot w ≠ .issued q c m t s.timebase) : s.expiring l w = none := by
  unfold State.expiring
  split
  next q c m t d e => exact if_neg fun hd : d = s.timebase => h q c m t (hd ▸ e)
  next => rfl

theorem stalled_iff (x : Lane) : x.stalled = true ↔ ∀ v, ∃ p n i, x.slot v = .expired p n i := by
  unfold Lane.stalled
  rw [List.all_eq_true]
  constructor
  · intro h v
    have hv := h v (List.mem_finRange v)
    split at hv
    next p n i e => exact ⟨p, n, i, e⟩
    next => cases hv
  · intro h v _
    obtain ⟨p, n, i, e⟩ := h v
    rw [e]

theorem stalled_setSlot (x : Lane) (w : SlotId) (q : Byte) (m : Master) (t : Target) :
    (x.setSlot w (.expired q m t)).stalled = true ↔ ∀ v, v ≠ w → ∃ p n i, x.slot v = .expired p n i := by
  rw [stalled_iff]
  refine forall_congr' fun v => ?_
  rw [slot_setSlot]
  by_cases e : v = w
  · rw [if_pos e]; exact ⟨fun _ h => absurd e h, fun _ => ⟨q, m, t, rfl⟩⟩
  · rw [if_neg e]; exact ⟨fun h _ => h, fun h => h e⟩

section
variable {s : State} {l : LaneId} {w : SlotId} {q : Byte} {c : CtxId} {m : Master} {t : Target} {x : Ctx}
  (hrun : s.phase = .running) (hslot : (s.lane l).slot w = .issued q c m t s.timebase) (hx : s.ctx c = some x)
include hrun hslot hx

theorem legExpiryEvent_eq : legExpiryEvent l w s =
    ((((s.setLane l ((s.lane l).setSlot w (.expired q m t))).complete ⟨c, t⟩ .timeout []).expiryFaults l t
      { lane := some l, target := some t, master := some m, tag := x.tag, detail := none }).occurIf
        ((s.lane l).setSlot w (.expired q m t)).stalled .laneStalled (.ofLane l)) := by
  have hfields : legFields l t m (s.ctx c) =
      { lane := some l, target := some t, master := some m, tag := x.tag, detail := none } := by rw [hx]; rfl
  have htest : ∀ u : State, u.phase = .running → u.thresholdTest t = u.testThreshold t := fun u hu => by
    unfold State.thresholdTest State.resetDue
    rw [hu]
    exact if_neg Bool.false_ne_true
  have hphase : ((s.setLane l ((s.lane l).setSlot w (.expired q m t))).complete ⟨c, t⟩ .timeout []).phase = .running :=
    (congrArg (fun o : Outside => o.fixed.phase) (complete_frame (s.setLane l _) ⟨c, t⟩ .timeout []).outside :).trans hrun
  have hlane : ((s.setLane l ((s.lane l).setSlot w (.expired q m t))).lane l) = (s.lane l).setSlot w (.expired q m t) :=
    State.lane_setLane_same ..
  unfold legExpiryEvent
  rw [expiring_of_issued hslot]
  dsimp only
  unfold State.modifyLane
  rw [hfields, htest _ hphase, hlane]
  rfl

end

theorem occurIf_laneStalled (z : State) (b : Bool) (l : LaneId) (t : Target) :
    (∀ v, ((z.occurIf b .laneStalled (.ofLane l)).lane l).slot v = (z.lane l).slot v) ∧
      (∀ i, i ≠ l → (z.occurIf b .laneStalled (.ofLane l)).lane i = z.lane i) ∧
      (z.occurIf b .laneStalled (.ofLane l)).fixed = z.fixed ∧
      (((z.occurIf b .laneStalled (.ofLane l)).record t).consecutive = (z.record t).consecutive ∧
        ((z.occurIf b .laneStalled (.ofLane l)).record t).errors = (z.record t).errors ∧
        ((z.record t).health = .quarantined → ((z.occurIf b .laneStalled (.ofLane l)).record t).health = .quarantined)) ∧
      ∀ y, y ≠ .recordsLost → (z.source y).latch = true → ((z.occurIf b .laneStalled (.ofLane l)).source y).latch = true := by
  unfold State.occurIf
  split
  · refine ⟨fun v => ?_, fun i hi => occur_ofLane_lane_other z l _ hi, (occur_frame ..).fixed, occur_record .., fun y hy h =>
      occur_latched hy h ..⟩
    rw [occur_ofLane_lane z rfl l]
    split
    · unfold Lane.slot
      rw [(z.lane l).whenFenced_keeps.1]
    · rfl
  · exact ⟨fun _ => rfl, fun _ _ => rfl, rfl, ⟨rfl, rfl, id⟩, fun _ _ => id⟩

/-- Settles O44: the completion by TIMEOUT, then the faults by whether the threshold is reached, then LANE_STALLED. -/
theorem legExpiryTimesLegOut : Obligations.LegExpiryTimesLegOut := by
  unfold Obligations.LegExpiryTimesLegOut
  intro s l w hrun
  have hrow : exec (.legExpiry l w) s = .next (legExpiryEvent l w s) := happensAtLane_of_running hrun rfl
  refine ⟨fun h => ?_, fun q c m t x g hslot hx hg hstate => ?_⟩
  · rw [hrow]
    unfold legExpiryEvent
    rw [expiring_eq_none h]
  intro u fields entry count reached stalls becomes
  obtain ⟨hhealth, hcount, herrors, -, hmine, htheirs, -, -, hlanes, hactive, -, -, -, -, -, -, -, -, hmany, hlast⟩ :=
    completionUpdatesContextAndRecord (s.setLane l ((s.lane l).setSlot w (.expired q m t))) c t x g .timeout [] hx hg hstate
  have hframe : LegFrame (s.setLane l ((s.lane l).setSlot w (.expired q m t))) u := complete_frame ..
  have hfixed : u.fixed = s.fixed := (congrArg Outside.fixed hframe.outside :)
  have hentry : u.activeEntry t = entry := congrArg (fun v : Vector ActiveEntry 63 => v[t]) hactive
  have hreached : u.ThresholdReached t ↔ reached := by
    unfold State.ThresholdReached
    rw [hentry, show (u.record t).health = (s.record t).health from hhealth, show (u.record t).consecutive = count from hcount]
  have hevent := legExpiryEvent_eq hrun hslot hx
  have hstalls := stalled_setSlot (s.lane l) w q m t
  have hfaults : FaultsAt t u (u.expiryFaults l t fields) := expiryFaults_faultsAt u l t fields
  have hlatch := expiryFaults_latches u l t fields
  have hsound := expiryFaults_sound (u := u) (t := t) l fields
  have hbecomes : ∀ z, u.expiryFaults l t fields = z → becomes z := fun z hz => by
    refine ⟨fun h => ?_, fun h => ?_⟩ <;> rw [hrow, hevent, ← hz]
    · rw [hstalls.2 h]; rfl
    · rw [Bool.eq_false_iff.2 fun k => h (hstalls.1 k)]; rfl
  refine ⟨⟨hlanes, fun h => ?_, fun h => ⟨(hlast h).1, fun tag hs hfree hlegs hkind => ?_⟩⟩, fun h => ?_, fun h hr => ?_,
    fun h hr => ?_, ?_⟩
  · obtain ⟨y, hy, -, -, -, -, -, g', hg', hs'⟩ := hmany h
    exact ⟨y, g', hy, hg', hs'⟩
  · have hu : g.unfinished = true := (Leg.unfinished_iff g).2 hstate
    have hfilled := complete_filled (s := s.setLane l ((s.lane l).setSlot w (.expired q m t))) (r := ⟨c, t⟩) (o := .timeout)
      (ws := []) hx hg hu h hs (by rwa [State.port_setLane])
    rw [Ctx.endLeg_response hkind hlegs (Ctx.leg_eq_some hg).2, State.port_setLane] at hfilled
    exact hfilled
  · exact hbecomes _ (expiryFaults_corrupt l fields (hentry ▸ h))
  · exact hbecomes _ (expiryFaults_below l fields (hentry ▸ h) fun k => hr (hreached.1 k))
  · exact hbecomes _ (expiryFaults_reached l fields (hentry ▸ h) (hreached.2 hr))
  · obtain ⟨kslot, kothers, kfixed, ⟨kcount, kerrors, khealth⟩, klatch⟩ := occurIf_laneStalled (u.expiryFaults l t fields)
      ((s.lane l).setSlot w (.expired q m t)).stalled l t
    have hlane : ∀ i, (u.expiryFaults l t fields).lane i = (s.setLane l ((s.lane l).setSlot w (.expired q m t))).lane i :=
      fun i => congrArg (fun v : Vector Lane 12 => v[i]) (hfaults.lanes.trans hlanes)
    have hself : ∀ v, ((u.expiryFaults l t fields).lane l).slot v = if v = w then .expired q m t else (s.lane l).slot v :=
      fun v => by rw [hlane, State.lane_setLane_same, slot_setSlot]
    refine ⟨_, hrow.trans (congrArg _ hevent), ?_, fun v hv => ?_, ?_, fun hno n => ?_, fun i hi => ?_,
      sameSettings_of_fixed (kfixed.trans (hfaults.fixed.trans hfixed)), klatch _ (by simp) hlatch, fun h => ?_⟩
    · rw [kslot, hself, if_pos rfl]
    · rw [kslot, hself, if_neg hv]
    · exact kerrors.trans (hfaults.errors.trans (herrors (.inr (.inl rfl))))
    · rw [Bool.eq_false_iff.2 fun k => hno (hstalls.1 k), occurIf_false]
      refine (hfaults.inFlight n).trans ?_
      rcases eq_or_eq_other x.master n with rfl | rfl
      · exact hmine
      · exact htheirs
    · rw [kothers i hi, hlane, State.lane_setLane, if_neg hi]
    · obtain ⟨hc, hq, hl⟩ := hsound (hentry ▸ h)
      refine ⟨kcount.trans (hc.trans hcount), fun hne hle => khealth (hq ?_ ?_), fun hr => klatch _ (by simp) (hl (hreached.2 hr))⟩
      · rw [hentry]; exact hne
      · rw [hentry]; exact hle.trans (le_of_eq hcount.symm)

end Sys2Proof.Machine
end

section
/-! SUPPORT. The events that fall between the parts of a fabric reset (R80, R183), as the statement writes them. -/

namespace Sys2Proof.Machine

/-! ## With every context FREE no leg ends -/

section
variable {s : State} (hfree : ∀ c, s.ctx c = none)
include hfree

theorem complete_of_free (r : LegRef) (o : LegOutcome) (ws : List Word) : s.complete r o ws = s := by
  unfold State.complete
  rw [hfree]

theorem completeAll_of_free (rs : List LegRef) (o : LegOutcome) : s.completeAll rs o = s := by
  induction rs with
  | nil => rfl
  | cons r rs ih =>
    change (s.complete r o []).completeAll rs o = s
    rw [complete_of_free hfree, ih]

theorem fenceLane_of_free (l : LaneId) : ∃ x, s.fenceLane l = s.setLane l x := by
  by_cases hup : (s.lane l).state = .up
  · exact ⟨_, (fenceLane_up hup).trans (completeAll_of_free (s := s.setLane l _) hfree _ _)⟩
  · obtain ⟨x, hx, -⟩ := fenceLane_notUp hup
    exact ⟨x, hx⟩

end

section
variable {s : State} {before : Vector (Option Ctx) 32} (hreset : s.phase = .resetting before)
include hreset

theorem resetDue_resetting : s.resetDue = true := by
  unfold State.resetDue
  rw [hreset]

theorem slotFreed_resetting (m : Master) (t : Target) : s.slotFreed m t = s := if_pos (resetDue_resetting hreset)

theorem fallAll_resetting (places : List (Master × Target)) : s.fallAll places = s := by
  induction places with
  | nil => rfl
  | cons p ps ih =>
    change (s.slotFreed p.1 p.2).fallAll ps = s
    rw [slotFreed_resetting hreset, ih]

theorem endLaneWork_resetting (hfree : ∀ c, s.ctx c = none) (l : LaneId) :
    s.endLaneWork l = s.setLane l { s.lane l with queue := [], window := emptyWindow } := by
  have hset : ∀ x, ∀ c, (s.setLane l x).ctx c = none := fun _ => hfree
  unfold State.endLaneWork
  dsimp only
  rw [completeAll_of_free (hset _), fallAll_resetting (s := s.setLane l _) hreset, completeAll_of_free (hset _)]

end

/-! ## LEG-BACK and expiry -/

section
variable {s : State} {before : Vector (Option Ctx) 32} (hreset : s.phase = .resetting before) (hfree : ∀ c, s.ctx c = none)
include hreset hfree

theorem answerLeg_resetting {l : LaneId} {w : SlotId} {r : LegRef} {x : Ctx} {g : Leg} (hx : before[r.ctx] = some x)
    (hg : x.leg r.target = some g) (m : Master) (f : LegBackFrame) : s.answerLeg l w r m f =
      (s.setLane l ((s.lane l).setSlot w .free)).legBackFault (legBackOutcome f x g)
        { lane := some l, target := some r.target, master := some m, tag := none, detail := none } := by
  have hsent : s.sentCtx r.ctx = some x := by
    unfold State.sentCtx
    rw [hreset]
    exact hx
  rw [answerLeg_sent hsent hg, complete_of_free (s := s.setLane l _) hfree, hfree]
  rfl

theorem legExpiryEvent_resetting {l : LaneId} {w : SlotId} {q : Byte} {c : CtxId} {m : Master} {t : Target}
    (hslot : (s.lane l).slot w = .issued q c m t s.timebase) : legExpiryEvent l w s =
      (((s.setLane l ((s.lane l).setSlot w (.expired q m t))).occur .legTimeout
        { lane := some l, target := some t, master := some m, tag := none, detail := none }).occurIf
          ((s.lane l).setSlot w (.expired q m t)).stalled .laneStalled (.ofLane l)) := by
  have htest : (s.setLane l ((s.lane l).setSlot w (.expired q m t))).thresholdTest t =
      (s.setLane l ((s.lane l).setSlot w (.expired q m t)), false) := if_pos (resetDue_resetting (s := s.setLane l _) hreset)
  have hlane : ((s.setLane l ((s.lane l).setSlot w (.expired q m t))).lane l) = (s.lane l).setSlot w (.expired q m t) :=
    State.lane_setLane_same ..
  unfold legExpiryEvent
  rw [expiring_of_issued hslot]
  dsimp only
  unfold State.modifyLane
  rw [complete_of_free (s := s.setLane l _) hfree, htest, hlane, hfree]
  rfl

end

/-! ## Lane loss and a HELLO of the device -/

/-- A fence of a lane that sends nothing but keepalives leaves its contact (R101). -/
theorem Lane.whenFenced_contact {x : Lane} (h : x.state = .up ∨ x.state = .fenced) : x.whenFenced.contact = x.contact := by
  unfold Lane.whenFenced
  rcases h with h | h <;> rw [h]

/-- A step of one lane between the parts of a fabric reset: it leaves the other lanes, the fixed fields and what the endings of
legs change. -/
structure LaneApart (l : LaneId) (s t : State) : Prop where
  ended  : s.EndedAs t
  others : ∀ j, j ≠ l → t.lane j = s.lane j
  fixed  : t.fixed = s.fixed

theorem LaneApart.refl (l : LaneId) (s : State) : LaneApart l s s := ⟨.refl s, fun _ _ => rfl, rfl⟩

theorem LaneApart.trans {l : LaneId} {s t u : State} (h : LaneApart l s t) (k : LaneApart l t u) : LaneApart l s u :=
  ⟨h.ended.trans k.ended, fun j hj => (k.others j hj).trans (h.others j hj), k.fixed.trans h.fixed⟩

theorem setLane_laneApart (s : State) (l : LaneId) (x : Lane) : LaneApart l s (s.setLane l x) :=
  ⟨setLane_endedAs .., fun j hj => by rw [State.lane_setLane, if_neg hj], rfl⟩

/-- The part is between the parts of a fabric reset, where every context is FREE. -/
def State.Between (s : State) : Prop := (∃ before, s.phase = .resetting before) ∧ ∀ c, s.ctx c = none

theorem LaneApart.between {l : LaneId} {s t : State} (h : LaneApart l s t) (hs : s.Between) : t.Between := by
  obtain ⟨⟨before, hreset⟩, hfree⟩ := hs
  exact ⟨⟨before, (congrArg Fixed.phase h.fixed).trans hreset⟩, fun c => (ctx_of_contexts h.ended.1 c).trans (hfree c)⟩

section
variable {s : State} (hs : s.Between) (l : LaneId)
include hs

theorem occur_laneApart {x : Source} (hx : x.cls = .link) : LaneApart l s (s.occur x (.ofLane l)) where
  ended := occur_endedAs fun _ u hctx _ => by
    obtain ⟨y, hy⟩ := fenceLane_of_free (s := u) (fun c => (ctx_of_contexts hctx c).trans (hs.2 c)) l
    have hstep : u.isolateStep x (.ofLane l) = u.fenceLane l := by unfold State.isolateStep; rw [hx]; rfl
    rw [hstep, hy]
    exact setLane_endedAs ..
  others := fun j hj => occur_ofLane_lane_other s l x hj
  fixed := (occur_frame ..).fixed

theorem endLaneWork_laneApart : LaneApart l s (s.endLaneWork l) := by
  obtain ⟨⟨before, hreset⟩, hfree⟩ := hs
  rw [endLaneWork_resetting hreset hfree]
  exact setLane_laneApart ..

theorem laneStart_laneApart : LaneApart l s (s.laneStart l) := by
  cases h : (s.lane l).receiver with
  | hunting => rw [laneStart_hunting h]; exact .refl l s
  | inFrame bytes =>
    rw [laneStart_inFrame h]
    have hset := setLane_laneApart s l { s.lane l with receiver := .hunting }
    exact hset.trans (occur_laneApart (hset.between hs) l rfl)

theorem loseLane_laneApart (y : Lane) : LaneApart l s (s.loseLane l y) := by
  have hset := (endLaneWork_laneApart hs l).trans (setLane_laneApart _ l y)
  exact hset.trans (occur_laneApart (hset.between hs) l rfl)

/-- A HELLO that finds its lane in contact: LANE_LOST, and after it FRAME_MALFORMED or nothing. -/
theorem deviceRestart_apart (stations : Byte) : LaneApart l s (s.deviceRestart l stations) ∧
    ((s.deviceRestart l stations).source .laneLost).latch = true := by
  by_cases hup : (s.lane l).state = .up ∧ (s.lane l).autoRetrain = true
  · by_cases hg : 1 ≤ stations.toNat ∧ stations.toNat ≤ 4
    · rw [deviceRestart_good hup.1 hup.2 hg]
      exact ⟨loseLane_laneApart hs l _, loseLane_latches s l _⟩
    · rw [deviceRestart_bad hup.1 hup.2 hg]
      have hlost := loseLane_laneApart hs l (((s.endLaneWork l).lane l).startedTraining s.timebase)
      exact ⟨hlost.trans (occur_laneApart (hlost.between hs) l rfl), occur_latched (by simp) (loseLane_latches s l _) ..⟩
  · rw [deviceRestart_silent hup]
    exact ⟨loseLane_laneApart hs l _, loseLane_latches s l _⟩

theorem deviceHello_laneApart (stations : Byte) : LaneApart l s (State.deviceHello l stations s) := by
  cases hc : (s.lane l).contact
  · rw [deviceHello_noContact hc]
    split
    · split
      next hok =>
        rw [State.takeTrainingAnswer, if_pos hok]
        exact setLane_laneApart ..
      next => exact occur_laneApart hs l rfl
    · exact .refl l s
  · rw [deviceHello_contact hc]
    exact (deviceRestart_apart hs l stations).1

theorem deviceHelloEvent_laneApart (stations : Byte) : LaneApart l s (deviceHelloEvent l stations s) := by
  unfold deviceHelloEvent State.laneFrame
  have hstart := laneStart_laneApart hs l
  split
  · split
    · exact hstart.trans (deviceHello_laneApart (hstart.between hs) l stations)
    · exact hstart.trans (occur_laneApart (hstart.between hs) l rfl)
  · exact .refl l s

theorem deviceHelloEvent_latches (stations : Byte) (hc : (s.lane l).contact = true)
    (hstate : (s.lane l).state = .up ∨ (s.lane l).state = .fenced) : ((deviceHelloEvent l stations s).source .laneLost).latch = true := by
  have hcontact : ((s.laneStart l).lane l).contact = true := by
    cases h : (s.lane l).receiver with
    | hunting => rw [laneStart_hunting h]; exact hc
    | inFrame bytes =>
      rw [laneStart_inFrame h, occur_ofLane_lane _ rfl, State.lane_setLane_same]
      split
      · exact (Lane.whenFenced_contact (x := { s.lane l with receiver := .hunting }) hstate).trans hc
      · exact hc
  have hd : (s.lane l).state ≠ .disabled := by rcases hstate with h | h <;> rw [h] <;> exact nofun
  have hevent : deviceHelloEvent l stations s = (s.laneStart l).deviceRestart l stations :=
    (if_pos ((listens_iff _).2 hd)).trans ((if_pos (by decide)).trans (deviceHello_contact hcontact))
  rw [hevent]
  exact (deviceRestart_apart ((laneStart_laneApart hs l).between hs) l stations).2

theorem laneLossEvent_laneApart : LaneApart l s (laneLossEvent l s) := by
  unfold laneLossEvent
  split
  · rw [placeLostLane_eq]
    exact loseLane_laneApart hs l _
  · exact .refl l s

end

/-! ## Every other command comes after the lanes' parts (R183) -/

/-- The state after the parts of a fabric reset that are due. -/
def State.afterParts (s : State) : State := { s with phase := .running, lanes := s.lanes.map (Lane.afterReset s.timebase) }

theorem happens_afterParts {s : State} {before : Vector (Option Ctx) 32} (hreset : s.phase = .resetting before)
    (f : State → State) : happens f s = happens f s.afterParts := by
  have hsettle : s.settle = s.afterParts := settle_resetting s before hreset
  rw [happens_running f s.afterParts rfl]
  unfold happens whenRunning
  rw [hsettle]
  exact congrArg _ (if_pos rfl)

theorem meaning_afterParts {i : Instr} {F : State → Host.Outcome State Fault Refusal} (h : Meaning i F)
    (hrise : i ≠ .resetNRise) (hhold : i ≠ .startUpHoldEnd) (hlane : ¬ EndsAtLane i) {s : State}
    {before : Vector (Option Ctx) 32} (hreset : s.phase = .resetting before) : F s = F s.afterParts := by
  cases h with
  | resetLow => rfl
  | holdEnd => exact absurd rfl hhold
  | rise => exact absurd rfl hrise
  | runs => exact happens_afterParts hreset _
  | row => exact happens_afterParts hreset _
  | atLane hi => exact absurd hi hlane

/-- Settles O37: with every context FREE no completion and no fall is taken, and any other command comes after the parts. -/
theorem eventsBetweenResetPartsAreDiscarded : Obligations.EventsBetweenResetPartsAreDiscarded := by
  unfold Obligations.EventsBetweenResetPartsAreDiscarded
  intro s before hreset hfree
  have hbetween : s.Between := ⟨⟨before, hreset⟩, hfree⟩
  have hexpiry : ∀ l w, exec (.legExpiry l w) s = .next (legExpiryEvent l w s) := fun l w =>
    happensAtLane_resetting (legExpiryEvent l w) s before hreset
  refine ⟨?_, fun l w h => ?_, fun l w q c m t hslot => ?_, fun l i hi => ?_, fun i h1 h2 h3 h4 hrise hhold => ?_⟩
  · intro l f hd hr hfit hlen heard becomes
    have hheard : (s.lane l).heard s.timebase = heard := lane_heard ..
    have hslots : ((s.setLane l heard).lane l).slot = (s.lane l).slot := by rw [State.lane_setLane_same]; rfl
    have hrow : exec (.legBack l f) s = .next ((s.setLane l heard).takeLegBack l f) := by
      rw [legBack_row_sound (.inr ⟨before, hreset⟩) hd hr hfit hlen, hheard]
    have hfreed : ∀ w, (s.setLane l heard).setLane l (((s.setLane l heard).lane l).setSlot w .free) =
        s.setLane l (heard.setSlot w .free) := fun w => modifyLane_setLane s l heard fun x => x.setSlot w .free
    refine ⟨?_, fun hno => ?_⟩
    · intro w c m t d x g hw hslot hx hg u fields same
      have htake : exec (.legBack l f) s = .next (u.legBackFault (legBackOutcome f x g) fields) := by
        rw [hrow, takeLegBack_issued (by rw [hslots]; exact hw) (by rw [hslots]; exact hslot),
          answerLeg_resetting (s := s.setLane l heard) hreset hfree (r := ⟨c, t⟩) hx hg, hfreed]
      refine ⟨fun h he ha => ?_, fun h he ha => ?_, fun h => ?_⟩ <;> refine htake.trans ?_
      · rw [legBackOutcome_ok h he ha]; rfl
      · rw [legBackOutcome_error h he ha]; rfl
      · rw [legBackOutcome_bad h]; rfl
    · have hno' : ∀ w c m t d, ((s.setLane l heard).lane l).slot w ≠ .issued f.seq c m t d := by rw [hslots]; exact hno
      refine ⟨fun w m t hw hslot => hrow.trans ?_, fun hnot => hrow.trans ?_⟩
      · rw [takeLegBack_late hno' (by rw [hslots]; exact hw) (by rw [hslots]; exact hslot), modifyLane_setLane,
          slotFreed_resetting (s := s.setLane l _) hreset]
      · rw [takeLegBack_stray hno' (by rw [hslots]; exact hnot)]
  · rw [hexpiry]
    unfold legExpiryEvent
    rw [expiring_eq_none h]
  · intro u stalls
    have hstalls := stalled_setSlot (s.lane l) w q m t
    refine ⟨fun h => ?_, fun h => ?_⟩ <;> rw [hexpiry, legExpiryEvent_resetting hreset hfree hslot]
    · rw [hstalls.2 h]; rfl
    · rw [Bool.eq_false_iff.2 fun k => h (hstalls.1 k)]; rfl
  · rcases hi with rfl | ⟨stations, rfl⟩
    · obtain ⟨⟨hctx, hstatus, hclaims, -⟩, hothers, hfixed⟩ := laneLossEvent_laneApart hbetween l
      refine ⟨_, happensAtLane_resetting (laneLossEvent l) s before hreset, hctx, hstatus, hclaims, hothers,
        sameSettings_of_fixed hfixed, fun hc _ harr => ?_⟩
      rw [laneLossEvent_lost hc (harr rfl)]
      exact occur_latches (by simp) _
    · obtain ⟨⟨hctx, hstatus, hclaims, -⟩, hothers, hfixed⟩ := deviceHelloEvent_laneApart hbetween l stations
      exact ⟨_, happensAtLane_resetting (deviceHelloEvent l stations) s before hreset, hctx, hstatus, hclaims, hothers,
        sameSettings_of_fixed hfixed, fun hc hstate _ => deviceHelloEvent_latches hbetween l stations hc hstate⟩
  · refine meaning_afterParts (exec_meaning i) hrise hhold ?_ hreset
    rintro (⟨l, f, h⟩ | ⟨l, stations, h⟩ | ⟨l, h⟩ | ⟨l, w, h⟩)
    · exact h1 l f h
    · exact h4 l stations h
    · exact h3 l h
    · exact h2 l w h

end Sys2Proof.Machine
end

section
/-! SUPPORT. The in-flight counts through the endings of several legs (R14, R61): each leg that ends lowers one count, and so
does each EXPIRED slot that is freed. -/

namespace Sys2Proof.Machine

/-- The leg named is one of this master to this target. -/
def State.concerns (s : State) (m : Master) (t : Target) (r : LegRef) : Bool :=
  r.target == t && (s.ctx r.ctx).any fun x => x.master == m

/-- The leg named is unfinished. -/
def State.Live (s : State) (r : LegRef) : Prop := ∃ l v, LegState.Open v ∧ s.HasLeg r.ctx r.target l v

theorem State.Live.leg {s : State} (hc : s.Counts) {r : LegRef} (h : s.Live r) :
    ∃ x g, s.ctx r.ctx = some x ∧ x.leg r.target = some g ∧ g.unfinished = true := by
  obtain ⟨l, v, hv, hleg⟩ := h
  obtain ⟨x, g, hx, -, -, -, hs, hg⟩ := hasLeg_leg hc hleg
  exact ⟨x, g, hx, hg, Leg.unfinished_of_state hs hv⟩

theorem concerns_of_ended {s t : State} {gone : LegRef → Bool} (h : Ended s t gone) {q : LegRef} (hq : t.Live q) (m : Master)
    (v : Target) : t.concerns m v q = s.concerns m v q := by
  obtain ⟨y, -, hy, -⟩ := hq.leg h.counts
  obtain ⟨x, hx, hm⟩ := h.masters q.ctx y hy
  unfold State.concerns
  rw [hy, hx, Option.any_some, Option.any_some, hm]

theorem live_of_ended {s t : State} {gone : LegRef → Bool} (h : Ended s t gone) {q : LegRef} (hq : s.Live q)
    (hgone : gone q = false) : t.Live q := by
  obtain ⟨l, v, hv, hleg⟩ := hq
  exact ⟨l, v, hv, (h.legs q.ctx q.target l v hv).2 ⟨hleg, hgone⟩⟩

theorem complete_inFlight_concerns {s : State} (hc : s.Counts) {r : LegRef} (hr : s.Live r) {o : LegOutcome}
    (ho : o ≠ .timeout) (ws : List Word) (m : Master) (t : Target) :
    (s.complete r o ws).inFlight m t = s.inFlight m t - if s.concerns m t r = true then 1 else 0 := by
  obtain ⟨x, g, hx, hg, hu⟩ := hr.leg hc
  unfold State.concerns
  rw [hx, Option.any_some]
  by_cases h : r.target = t ∧ x.master = m
  · obtain ⟨rfl, rfl⟩ := h
    rw [complete_inFlight hx hg hu, if_neg ho, if_pos (by simp)]
  · have hother : m ≠ x.master ∨ t ≠ r.target := by
      by_cases e : t = r.target
      · exact .inl fun e' => h ⟨e.symm, e'.symm⟩
      · exact .inr e
    rw [complete_inFlight_other hx hg hu hother, if_neg (by simpa using h), Nat.sub_zero]

theorem completeAll_inFlight {o : LegOutcome} (ho : o ≠ .timeout) {rs : List LegRef} {s : State} (hc : s.Counts)
    (hnodup : rs.Nodup) (hlive : ∀ r ∈ rs, s.Live r) (m : Master) (t : Target) :
    (s.completeAll rs o).inFlight m t = s.inFlight m t - rs.countP (s.concerns m t) := by
  induction rs generalizing s with
  | nil => rfl
  | cons r rs ih =>
    obtain ⟨hr, hrs⟩ := List.nodup_cons.1 hnodup
    have hended := complete_ended hc r o []
    have hlive' : ∀ q ∈ rs, (s.complete r o []).Live q := fun q hq =>
      live_of_ended hended (hlive q (List.mem_cons_of_mem _ hq)) (decide_eq_false fun e => hr (e ▸ hq))
    have hcount : rs.countP ((s.complete r o []).concerns m t) = rs.countP (s.concerns m t) :=
      List.countP_congr fun q hq => by rw [concerns_of_ended hended (hlive' q hq)]
    have hstep := complete_inFlight_concerns hc (hlive r List.mem_cons_self) ho [] m t
    refine (ih hended.counts hrs hlive').trans ?_
    rw [hcount, hstep, List.countP_cons, Nat.sub_sub, Nat.add_comm]

theorem fallAll_inFlight {places : List (Master × Target)} {s : State} (hd : s.resetDue = false) (m : Master) (t : Target) :
    (s.fallAll places).inFlight m t = s.inFlight m t - places.countP fun p => p.1 == m && p.2 == t := by
  induction places generalizing s with
  | nil => rfl
  | cons p ps ih =>
    have hfall : s.slotFreed p.1 p.2 = s.fall p.1 p.2 := slotFreed_standing hd ..
    have hdue : (s.fall p.1 p.2).resetDue = false :=
      (resetDue_congr (congrArg (fun o => o.fixed.phase) (fall_frame s p.1 p.2).outside :)).trans hd
    have hstep : (s.fall p.1 p.2).inFlight m t = s.inFlight m t - if (p.1 == m && p.2 == t) = true then 1 else 0 := by
      by_cases h : p.1 = m ∧ p.2 = t
      · obtain ⟨rfl, rfl⟩ := h
        rw [fall_inFlight, if_pos (by simp)]
      · have hother : m ≠ p.1 ∨ t ≠ p.2 := by
          by_cases e : m = p.1
          · exact .inr fun e' => h ⟨e.symm, e'.symm⟩
          · exact .inl e
        rw [fall_inFlight_other s hother, if_neg (by simpa using h), Nat.sub_zero]
    change ((s.slotFreed p.1 p.2).fallAll ps).inFlight m t = _
    rw [hfall, ih hdue, hstep, List.countP_cons, Nat.sub_sub, Nat.add_comm]

/-- The EXPIRED slots of a lane that record this master and target (R14). -/
theorem countP_expiredPlaces (x : Lane) (m : Master) (t : Target) :
    x.expiredPlaces.countP (fun p => p.1 == m && p.2 == t) = x.expiredFor m t := by
  unfold Lane.expiredPlaces Lane.expiredFor
  rw [List.countP_filterMap]
  refine List.countP_congr fun w _ => ?_
  cases x.slot w <;> rfl

/-! ## Contexts that have such a leg -/

theorem usedContexts_nodup (s : State) : (s.usedContexts.map Prod.fst).Nodup :=
  List.pairwise_map.2 ((usedContexts_ascending s).imp fun h => ne_of_lt h)

/-- A list of legs to one target counts the contexts that have such a leg. -/
theorem contextsWith_eq_countP {s : State} {p : Ctx → Leg → Bool} {t : Target} {rs : List LegRef} {q : LegRef → Bool}
    (hnodup : rs.Nodup) (hq : ∀ r, r ∈ rs ∧ q r = true ↔ r.target = t ∧ ∃ x g, s.ctx r.ctx = some x ∧ g ∈ x.legs ∧ p x g = true) :
    rs.countP q = s.contextsWith p := by
  have hfirst : ((rs.filter q).map LegRef.ctx).Nodup := by
    refine (hnodup.filter q).map_on fun a ha b hb e => ?_
    have hat := ((hq a).1 (List.mem_filter.1 ha)).1
    have hbt := ((hq b).1 (List.mem_filter.1 hb)).1
    cases a; cases b
    exact congrArg₂ LegRef.mk e (hat.trans hbt.symm)
  have hsecond : ((s.usedContexts.filter fun c => c.2.legs.any (p c.2)).map Prod.fst).Nodup :=
    (usedContexts_nodup s).sublist (List.filter_sublist.map _)
  have hperm : ((rs.filter q).map LegRef.ctx).Perm ((s.usedContexts.filter fun c => c.2.legs.any (p c.2)).map Prod.fst) := by
    refine (List.perm_ext_iff_of_nodup hfirst hsecond).2 fun c => ?_
    simp only [List.mem_map, List.mem_filter, List.any_eq_true]
    constructor
    · rintro ⟨r, hr, rfl⟩
      obtain ⟨-, x, g, hx, hg, hp⟩ := (hq r).1 hr
      exact ⟨(r.ctx, x), ⟨(mem_usedContexts s r.ctx x).2 hx, g, hg, hp⟩, rfl⟩
    · rintro ⟨⟨d, x⟩, ⟨hx, g, hg, hp⟩, rfl⟩
      exact ⟨⟨d, t⟩, (hq ⟨d, t⟩).2 ⟨rfl, x, g, (mem_usedContexts s d x).1 hx, hg, hp⟩, rfl⟩
  have hlen := hperm.length_eq
  rw [List.length_map, List.length_map] at hlen
  unfold State.contextsWith
  rw [List.countP_eq_length_filter, List.countP_eq_length_filter]
  exact hlen

end Sys2Proof.Machine
end

section
/-! SUPPORT. The answers that the endings of legs fill (R68 to R70, R128, R170). -/

namespace Sys2Proof.Machine

/-- These answers have been written for the master, as many as it had slots reserved (log 28). -/
def Fills (m : Master) (s t : State) (rs : List Response) : Prop :=
  (t.port m).filled = (s.port m).filled ++ rs.take (s.port m).reserved ∧ (t.port m).reserved = (s.port m).reserved - rs.length

theorem fills_of_port {m : Master} {s t : State} (h : t.port m = s.port m) : Fills m s t [] := by
  unfold Fills
  rw [h, List.take_nil, List.append_nil]
  exact ⟨rfl, rfl⟩

theorem Fills.trans {m : Master} {s t u : State} {rs qs : List Response} (h : Fills m s t rs) (k : Fills m t u qs) :
    Fills m s u (rs ++ qs) := by
  obtain ⟨hfilled, hreserved⟩ := h
  obtain ⟨kfilled, kreserved⟩ := k
  refine ⟨?_, ?_⟩
  · rw [kfilled, hfilled, hreserved, List.append_assoc, List.take_append]
  · rw [kreserved, hreserved, List.length_append]; omega

theorem fillSlot_fills (s : State) (m w : Master) (r : Response) : Fills m s (s.fillSlot w r) (if w = m then [r] else []) := by
  by_cases e : w = m
  · subst e
    rw [if_pos rfl]
    have hport : (s.fillSlot w r).port w = (s.port w).fill r := State.port_setPort_same ..
    unfold Fills
    rw [hport]
    unfold Port.fill
    split
    next h => rw [h, List.take_zero, List.append_nil]; exact ⟨rfl, rfl⟩
    next h =>
      refine ⟨?_, rfl⟩
      rw [List.take_of_length_le (by rw [List.length_singleton]; omega)]
  · rw [if_neg e]
    refine fills_of_port ?_
    unfold State.fillSlot State.modifyPort
    rw [State.port_setPort, if_neg fun h => e h.symm]

/-- The answers are of CLAIMs granted (R128). -/
def ClaimAnswers (rs : List Response) : Prop := ∀ r ∈ rs, r.opcode = some 0x10

theorem claimAnswers_nil : ClaimAnswers [] := fun _ h => absurd h List.not_mem_nil

theorem fall_fills (s : State) (w : Master) (t : Target) (m : Master) : ∃ rs, Fills m s (s.fall w t) rs ∧ ClaimAnswers rs := by
  have hgrant : ∀ (u : State) k, ∃ rs, Fills m u (u.grantClaim k) rs ∧ ClaimAnswers rs := fun u k => by
    unfold State.grantClaim
    split
    next c _ =>
      split
      next tag _ _ =>
        have hset : Fills m u (u.setClaim k (some { c with state := .held (u.leaseDeadline c.lease) })) [] :=
          fills_of_port (State.port_setClaim ..)
        refine ⟨_, hset.trans (fillSlot_fills ..), fun r hr => ?_⟩
        rw [List.nil_append] at hr
        split at hr
        · rw [List.mem_singleton.1 hr]; rfl
        · cases hr
      next => exact ⟨[], fills_of_port rfl, claimAnswers_nil⟩
    next => exact ⟨[], fills_of_port rfl, claimAnswers_nil⟩
  have hcount := fills_of_port (m := m) (s := s) (t := s.setRecord t ((s.record t).setInFlight w (s.inFlight w t - 1)))
    (State.port_setRecord ..)
  unfold State.fall State.reexamine
  split
  · split
    · split
      · obtain ⟨rs, hrs, hclaim⟩ := hgrant (s.setRecord t ((s.record t).setInFlight w (s.inFlight w t - 1))) _
        exact ⟨rs, hcount.trans hrs, hclaim⟩
      · exact ⟨[], hcount, claimAnswers_nil⟩
    · exact ⟨[], hcount, claimAnswers_nil⟩
  · exact ⟨[], hcount, claimAnswers_nil⟩

theorem takeOutcome_fills (s : State) (w : Master) (t : Target) (o : LegOutcome) (m : Master) :
    ∃ rs, Fills m s (s.takeOutcome w t o) rs ∧ ClaimAnswers rs := by
  unfold State.takeOutcome
  dsimp only
  generalize hu : s.setRecord t _ = u
  have hset : Fills m s u [] := fills_of_port (by rw [← hu]; exact State.port_setRecord ..)
  split
  · exact ⟨[], hset, claimAnswers_nil⟩
  · obtain ⟨rs, hrs, hclaim⟩ := fall_fills u w t m
    exact ⟨rs, hset.trans hrs, hclaim⟩

/-! ## What ends, and what is answered for it -/

/-- The response of a context all of whose legs are DONE (R68). -/
def Ctx.finalResponse (x : Ctx) (tag : Byte) : Response := Ctx.response { x with mismatch := x.mismatchTarget } tag

/-- The context is an ACTIVE one of this master that ends with the legs that `gone` names. -/
structure EndsWith (s : State) (gone : CtxId → Leg → Bool) (m : Master) (c : CtxId) (x : Ctx) (tag : Byte) : Prop where
  here   : s.ctx c = some x
  master : x.master = m
  active : x.state = .active tag
  last   : x.left (gone c) = 0

/-- Of every context the unfinished legs that `gone` names have ended with this outcome, and the answers filled for each master
are the responses of the contexts that end with them and answers of CLAIMs granted. -/
structure LegsEnded (o : LegOutcome) (s t : State) (gone : CtxId → Leg → Bool) : Prop where
  ctx     : ∀ c, t.ctx c = (s.ctx c).bind fun x => x.afterEnd (gone c) o
  answers : ∀ m, ∃ rs, Fills m s t rs ∧
    (∀ c x tag, EndsWith s gone m c x tag → (x.endWhere (gone c) o).finalResponse tag ∈ rs) ∧
    ∀ r ∈ rs, r.opcode = some 0x10 ∨ ∃ c x tag, EndsWith s gone m c x tag ∧ r.tag = tag ∧ r.generation = some x.generation

theorem Ctx.left_congr {x : Ctx} {gone gone' : Leg → Bool} (h : ∀ g ∈ x.legs, g.unfinished = true → gone g = gone' g) :
    x.left gone = x.left gone' := congrArg Ctx.unfinished (Ctx.endWhere_congr .cancelled h)

theorem Ctx.left_ne_zero {x : Ctx} (hx : x.Counted) {gone : Leg → Bool}
    (h : ∀ g ∈ x.legs, g.unfinished = true → gone g = false) : x.left gone ≠ 0 := by
  have e : x.left gone = x.unfinished := congrArg Ctx.unfinished (Ctx.endWhere_none hx h .cancelled)
  obtain ⟨-, -, hpos, -⟩ := hx
  omega

theorem Ctx.left_eq_zero_iff (x : Ctx) (gone : Leg → Bool) :
    x.left gone = 0 ↔ ∀ g ∈ x.legs, g.unfinished = true → gone g = true := by
  unfold Ctx.left
  rw [List.countP_eq_zero]
  exact forall₂_congr fun g _ => by cases g.unfinished <;> simp

theorem LegsEnded.congr {o : LegOutcome} {s t : State} {gone gone' : CtxId → Leg → Bool} (h : LegsEnded o s t gone)
    (e : ∀ c x, s.ctx c = some x → ∀ g ∈ x.legs, g.unfinished = true → gone c g = gone' c g) : LegsEnded o s t gone' := by
  have hends : ∀ m c x tag, EndsWith s gone' m c x tag ↔ EndsWith s gone m c x tag := fun m c x tag =>
    ⟨fun k => ⟨k.here, k.master, k.active, (Ctx.left_congr (e c x k.here)).trans k.last⟩,
      fun k => ⟨k.here, k.master, k.active, (Ctx.left_congr (e c x k.here)).symm.trans k.last⟩⟩
  refine ⟨fun c => ?_, fun m => ?_⟩
  · rw [h.ctx]
    cases hx : s.ctx c with
    | none => rfl
    | some x => exact Ctx.afterEnd_congr o (e c x hx)
  · obtain ⟨rs, hfills, hall, honly⟩ := h.answers m
    refine ⟨rs, hfills, fun c x tag k => ?_, fun r hr => (honly r hr).imp_right ?_⟩
    · rw [← Ctx.endWhere_congr o (e c x k.here)]
      exact hall c x tag ((hends ..).1 k)
    · exact fun ⟨c, x, tag, k, hk⟩ => ⟨c, x, tag, (hends ..).2 k, hk⟩

/-- Where no leg ends, only CLAIMs are answered. -/
theorem legsEnded_none {o : LegOutcome} {s t : State} (hc : s.Counts) (hctx : t.contexts = s.contexts)
    (hfills : ∀ m, ∃ rs, Fills m s t rs ∧ ClaimAnswers rs) : LegsEnded o s t fun _ _ => false := by
  refine ⟨fun c => ?_, fun m => ?_⟩
  · rw [ctx_of_contexts hctx]
    cases hx : s.ctx c with
    | none => rfl
    | some x => exact (Ctx.afterEnd_none (hc c x hx) (fun _ _ _ => rfl) o).symm
  · obtain ⟨rs, h, hclaim⟩ := hfills m
    exact ⟨rs, h, fun c x tag k => absurd k.last (Ctx.left_ne_zero (hc c x k.here) fun _ _ _ => rfl), fun r hr => .inl (hclaim r hr)⟩

theorem LegsEnded.trans {o : LegOutcome} {s t u : State} {p q : CtxId → Leg → Bool} (h : LegsEnded o s t p)
    (k : LegsEnded o t u q) : LegsEnded o s u fun c g => p c g || q c g := by
  have hleft : ∀ (x : Ctx) c, (x.endWhere (p c) o).left (q c) = x.left fun g => p c g || q c g := fun x c =>
    congrArg Ctx.unfinished (Ctx.endWhere_endWhere x (p c) (q c) o)
  refine ⟨fun c => ?_, fun m => ?_⟩
  · rw [k.ctx, h.ctx, Option.bind_assoc]
    exact congrArg (Option.bind (s.ctx c)) (funext fun x => Ctx.afterEnd_bind x (p c) (q c) o)
  · obtain ⟨rs, hfills, hall, honly⟩ := h.answers m
    obtain ⟨qs, kfills, kall, konly⟩ := k.answers m
    refine ⟨rs ++ qs, hfills.trans kfills, fun c x tag e => ?_, fun r hr => ?_⟩
    · by_cases hz : x.left (p c) = 0
      · have hcongr : x.endWhere (p c) o = x.endWhere (fun g => p c g || q c g) o := Ctx.endWhere_congr o fun g hg hu => by
          rw [(Ctx.left_eq_zero_iff x (p c)).1 hz g hg hu, Bool.true_or]
        rw [← hcongr]
        exact List.mem_append_left _ (hall c x tag ⟨e.here, e.master, e.active, hz⟩)
      · have hthere : t.ctx c = some (x.endWhere (p c) o) := by
          rw [h.ctx, e.here]
          exact if_neg hz
        rw [← Ctx.endWhere_endWhere]
        exact List.mem_append_right _ (kall c _ tag ⟨hthere, e.master, e.active, (hleft x c).trans e.last⟩)
    · rcases List.mem_append.1 hr with hr | hr
      · refine (honly r hr).imp_right fun ⟨c, x, tag, e, hk⟩ => ⟨c, x, tag, ⟨e.here, e.master, e.active, ?_⟩, hk⟩
        refine (Ctx.left_eq_zero_iff ..).2 fun g hg hu => ?_
        rw [(Ctx.left_eq_zero_iff x (p c)).1 e.last g hg hu, Bool.true_or]
      · refine (konly r hr).imp_right fun ⟨c, y, tag, e, htag, hgen⟩ => ?_
        have hy := e.here
        rw [h.ctx] at hy
        obtain ⟨x, hx, hxy⟩ := Option.bind_eq_some_iff.1 hy
        unfold Ctx.afterEnd at hxy
        split at hxy
        · cases hxy
        · cases hxy
          exact ⟨c, x, tag, ⟨hx, e.master, e.active, (hleft x c).symm.trans e.last⟩, htag, hgen⟩

theorem finalResponse_tag (x : Ctx) (tag : Byte) :
    (x.finalResponse tag).tag = tag ∧ (x.finalResponse tag).generation = some x.generation :=
  Ctx.response_tag { x with mismatch := x.mismatchTarget } tag

theorem complete_legsEnded {s : State} (hc : s.Counts) {o : LegOutcome} (ho : o ≠ .ok) (r : LegRef) (ws : List Word) :
    LegsEnded o s (s.complete r o ws) fun c g => decide (⟨c, g.target⟩ = r) := by
  rcases complete_cases s r with hd | ⟨x, g, hx, hg, hu⟩
  · rw [complete_discarded hd]
    refine (legsEnded_none hc rfl fun m => ⟨[], fills_of_port rfl, claimAnswers_nil⟩).congr fun c y hy k hk hku => ?_
    refine (decide_eq_false fun e => ?_).symm
    subst e
    exact Bool.false_ne_true ((hd y k hy (Ctx.leg_of_mem (hc c y hy).ascending hk)).symm.trans hku)
  · refine ⟨complete_ctx_ended hc ho r ws, fun m => ?_⟩
    obtain ⟨rs, hfills, hclaim⟩ := takeOutcome_fills (s.setCtx r.ctx (some (x.endLeg r.target o ws))) x.master r.target o m
    have hset : Fills m s (s.setCtx r.ctx (some (x.endLeg r.target o ws))) [] := fills_of_port (State.port_setCtx ..)
    have hfirst := hset.trans hfills
    rw [List.nil_append] at hfirst
    have hend := Ctx.endLeg_eq_endWhere (hc _ x hx) hg hu ho ws
    have hgone : ∀ k : Leg, (k.target == r.target) = decide ((⟨r.ctx, k.target⟩ : LegRef) = r) := fun k => by
      rw [Bool.eq_iff_iff, beq_iff_eq, decide_eq_true_iff]
      exact ⟨fun e => e ▸ rfl, fun e => congrArg LegRef.target e⟩
    have hwhere : x.endLeg r.target o ws = x.endWhere (fun k => decide ((⟨r.ctx, k.target⟩ : LegRef) = r)) o :=
      hend.trans (congrArg (fun p => x.endWhere p o) (funext hgone))
    have honly : ∀ c y tag, EndsWith s (fun c g => decide (⟨c, g.target⟩ = r)) m c y tag →
        c = r.ctx ∧ y = x ∧ (x.endLeg r.target o ws).unfinished = 0 := fun c y tag e => by
      by_cases hcr : c = r.ctx
      · subst hcr
        have hy := e.here
        rw [hx] at hy
        cases hy
        exact ⟨rfl, rfl, by rw [hwhere]; exact e.last⟩
      · refine absurd e.last (Ctx.left_ne_zero (hc c y e.here) fun k _ _ => decide_eq_false fun h => hcr ?_)
        exact congrArg LegRef.ctx h
    by_cases hz : (x.endLeg r.target o ws).unfinished = 0
    · rw [complete_last hx hg hu hz]
      generalize (s.setCtx r.ctx (some (x.endLeg r.target o ws))).takeOutcome x.master r.target o = t at hfirst
      cases hs : x.state with
      | orphan =>
        have hport : Fills m t (t.endContext r.ctx (x.endLeg r.target o ws)) [] := by
          unfold State.endContext
          rw [show (x.endLeg r.target o ws).state = .orphan from hs]
          exact fills_of_port (State.port_setCtx ..)
        have hall := hfirst.trans hport
        rw [List.append_nil] at hall
        refine ⟨rs, hall, fun c y tag e => ?_, fun q hq => .inl (hclaim q hq)⟩
        have hactive := e.active
        rw [(honly c y tag e).2.1, hs] at hactive
        cases hactive
      | active tag =>
        have hport : Fills m t (t.endContext r.ctx (x.endLeg r.target o ws))
            (if x.master = m then [(x.endLeg r.target o ws).finalResponse tag] else []) := by
          unfold State.endContext
          rw [show (x.endLeg r.target o ws).state = .active tag from hs]
          exact (fills_of_port (State.port_setCtx ..)).trans (fillSlot_fills (t.setCtx r.ctx none) m x.master _)
        refine ⟨_, hfirst.trans hport, fun c y tag' e => ?_, fun q hq => ?_⟩
        · obtain ⟨rfl, rfl, -⟩ := honly c y tag' e
          have htag := e.active
          rw [hs] at htag
          cases htag
          rw [if_pos e.master, hwhere]
          exact List.mem_append_right _ List.mem_cons_self
        · rcases List.mem_append.1 hq with hq | hq
          · exact .inl (hclaim q hq)
          · split at hq
            next hm =>
              obtain rfl := List.mem_singleton.1 hq
              obtain ⟨htag, hgen⟩ := finalResponse_tag (x.endLeg r.target o ws) tag
              have hlast : x.left (fun k => decide ((⟨r.ctx, k.target⟩ : LegRef) = r)) = 0 := by
                rw [hwhere] at hz; exact hz
              exact .inr ⟨r.ctx, x, tag, ⟨hx, hm, hs, hlast⟩, htag, hgen⟩
            next => cases hq
    · rw [complete_unended hx hg hu hz]
      exact ⟨rs, hfirst, fun c y tag e => absurd (honly c y tag e).2.2 hz, fun q hq => .inl (hclaim q hq)⟩

theorem completeAll_legsEnded {o : LegOutcome} (ho : o ≠ .ok) {s : State} (hc : s.Counts) (rs : List LegRef) :
    LegsEnded o s (s.completeAll rs o) fun c g => decide (⟨c, g.target⟩ ∈ rs) := by
  induction rs generalizing s with
  | nil =>
    refine (legsEnded_none hc rfl fun m => ⟨[], fills_of_port rfl, claimAnswers_nil⟩).congr fun c x _ g _ _ => ?_
    exact (decide_eq_false List.not_mem_nil).symm
  | cons r rs ih =>
    have hfirst := complete_legsEnded hc ho r []
    refine (hfirst.trans (ih (counts_of_ctx hc ho hfirst.ctx))).congr fun c x _ g _ _ => ?_
    rw [← Bool.decide_or]
    exact decide_eq_decide.2 List.mem_cons.symm

theorem fallAll_fills (places : List (Master × Target)) (s : State) (m : Master) :
    ∃ rs, Fills m s (s.fallAll places) rs ∧ ClaimAnswers rs := by
  induction places generalizing s with
  | nil => exact ⟨[], fills_of_port rfl, claimAnswers_nil⟩
  | cons p ps ih =>
    have hfirst : ∃ rs, Fills m s (s.slotFreed p.1 p.2) rs ∧ ClaimAnswers rs := by
      unfold State.slotFreed
      split
      · exact ⟨[], fills_of_port rfl, claimAnswers_nil⟩
      · exact fall_fills ..
    obtain ⟨rs, hrs, hclaim⟩ := hfirst
    obtain ⟨qs, hqs, hclaim'⟩ := ih (s.slotFreed p.1 p.2)
    exact ⟨rs ++ qs, hrs.trans hqs, fun r hr => (List.mem_append.1 hr).elim (hclaim r) (hclaim' r)⟩

end Sys2Proof.Machine
end

section
/-! SUPPORT. The lane-wide ending and the fence (R100, R101), as the statement writes them. -/

namespace Sys2Proof.Machine

/-! ## From the endings to what the statement says of them -/

theorem LegsEnded.legsEnd {o : LegOutcome} {s u : State} {gone : Leg → Bool} (h : LegsEnded o s u fun _ => gone) :
    s.LegsEnd u gone o := by
  refine ⟨fun c hc => by rw [h.ctx, hc]; rfl, fun c x hx => ?_⟩
  have hctx : u.ctx c = x.afterEnd gone o := by rw [h.ctx, hx]; rfl
  exact ⟨fun hl => hctx.trans (if_pos hl), fun hl => hctx.trans (if_neg (Nat.pos_iff_ne_zero.1 hl))⟩

/-- The answer of a unicast request whose leg has failed (R69). -/
theorem finalResponse_unicast {x : Ctx} {g : Leg} (hkind : x.kind.Unicast) (hlegs : x.legs = [g]) (hu : g.unfinished = true)
    {gone : Leg → Bool} (hgone : gone g = true) {o : LegOutcome} (hok : o ≠ .ok) (herr : ∀ code, o ≠ .targetError code)
    (tag : Byte) : (x.endWhere gone o).finalResponse tag = ⟨tag, o.status, none, some x.generation, none, .none⟩ := by
  have hended : (x.endWhere gone o).legs = [{ g with state := .done o, data := none }] := by
    rw [Ctx.endWhere_legs, hlegs, List.map_singleton]
    unfold Leg.endIf
    rw [hu, hgone]
    rfl
  have hlist : Ctx.legs { x.endWhere gone o with mismatch := (x.endWhere gone o).mismatchTarget } =
      [{ g with state := .done o, data := none }] := hended
  have hdata : unicastData { g with state := .done o, data := none } = .none := by
    cases o with
    | ok => exact absurd rfl hok
    | targetError code => exact absurd rfl (herr code)
    | _ => rfl
  have hkind' : Kind.Unicast (Ctx.kind { x.endWhere gone o with mismatch := (x.endWhere gone o).mismatchTarget }) := hkind
  unfold Ctx.finalResponse
  rw [Ctx.response_unicast hkind', Ctx.unicastResponse, hlist]
  dsimp only
  rw [hdata] <;> rfl

/-- The answer of a group request whose last legs have failed (R70). -/
theorem finalResponse_group {x : Ctx} (hc : x.Counted) (hkind : ¬ x.kind.Unicast) {tag : Byte} (hs : x.state = .active tag)
    {gone : Leg → Bool} (hgone : ∀ g ∈ x.legs, g.unfinished = true → gone g = true) {o : LegOutcome} (hok : o ≠ .ok) :
    (x.endWhere gone o).finalResponse tag = x.groupAnswer tag
      (x.legs.map (fun g => if g.unfinished then { g with state := .done o, data := none } else g)) x.accumulator := by
  have hactive : (x.endWhere gone o).state ≠ .orphan := fun h => by cases hs.symm.trans h
  have hlegs : (x.endWhere gone o).legs =
      x.legs.map (fun g => if g.unfinished then { g with state := .done o, data := none } else g) := by
    rw [Ctx.endWhere_legs]
    refine List.map_congr_left fun g hg => ?_
    unfold Leg.endIf
    cases hu : g.unfinished
    · rfl
    · rw [hgone g hg hu]; rfl
  have hkind' : ¬ Kind.Unicast (Ctx.kind { x.endWhere gone o with mismatch := (x.endWhere gone o).mismatchTarget }) := hkind
  unfold Ctx.finalResponse
  rw [Ctx.response_group hkind', (hc.endWhere_tallied hok).groupResponse hactive, hlegs]
  rfl

theorem LegsEnded.legsAnswered {o : LegOutcome} {s u : State} {gone : Leg → Bool} (h : LegsEnded o s u fun _ => gone)
    (hc : s.Counts) (hok : o ≠ .ok) (herr : ∀ code, o ≠ .targetError code) : s.LegsAnswered u gone o := by
  unfold State.LegsAnswered
  intro ends m
  obtain ⟨rs, ⟨hfilled, hreserved⟩, hall, honly⟩ := h.answers m
  refine ⟨rs, hfilled, hreserved, fun c x tag hx hm hs hends => ?_, fun r hr => ?_⟩
  · have hin := hall c x tag ⟨hx, hm, hs, (Ctx.left_eq_zero_iff x gone).2 hends⟩
    refine ⟨fun g hlegs hkind => ?_, fun hread hwrite hmodify => ?_⟩
    · obtain ⟨g', hg', hu⟩ : ∃ g' ∈ x.legs, g'.unfinished = true := by
        obtain ⟨-, hcount, hpos, -⟩ := hc c x hx
        rw [hcount] at hpos
        exact List.countP_pos_iff.1 hpos
      have hgg : g' = g := by rw [hlegs] at hg'; exact List.mem_singleton.1 hg'
      subst hgg
      rw [finalResponse_unicast hkind hlegs hu (hends g' hg' hu) hok herr] at hin
      exact hin
    · have hgroup : ¬ x.kind.Unicast := fun k => k.elim hread fun k => k.elim hwrite hmodify
      rw [finalResponse_group (hc c x hx) hgroup hs hends hok] at hin
      exact hin
  · refine (honly r hr).imp_right fun ⟨c, x, tag, e, htag, hgen⟩ => ?_
    exact ⟨c, x, tag, e.here, e.master, e.active, (Ctx.left_eq_zero_iff x gone).1 e.last, htag, hgen⟩

/-! ## What the endings leave of a Target Status record -/

/-- The records keep their health, their count and their error total. -/
def KeepsRecords (s u : State) : Prop := ∀ t, (u.record t).health = (s.record t).health ∧
  (u.record t).consecutive = (s.record t).consecutive ∧ (u.record t).errors = (s.record t).errors

theorem KeepsRecords.refl (s : State) : KeepsRecords s s := fun _ => ⟨rfl, rfl, rfl⟩

theorem KeepsRecords.trans {s t u : State} (h : KeepsRecords s t) (k : KeepsRecords t u) : KeepsRecords s u := fun v =>
  ⟨(k v).1.trans (h v).1, (k v).2.1.trans (h v).2.1, (k v).2.2.trans (h v).2.2⟩

/-- The outcome changes no count of a Target Status record. -/
def LegOutcome.Uncounted (o : LegOutcome) : Prop := (∀ n, nextConsecutive o n = n) ∧ ∀ n, nextErrors o n = n

theorem complete_keepsRecords (s : State) (r : LegRef) {o : LegOutcome} (ho : o.Uncounted) (ws : List Word) :
    KeepsRecords s (s.complete r o ws) := by
  rcases complete_cases s r with hd | ⟨x, g, hx, hg, hu⟩
  · rw [complete_discarded hd]; exact .refl s
  · intro v
    rw [complete_record hx hg hu]
    split
    · obtain ⟨hhealth, hcount, herrors⟩ := taking_eq (s.record v) x.master o (s.inFlight x.master v)
      exact ⟨hhealth, hcount.trans (ho.1 _), herrors.trans (ho.2 _)⟩
    · exact ⟨rfl, rfl, rfl⟩

theorem completeAll_keepsRecords (rs : List LegRef) (s : State) {o : LegOutcome} (ho : o.Uncounted) :
    KeepsRecords s (s.completeAll rs o) :=
  foldl_rel .refl .trans (fun u r => complete_keepsRecords u r ho []) rs s

theorem fallAll_keepsRecords (ps : List (Master × Target)) (s : State) : KeepsRecords s (s.fallAll ps) := by
  refine foldl_rel .refl .trans (fun u p => ?_) ps s
  unfold State.slotFreed
  split
  · exact .refl u
  · intro v
    rw [fall_record]
    split
    next e => subst e; cases p.1 <;> exact ⟨rfl, rfl, rfl⟩
    next => exact ⟨rfl, rfl, rfl⟩

/-! ## The legs of a lane -/

theorem issuedLegs_nodup {s : State} (h : s.LegsStand) (l : LaneId) : (s.lane l).issuedLegs.Nodup := by
  refine List.Pairwise.filterMap _ (fun w v hwv r hr q hq e => ?_) (List.nodup_finRange 4)
  subst e
  split at hr
  next p c m t d hw =>
    split at hq
    next p' c' m' t' d' hv =>
      cases hr; cases hq
      exact hwv (h.oneSlot l w p c m t d hw v p' m' d' hv).symm
    next => cases hq
  next => cases hr

theorem pendingFor_nodup {s : State} (hc : s.Counts) (l : LaneId) : (s.pendingFor l).Nodup :=
  (pendingFor_before hc l).imp fun {a b} hab (e : a = b) => State.Before.irrefl b (e ▸ hab)

theorem unsentLegs_nodup {s : State} (h : s.LegsStand) (l : LaneId) : (s.unsentLegs l).Nodup := by
  refine (h.nodup l).append (pendingFor_nodup h.counted l) fun r hq hp => ?_
  cases (h.counted.hasLeg_unique ((h.queued l r).1 hq) ((mem_pendingFor s l r).1 hp)).2

theorem laneLegs_nodup {s : State} (h : s.LegsStand) (l : LaneId) : (s.laneLegs l).Nodup := by
  refine (issuedLegs_nodup h l).append (unsentLegs_nodup h l) fun r hi hu => ?_
  have hissued := (h.issued l r.ctx r.target).1 ((mem_issuedLegs _ r).1 hi)
  exact not_mem_unsentLegs h (.inr rfl) hissued hu

section
variable {s : State} (h : s.LegsStand) {l : LaneId}
include h

theorem live_of_mem_laneLegs {r : LegRef} (hr : r ∈ s.laneLegs l) : s.Live r := by
  rcases (mem_laneLegs h).1 hr with k | k | k
  · exact ⟨l, _, open_issued, k⟩
  · exact ⟨l, _, open_queued, k⟩
  · exact ⟨l, _, open_pending, k⟩

/-- The unfinished legs of a lane are the ones that its ending names. -/
theorem mem_laneLegs_iff {c : CtxId} {x : Ctx} (hx : s.ctx c = some x) {g : Leg} (hg : g ∈ x.legs) (hu : g.unfinished = true) :
    (⟨c, g.target⟩ : LegRef) ∈ s.laneLegs l ↔ g.lane = l := by
  rw [mem_laneLegs h]
  constructor
  · rintro (k | k | k) <;> exact (h.counted.hasLeg_unique ⟨x, g, hx, hg, rfl, rfl, rfl⟩ k).1
  · intro hl
    have hleg : s.HasLeg c g.target l g.state := ⟨x, g, hx, hg, rfl, hl, rfl⟩
    have hopen := (Leg.unfinished_iff g).1 hu
    cases hs : g.state with
    | pending => rw [hs] at hleg; exact .inr (.inr hleg)
    | queued => rw [hs] at hleg; exact .inr (.inl hleg)
    | issued => rw [hs] at hleg; exact .inl hleg
    | done o => exact absurd hs (hopen o)

theorem mem_unsentLegs_iff {c : CtxId} {x : Ctx} (hx : s.ctx c = some x) {g : Leg} (hg : g ∈ x.legs)
    (hu : g.unfinished = true) : (⟨c, g.target⟩ : LegRef) ∈ s.unsentLegs l ↔ g.lane = l ∧ g.state ≠ .issued := by
  have hall := mem_laneLegs_iff h (l := l) hx hg hu
  have hissued : g.lane = l ∧ g.state = .issued ↔ (⟨c, g.target⟩ : LegRef) ∈ (s.lane l).issuedLegs := by
    rw [mem_issuedLegs, h.issued]
    refine ⟨fun k => ⟨x, g, hx, hg, rfl, k.1, k.2⟩, fun k => ?_⟩
    have hunique := h.counted.hasLeg_unique ⟨x, g, hx, hg, rfl, rfl, rfl⟩ k
    exact hunique
  unfold State.laneLegs at hall
  rw [List.mem_append, ← hissued] at hall
  constructor
  · intro k
    refine ⟨hall.1 (.inr k), fun hs => ?_⟩
    exact not_mem_unsentLegs h (.inr rfl) ⟨x, g, hx, hg, rfl, rfl, hs⟩ k
  · rintro ⟨hl, hs⟩
    exact (hall.2 hl).resolve_left fun k => hs k.2

/-- The legs of the list that concern the master and the target are those of its contexts to the target. -/
theorem countP_concerns {rs : List LegRef} (hnodup : rs.Nodup) (hlive : ∀ r ∈ rs, s.Live r) {gone : Leg → Bool}
    (hmem : ∀ c x, s.ctx c = some x → ∀ g ∈ x.legs, g.unfinished = true → ((⟨c, g.target⟩ : LegRef) ∈ rs ↔ gone g = true))
    (m : Master) (t : Target) : rs.countP (s.concerns m t) =
      s.contextsWith fun c g => c.master == m && g.target == t && g.unfinished && gone g := by
  refine contextsWith_eq_countP (t := t) hnodup fun r => ?_
  unfold State.concerns
  simp only [Bool.and_eq_true, beq_iff_eq]
  constructor
  · rintro ⟨hr, ht, hm⟩
    obtain ⟨x, g, hx, hg, hu⟩ := (hlive r hr).leg h.counted
    obtain ⟨hmem', hgt⟩ := Ctx.leg_eq_some hg
    rw [hx, Option.any_some, beq_iff_eq] at hm
    exact ⟨ht, x, g, hx, hmem', ⟨⟨hm, hgt.trans ht⟩, hu⟩, (hmem r.ctx x hx g hmem' hu).1 (hgt ▸ hr)⟩
  · rintro ⟨ht, x, g, hx, hg, ⟨⟨hm, hgt⟩, hu⟩, hgone⟩
    have hr := (hmem r.ctx x hx g hg hu).2 hgone
    rw [hgt, ← ht] at hr
    refine ⟨hr, ht, ?_⟩
    rw [hx, Option.any_some, beq_iff_eq]
    exact hm

/-! ## The lane-wide ending and the fence -/

theorem endLaneWork_legsEnded (l : LaneId) : LegsEnded .laneDown s (s.endLaneWork l) fun _ g => g.lane == l := by
  have ho : LegOutcome.laneDown ≠ .ok := by simp
  unfold State.endLaneWork
  dsimp only
  generalize hs1 : s.setLane l { s.lane l with queue := [], window := emptyWindow } = s1
  have hctx1 : s1.contexts = s.contexts := by rw [← hs1]; rfl
  have hset : LegsEnded .laneDown s s1 fun _ _ => false := legsEnded_none h.counted hctx1 fun m =>
    ⟨[], fills_of_port (by rw [← hs1]; exact State.port_setLane ..), claimAnswers_nil⟩
  have hc1 := counts_of_ctx h.counted ho hset.ctx
  have hissued := completeAll_legsEnded ho hc1 (s.lane l).issuedLegs
  have hc2 := counts_of_ctx hc1 ho hissued.ctx
  have hfalls : LegsEnded .laneDown (s1.completeAll (s.lane l).issuedLegs .laneDown) _ fun _ _ => false :=
    legsEnded_none hc2 (fallAll_contexts (s.lane l).expiredPlaces _) fun m => fallAll_fills ..
  have hc3 := counts_of_ctx hc2 ho hfalls.ctx
  have hwaiting := completeAll_legsEnded ho hc3 (s.unsentLegs l)
  refine (((hset.trans hissued).trans hfalls).trans hwaiting).congr fun c x hx g hg hu => ?_
  have hall := mem_laneLegs_iff h (l := l) hx hg hu
  unfold State.laneLegs at hall
  rw [List.mem_append] at hall
  rw [Bool.eq_iff_iff]
  simpa using hall

theorem endLaneWork_inFlight (hd : s.resetDue = false) (l : LaneId) (m : Master) (t : Target) :
    (s.endLaneWork l).inFlight m t = s.inFlight m t - ((s.laneLegs l).countP (s.concerns m t) + (s.lane l).expiredFor m t) := by
  have ho : LegOutcome.laneDown ≠ .ok := by simp
  have ho' : LegOutcome.laneDown ≠ .timeout := by simp
  have hnodup := laneLegs_nodup h l
  unfold State.laneLegs at hnodup
  obtain ⟨hni, hnu, hdisjoint⟩ := List.nodup_append.1 hnodup
  unfold State.endLaneWork
  dsimp only
  generalize hs1 : s.setLane l { s.lane l with queue := [], window := emptyWindow } = s1
  have hctx1 : s1.contexts = s.contexts := by rw [← hs1]; rfl
  have hended1 := ended_of_contexts h.counted hctx1
  have hlive1 : ∀ r ∈ s.laneLegs l, s1.Live r := fun r hr => live_of_ended hended1 (live_of_mem_laneLegs h hr) rfl
  have hin : ∀ r ∈ (s.lane l).issuedLegs, r ∈ s.laneLegs l := fun r hr => List.mem_append_left _ hr
  have hun : ∀ r ∈ s.unsentLegs l, r ∈ s.laneLegs l := fun r hr => List.mem_append_right _ hr
  have hended2 := completeAll_ended hended1.counts ho (s.lane l).issuedLegs
  have hissued := completeAll_inFlight ho' hended1.counts hni (fun r hr => hlive1 r (hin r hr)) m t
  have hd2 : (s1.completeAll (s.lane l).issuedLegs .laneDown).resetDue = false := by
    refine (resetDue_congr (congrArg (fun o => o.fixed.phase) (completeAll_frame _ _ s1).outside :)).trans ?_
    rw [← hs1]
    exact hd
  generalize s1.completeAll (s.lane l).issuedLegs .laneDown = s2 at *
  have hended3 := ended_of_contexts hended2.counts (fallAll_contexts (s.lane l).expiredPlaces s2)
  have hfalls := fallAll_inFlight (places := (s.lane l).expiredPlaces) hd2 m t
  generalize s2.fallAll (s.lane l).expiredPlaces = s3 at *
  have hlive2 : ∀ r ∈ s.unsentLegs l, s2.Live r := fun r hr =>
    live_of_ended hended2 (hlive1 r (hun r hr)) (decide_eq_false fun hi => hdisjoint r hi r hr rfl)
  have hlive3 : ∀ r ∈ s.unsentLegs l, s3.Live r := fun r hr => live_of_ended hended3 (hlive2 r hr) rfl
  have hwaiting := completeAll_inFlight ho' hended3.counts hnu hlive3 m t
  have hcount1 : (s.lane l).issuedLegs.countP (s1.concerns m t) = (s.lane l).issuedLegs.countP (s.concerns m t) :=
    List.countP_congr fun r hr => by rw [concerns_of_ended hended1 (hlive1 r (hin r hr))]
  have hcount3 : (s.unsentLegs l).countP (s3.concerns m t) = (s.unsentLegs l).countP (s.concerns m t) :=
    List.countP_congr fun r hr => by
      rw [concerns_of_ended hended3 (hlive3 r hr), concerns_of_ended hended2 (hlive2 r hr),
        concerns_of_ended hended1 (hlive1 r (hun r hr))]
  have hsame : s1.inFlight m t = s.inFlight m t := by rw [← hs1]; rfl
  refine hwaiting.trans ?_
  rw [hfalls, hissued, hsame, hcount1, hcount3, countP_expiredPlaces]
  unfold State.laneLegs
  rw [List.countP_append]
  omega

theorem fenceLane_legsEnded (l : LaneId) (hup : (s.lane l).state = .up) :
    LegsEnded .fenced s (s.fenceLane l) fun _ g => g.lane == l && g.state != .issued := by
  have ho : LegOutcome.fenced ≠ .ok := by simp
  have hset : LegsEnded .fenced s (s.setLane l (s.lane l).fenced) fun _ _ => false := legsEnded_none h.counted rfl fun m =>
    ⟨[], fills_of_port (State.port_setLane ..), claimAnswers_nil⟩
  have hall := completeAll_legsEnded ho (counts_of_ctx h.counted ho hset.ctx) (s.unsentLegs l)
  rw [fenceLane_up hup]
  refine (hset.trans hall).congr fun c x hx g hg hu => ?_
  have hmem := mem_unsentLegs_iff h (l := l) hx hg hu
  rw [Bool.eq_iff_iff]
  simpa using hmem

theorem fenceLane_inFlight {l : LaneId} (hup : (s.lane l).state = .up) (m : Master) (t : Target) :
    (s.fenceLane l).inFlight m t = s.inFlight m t - (s.unsentLegs l).countP (s.concerns m t) := by
  rw [fenceLane_up hup]
  refine completeAll_inFlight (s := s.setLane l _) (by simp) h.counted (unsentLegs_nodup h l) (fun r hr => ?_) m t
  exact live_of_mem_laneLegs (s := s) (l := l) h (List.mem_append_right _ hr)

end

theorem endLaneWork_keepsRecords (s : State) (l : LaneId) : KeepsRecords s (s.endLaneWork l) := by
  have ho : LegOutcome.laneDown.Uncounted := ⟨fun _ => rfl, fun _ => rfl⟩
  have hset : ∀ x, KeepsRecords s (s.setLane l x) := fun _ _ => ⟨rfl, rfl, rfl⟩
  exact (((hset _).trans (completeAll_keepsRecords _ _ ho)).trans (fallAll_keepsRecords _ _)).trans
    (completeAll_keepsRecords _ _ ho)

/-- Settles O38: the endings of the lane's legs, told as one relation for contexts and answers and one law for the counts. -/
theorem laneEndingsEndTheirLegs : Obligations.LaneEndingsEndTheirLegs := by
  unfold Obligations.LaneEndingsEndTheirLegs
  intro s l x apart
  have hapart : ∀ u, LaneFrameOf l s u → KeepsRecords s u → apart u := fun u h hrecords =>
    ⟨h.lanes, h.active, h.hub, congrArg Prod.fst h.faults, congrArg (fun p => p.2.1) h.faults, congrArg Prod.fst h.alerts,
      congrArg Prod.snd h.alerts, sameSettings_of_fixed h.fixed, hrecords⟩
  refine ⟨⟨hapart _ (endLaneWork_frame s l) (endLaneWork_keepsRecords s l), endLaneWork_lane s l⟩,
    ⟨hapart _ (fenceLane_frame s l) (fenceLane_record s l), ?_⟩, fun hup => ?_, fun hplaced hd => ?_⟩
  · rw [fenceLane_lane]
    unfold Lane.whenFenced
    cases hs : (s.lane l).state <;> rfl
  · obtain ⟨y, hy, -⟩ := fenceLane_notUp hup
    rw [hy]
    exact ⟨rfl, rfl⟩
  · intro onLane unsent ended
    have h := (legsPlaced_standing hd).1 hplaced
    have hlane := endLaneWork_legsEnded h l
    refine ⟨⟨hlane.legsEnd, hlane.legsAnswered h.counted (by simp) (by simp), fun m t => ?_⟩, fun hup => ?_⟩
    · rw [endLaneWork_inFlight h hd, countP_concerns h (laneLegs_nodup h l) (fun r hr => live_of_mem_laneLegs h hr)
        fun c y hy g hg hu => (mem_laneLegs_iff h hy hg hu).trans beq_iff_eq.symm]
    · have hfence := fenceLane_legsEnded h l hup
      refine ⟨hfence.legsEnd, hfence.legsAnswered h.counted (by simp) (by simp), fun m t => ?_⟩
      rw [fenceLane_inFlight h hup, countP_concerns h (unsentLegs_nodup h l) (gone := unsent)
        (fun r hr => live_of_mem_laneLegs h (List.mem_append_right _ hr)) fun c y hy g hg hu => ?_]
      refine (mem_unsentLegs_iff h hy hg hu).trans ?_
      rw [Bool.and_eq_true, beq_iff_eq, bne_iff_ne]

end Sys2Proof.Machine
end

section
/-! SUPPORT. Several refills of one lane (R92): the freed positions go to the PENDING legs that stand first. -/

namespace Sys2Proof.Machine

/-- The legs of the list become QUEUED. -/
def Leg.joinIf (c : CtxId) (rs : List LegRef) (g : Leg) : Leg :=
  if (⟨c, g.target⟩ : LegRef) ∈ rs then { g with state := .queued } else g

theorem Leg.joinIf_target (c : CtxId) (rs : List LegRef) (g : Leg) : (g.joinIf c rs).target = g.target := by
  unfold Leg.joinIf; split <;> rfl

theorem Leg.joinIf_lane (c : CtxId) (rs : List LegRef) (g : Leg) : (g.joinIf c rs).lane = g.lane := by
  unfold Leg.joinIf; split <;> rfl

theorem Leg.joinIf_nil (c : CtxId) (g : Leg) : g.joinIf c [] = g := if_neg List.not_mem_nil

theorem Leg.joinIf_joinIf (c : CtxId) (rs qs : List LegRef) (g : Leg) :
    (g.joinIf c rs).joinIf c qs = g.joinIf c (rs ++ qs) := by
  by_cases hr : (⟨c, g.target⟩ : LegRef) ∈ rs
  · have h1 : g.joinIf c rs = { g with state := .queued } := if_pos hr
    have h2 : g.joinIf c (rs ++ qs) = { g with state := .queued } := if_pos (List.mem_append_left _ hr)
    rw [h1, h2]
    unfold Leg.joinIf
    split <;> rfl
  · have h1 : g.joinIf c rs = g := if_neg hr
    rw [h1]
    unfold Leg.joinIf
    simp only [List.mem_append, hr, false_or]

/-- A context some of whose legs have become QUEUED. -/
def Ctx.joined (x : Ctx) (c : CtxId) (rs : List LegRef) : Ctx := { x with legs := x.legs.map (Leg.joinIf c rs) }

theorem Ctx.joined_nil (x : Ctx) (c : CtxId) : x.joined c [] = x := by
  have hlegs : x.legs.map (Leg.joinIf c []) = x.legs :=
    (List.map_congr_left fun g _ => Leg.joinIf_nil c g).trans (List.map_id _)
  unfold Ctx.joined
  rw [hlegs]

theorem Ctx.joined_joined (x : Ctx) (c : CtxId) (rs qs : List LegRef) : (x.joined c rs).joined c qs = x.joined c (rs ++ qs) := by
  unfold Ctx.joined
  simp only [List.map_map]
  exact congrArg (fun legs => { x with legs := legs }) (List.map_congr_left fun g _ => Leg.joinIf_joinIf c rs qs g)

theorem Ctx.joined_congr {x : Ctx} {c : CtxId} {rs qs : List LegRef}
    (h : ∀ g ∈ x.legs, (⟨c, g.target⟩ : LegRef) ∈ rs ↔ (⟨c, g.target⟩ : LegRef) ∈ qs) : x.joined c rs = x.joined c qs := by
  unfold Ctx.joined
  refine congrArg (fun legs => { x with legs := legs }) (List.map_congr_left fun g hg => ?_)
  unfold Leg.joinIf
  simp only [h g hg]

theorem setLegState_ctx_joined (s : State) (r : LegRef) (c : CtxId) :
    (s.setLegState r .queued).ctx c = (s.ctx c).map fun x => x.joined c [r] := by
  have hone : ∀ x : Ctx, x.joined r.ctx [r] = x.setLegState r.target .queued := fun x => by
    refine congrArg (fun legs => { x with legs := legs }) (List.map_congr_left fun g _ => ?_)
    unfold Leg.joinIf
    have hiff : (⟨r.ctx, g.target⟩ : LegRef) ∈ [r] ↔ g.target = r.target :=
      List.mem_singleton.trans ⟨fun e => congrArg LegRef.target e, fun e => e ▸ rfl⟩
    simp only [hiff]
  have hother : c ≠ r.ctx → ∀ x : Ctx, x.joined c [r] = x := fun hc x =>
    (Ctx.joined_congr fun g _ => by
      rw [List.mem_singleton]
      exact ⟨fun e => absurd (congrArg LegRef.ctx e) hc, fun e => absurd e List.not_mem_nil⟩).trans (Ctx.joined_nil x c)
  unfold State.setLegState
  split
  next x hx =>
    rw [State.ctx_setCtx]
    split
    next e => rw [e, hx, Option.map_some, hone]
    next e => cases s.ctx c with
      | none => rfl
      | some y => rw [Option.map_some, hother e]
  next hx =>
    by_cases e : c = r.ctx
    · rw [e, hx]; rfl
    · cases s.ctx c with
      | none => rfl
      | some y => rw [Option.map_some, hother e]

/-- A lane whose queue has grown. -/
def Lane.enqueued (x : Lane) (rs : List LegRef) : Lane := { x with queue := x.queue ++ rs }

/-- What a refill does, told by the legs that wait. -/
theorem refill_facts {s : State} (h : s.LegsStand) (l : LaneId) :
    (∀ i, (s.refill l).lane i = if i = l then (s.lane l).enqueued ((s.pendingFor l).take 1) else s.lane i) ∧
    (∀ c, (s.refill l).ctx c = (s.ctx c).map fun x => x.joined c ((s.pendingFor l).take 1)) ∧
    (s.refill l).pendingFor l = (s.pendingFor l).drop 1 := by
  have hhead : (s.pendingFor l).head?.toList = (s.pendingFor l).take 1 := by cases s.pendingFor l <;> rfl
  have hctx : ∀ c, (s.refill l).ctx c = (s.ctx c).map fun x => x.joined c ((s.pendingFor l).take 1) := fun c => by
    rw [refill_ctx]
    cases s.pendingFor l with
    | nil =>
      change s.ctx c = _
      cases s.ctx c with
      | none => rfl
      | some x => exact congrArg some (Ctx.joined_nil x c).symm
    | cons r rest => exact setLegState_ctx_joined s r c
  refine ⟨fun i => by rw [refill_lane, hhead]; rfl, hctx, ?_⟩
  cases hp : s.pendingFor l with
  | nil =>
    have hsame : s.refill l = s := by unfold State.refill; rw [hp]
    rw [hsame, hp]; rfl
  | cons r rest =>
    have hr := (mem_pendingFor s l r).1 (by rw [hp]; exact List.mem_cons_self)
    have hrefill : ∀ c, (s.refill l).ctx c = (s.setLegState r .queued).ctx c := fun c => by rw [refill_ctx, hp]; rfl
    have hadm : (s.refill l).admission = s.admission := by rw [refill_onlyLegs s l]
    have hage : ∀ c, (s.refill l).ageAt c = s.ageAt c := fun c => by
      unfold State.ageAt State.age
      rw [hadm, hctx]
      cases s.ctx c <;> rfl
    have hgone := pendingFor_of_gone (p := fun q => decide (q ≠ r)) h.counted (refill_stands h l).counted (l := l)
      (fun q _ => hage q.ctx) fun q => by
        have hleg : (s.refill l).HasLeg q.ctx q.target l .pending ↔ (s.setLegState r .queued).HasLeg q.ctx q.target l .pending := by
          unfold State.HasLeg
          rw [hrefill]
        rw [hleg, setLegState_hasLeg h.counted hr, decide_eq_true_iff]
        split
        next e => exact ⟨fun k => (by cases k.2), fun k => absurd e k.2⟩
        next e => exact (and_iff_left e).symm
    have hnodup := pendingFor_nodup h.counted l
    rw [hp, List.nodup_cons] at hnodup
    rw [hgone, hp, List.filter_cons_of_neg (by simp)]
    exact List.filter_eq_self.2 fun q hq => decide_eq_true fun e => hnodup.1 (e ▸ hq)

/-- What several refills of a lane do. -/
theorem refills_facts {α : Type} (xs : List α) {s : State} (h : s.LegsStand) (l : LaneId) :
    (∀ i, (s.refills l xs).lane i =
      if i = l then (s.lane l).enqueued ((s.pendingFor l).take xs.length) else s.lane i) ∧
    (∀ c, (s.refills l xs).ctx c =
      (s.ctx c).map fun x => x.joined c ((s.pendingFor l).take xs.length)) ∧
    OnlyLegs s (s.refills l xs) := by
  induction xs generalizing s with
  | nil =>
    refine ⟨fun i => ?_, fun c => ?_, .refl s⟩
    · split
      next e =>
        rw [e]
        exact congrArg (fun q => { s.lane l with queue := q }) (List.append_nil _).symm
      next => rfl
    · cases hx : s.ctx c with
      | none => exact hx
      | some x => exact hx.trans (congrArg some (Ctx.joined_nil x c).symm)
  | cons a xs ih =>
    obtain ⟨hlane, hctx, hpending⟩ := refill_facts h l
    obtain ⟨klane, kctx, konly⟩ := ih (refill_stands h l)
    have htake : (s.pendingFor l).take 1 ++ ((s.pendingFor l).drop 1).take xs.length = (s.pendingFor l).take (a :: xs).length := by
      rw [List.length_cons, Nat.add_comm, List.take_add]
    refine ⟨fun i => (klane i).trans ?_, fun c => (kctx c).trans ?_, (refill_onlyLegs s l).trans konly⟩
    · rw [hpending, hlane l, if_pos rfl, hlane i, ← htake]
      split
      next => exact congrArg (fun q => { s.lane l with queue := q }) (List.append_assoc ..)
      next => rfl
    · rw [hctx, hpending, Option.map_map, ← htake]
      exact congrArg (fun f => (s.ctx c).map f) (funext fun x => Ctx.joined_joined x c _ _)

end Sys2Proof.Machine
end

section
/-! SUPPORT. The Tracker's and the Lane Engines' parts of a teardown (R71 to R75, R106), lane by lane. -/

namespace Sys2Proof.Machine

/-- The context is an ACTIVE one of the master that a teardown orphans (R71). -/
def Ctx.torn (m : Master) (x : Ctx) : Bool := x.master == m && x.state != .orphan

/-- The leg named is one of a context that a teardown orphans. -/
def State.leaves (s : State) (m : Master) (r : LegRef) : Bool := (s.ctx r.ctx).any (Ctx.torn m)

/-- The QUEUED legs of the lane that a teardown withdraws. -/
def State.leaving (s : State) (m : Master) (l : LaneId) : List LegRef := (s.lane l).queue.filter (s.leaves m)

/-- The PENDING legs that take the positions freed (R92). -/
def State.joins (s : State) (m : Master) (l : LaneId) : List LegRef :=
  ((s.pendingFor l).filter (fun r => !s.leaves m r)).take ((s.lane l).queue.countP (s.leaves m))

/-- A lane as a teardown leaves it. -/
def State.tornLane (s : State) (m : Master) (l : LaneId) : Lane :=
  { s.lane l with queue := (s.lane l).queue.filter (fun r => !s.leaves m r) ++ s.joins m l }

theorem torn_iff (m : Master) (x : Ctx) : x.torn m = true ↔ x.master = m ∧ x.tag.isSome = true := by
  unfold Ctx.torn Ctx.tag
  cases x.state <;> simp

theorem leaves_of_ctx {s : State} {m : Master} {r : LegRef} {x : Ctx} (hx : s.ctx r.ctx = some x) :
    s.leaves m r = x.torn m := by
  unfold State.leaves
  rw [hx]; rfl

theorem mem_tornContexts_iff {s : State} {m : Master} {c : CtxId} {x : Ctx} :
    (c, x) ∈ s.tornContexts m ↔ s.ctx c = some x ∧ x.torn m = true := by
  rw [mem_tornContexts, torn_iff]

theorem mem_torn_fst {s : State} {m : Master} {c : CtxId} {x : Ctx} (hx : s.ctx c = some x) :
    c ∈ (s.tornContexts m).map Prod.fst ↔ x.torn m = true := by
  rw [List.mem_map]
  constructor
  · rintro ⟨⟨d, y⟩, hd, rfl⟩
    obtain ⟨hy, ht⟩ := mem_tornContexts_iff.1 hd
    rw [hx] at hy
    cases hy
    exact ht
  · exact fun h => ⟨(c, x), mem_tornContexts_iff.2 ⟨hx, h⟩, rfl⟩

/-- The legs of a teardown in this state. -/
theorem mem_legsInState_torn {s : State} {m : Master} {v : LegState} {r : LegRef} :
    r ∈ legsInState (s.tornContexts m) v ↔ s.leaves m r = true ∧ ∃ l, s.HasLeg r.ctx r.target l v := by
  rw [mem_legsInState]
  constructor
  · rintro ⟨x, g, hx, hg, ht, hs⟩
    obtain ⟨hx, htorn⟩ := mem_tornContexts_iff.1 hx
    exact ⟨(leaves_of_ctx hx).trans htorn, g.lane, x, g, hx, hg, ht, rfl, hs⟩
  · rintro ⟨hl, l, x, g, hx, hg, ht, -, hs⟩
    exact ⟨x, g, mem_tornContexts_iff.2 ⟨hx, (leaves_of_ctx hx).symm.trans hl⟩, hg, ht, hs⟩

section
variable {s : State} (h : s.LegsStand) (m : Master)
include h

theorem legsInState_torn_nodup (v : LegState) : (legsInState (s.tornContexts m) v).Nodup := by
  have hasc : (s.tornContexts m).Pairwise fun c d => c.1 < d.1 := (usedContexts_ascending s).filter _
  refine List.nodup_flatMap.2 ⟨fun c hc => ?_, hasc.imp fun {c d} hcd r hr hq => ?_⟩
  · have hx := (mem_tornContexts_iff.1 (show (c.1, c.2) ∈ s.tornContexts m from hc)).1
    have htargets : c.2.legs.Pairwise fun g k => g.target < k.target := List.pairwise_map.1 (h.counted c.1 c.2 hx).ascending
    refine List.pairwise_map.2 ((htargets.filter _).imp fun {g k} hlt e => ?_)
    exact absurd (congrArg LegRef.target e) (ne_of_lt hlt)
  · obtain ⟨g, -, rfl⟩ := List.mem_map.1 hr
    obtain ⟨k, -, hk⟩ := List.mem_map.1 hq
    exact absurd (congrArg LegRef.ctx hk) (ne_of_gt hcd)

/-- What a lane gives up is what leaves its queue. -/
theorem queue_leaves (l : LaneId) {r : LegRef} (hr : r ∈ (s.lane l).queue) :
    (legsInState (s.tornContexts m) .queued).contains r = s.leaves m r := by
  rw [Bool.eq_iff_iff, List.contains_iff_mem, mem_legsInState_torn]
  exact and_iff_left ⟨l, (h.queued l r).1 hr⟩

theorem mem_leaving_iff {l : LaneId} {c : CtxId} {x : Ctx} (hx : s.ctx c = some x) (htorn : x.torn m = true) {g : Leg}
    (hg : g ∈ x.legs) : (⟨c, g.target⟩ : LegRef) ∈ s.leaving m l ↔ g.lane = l ∧ g.state = .queued := by
  unfold State.leaving
  rw [List.mem_filter, h.queued, leaves_of_ctx (r := ⟨c, g.target⟩) hx, and_iff_left htorn]
  exact ⟨fun k => h.counted.hasLeg_unique ⟨x, g, hx, hg, rfl, rfl, rfl⟩ k, fun k => ⟨x, g, hx, hg, rfl, k.1, k.2⟩⟩

theorem lane_of_mem_joins {l : LaneId} {c : CtxId} {x : Ctx} (hx : s.ctx c = some x) {g : Leg} (hg : g ∈ x.legs)
    (hj : (⟨c, g.target⟩ : LegRef) ∈ s.joins m l) : g.lane = l :=
  (h.counted.hasLeg_unique ⟨x, g, hx, hg, rfl, rfl, rfl⟩
    ((mem_pendingFor s l _).1 (List.mem_filter.1 (List.mem_of_mem_take hj)).1)).1

end

/-- The legs that have joined queues of these lanes. -/
def State.joinsOf (s : State) (m : Master) (ls : List LaneId) : List LegRef := ls.flatMap (s.joins m)

/-- The legs that have ended when these lanes have given up theirs. -/
def State.cancelledOf (s : State) (m : Master) (ls : List LaneId) : List LegRef :=
  legsInState (s.tornContexts m) .pending ++ ls.flatMap (s.leaving m)

/-- A leg that a teardown has ended when these lanes have given up theirs. -/
def Leg.unsentOn (ls : List LaneId) (g : Leg) : Bool := g.state == .pending || (g.state == .queued && decide (g.lane ∈ ls))

/-- The state of a teardown when these lanes have given up their legs. -/
structure Stage (s : State) (m : Master) (ls : List LaneId) (u : State) : Prop where
  stands    : u.LegsStand
  admission : u.admission = s.admission
  lanes     : ∀ l, u.lane l = if l ∈ ls then s.tornLane m l else s.lane l
  free      : ∀ c, s.ctx c = none → u.ctx c = none
  torn      : ∀ c x, s.ctx c = some x → x.torn m = true → u.ctx c = x.orphaned.afterEnd (Leg.unsentOn ls) .cancelled
  kept      : ∀ c x, s.ctx c = some x → x.torn m = false → u.ctx c = some (x.joined c (s.joinsOf m ls))
  inFlight  : ∀ w t, u.inFlight w t = s.inFlight w t - (s.cancelledOf m ls).countP (s.concerns w t)

theorem orphans'_status (s : State) (cs : List (CtxId × Ctx)) : (s.orphans' cs).status = s.status ∧
    (s.orphans' cs).admission = s.admission := by
  refine foldl_rel (R := fun s t : State => t.status = s.status ∧ t.admission = s.admission) (fun _ => ⟨rfl, rfl⟩)
    (fun h k => ⟨k.1.trans h.1, k.2.trans h.2⟩) (fun u c => ?_) cs s
  unfold State.orphan
  split <;> exact ⟨rfl, rfl⟩

theorem completeAll_admission (s : State) (rs : List LegRef) (o : LegOutcome) :
    (s.completeAll rs o).admission = s.admission :=
  (congrArg (fun o => o.fixed.admission) (completeAll_frame rs o s).outside :)

theorem pendingCancelled_stage {s : State} (h : s.LegsStand) (m : Master) : Stage s m [] (s.pendingCancelled m) := by
  have hended := orphans'_ended h.counted (s.tornContexts m)
  have hctx := completeAll_ctx hended.counts (o := .cancelled) (by simp) (legsInState (s.tornContexts m) .pending)
  have horphan := orphans'_ctx s (s.tornContexts m)
  refine ⟨pendingCancelled_stands h m, ?_, fun l => ?_, fun c hc => ?_, fun c x hx ht => ?_, fun c x hx ht => ?_, fun w t => ?_⟩
  · exact (completeAll_admission ..).trans (orphans'_status ..).2
  · rw [if_neg List.not_mem_nil]
    exact pendingCancelled_lane s m l
  · exact completeAll_free (orphans'_free hc _) _ _
  · refine (hctx c).trans ?_
    rw [horphan, if_pos ((mem_torn_fst hx).2 ht), hx]
    refine Ctx.afterEnd_congr _ fun g hg _ => ?_
    have hmem : (⟨c, g.target⟩ : LegRef) ∈ legsInState (s.tornContexts m) .pending ↔ g.state = .pending := by
      rw [mem_legsInState_torn, leaves_of_ctx (r := ⟨c, g.target⟩) hx]
      exact ⟨fun ⟨_, l, k⟩ => (h.counted.hasLeg_unique ⟨x, g, hx, hg, rfl, rfl, rfl⟩ k).2,
        fun k => ⟨ht, g.lane, x, g, hx, hg, rfl, rfl, k⟩⟩
    unfold Leg.unsentOn
    rw [Bool.eq_iff_iff]
    simp [hmem]
  · refine (hctx c).trans ?_
    rw [horphan, if_neg fun k => Bool.false_ne_true (ht.symm.trans ((mem_torn_fst hx).1 k)), hx]
    refine (Ctx.afterEnd_none (h.counted c x hx) (fun g _ _ => decide_eq_false fun k => ?_) _).trans
      (congrArg some (Ctx.joined_nil x c).symm)
    have hl := (mem_legsInState_torn.1 k).1
    rw [leaves_of_ctx (r := ⟨c, g.target⟩) hx] at hl
    exact Bool.false_ne_true (ht.symm.trans hl)
  · have hlive : ∀ r ∈ legsInState (s.tornContexts m) .pending, (s.orphans' (s.tornContexts m)).Live r := fun r hr => by
      obtain ⟨-, l, hleg⟩ := mem_legsInState_torn.1 hr
      exact live_of_ended hended ⟨l, _, open_pending, hleg⟩ rfl
    have hcount := completeAll_inFlight (o := .cancelled) (by simp) hended.counts (legsInState_torn_nodup h m .pending) hlive w t
    have hsame : (s.orphans' (s.tornContexts m)).inFlight w t = s.inFlight w t := by
      unfold State.inFlight State.record
      rw [(orphans'_status ..).1]
    refine hcount.trans ?_
    rw [hsame, List.countP_congr fun r hr => by rw [concerns_of_ended hended (hlive r hr)]]
    unfold State.cancelledOf
    rw [List.flatMap_nil, List.append_nil]

/-! ## One lane gives up its legs -/

section
variable {s : State} (h : s.LegsStand) {m : Master} {ls : List LaneId} {u : State} (hu : Stage s m ls u) {l : LaneId}
  (hl : l ∉ ls)
include h hu hl

omit h in
theorem stage_lane : u.lane l = s.lane l := (hu.lanes l).trans (if_neg hl)

theorem stage_withdrawn : (u.lane l).withdrawn (legsInState (s.tornContexts m) .queued) =
    { s.lane l with queue := (s.lane l).queue.filter (fun r => !s.leaves m r) } := by
  unfold Lane.withdrawn
  rw [stage_lane hu hl]
  exact congrArg (fun q => { s.lane l with queue := q }) (List.filter_congr fun r hr => congrArg not (queue_leaves h m l hr))

theorem stage_leaving :
    (u.lane l).queue.filter (fun r => (legsInState (s.tornContexts m) .queued).contains r) = s.leaving m l := by
  rw [stage_lane hu hl]
  exact List.filter_congr fun r hr => queue_leaves h m l hr

/-- The state of the stage after the lane's QUEUED legs have ended. -/
def State.gaveUp (s : State) (m : Master) (u : State) (l : LaneId) : State :=
  (u.setLane l { s.lane l with queue := (s.lane l).queue.filter (fun r => !s.leaves m r) }).completeAll (s.leaving m l)
    .cancelled

omit h hu hl in
theorem leaves_of_mem_leaving {r : LegRef} (hr : r ∈ s.leaving m l) : s.leaves m r = true := (List.mem_filter.1 hr).2

theorem withdraw_gaveUp : u.withdraw (legsInState (s.tornContexts m) .queued) l =
    (s.gaveUp m u l).refills l (s.leaving m l) := by
  rw [withdraw_eq, stage_leaving h hu hl, stage_withdrawn h hu hl]
  rfl

theorem gaveUp_stands : (s.gaveUp m u l).LegsStand := by
  have k := legsStand_withdraw hu.stands (legsInState (s.tornContexts m) .queued) l
  rw [stage_leaving h hu hl] at k
  have e := stage_withdrawn h hu hl
  unfold Lane.withdrawn at e
  rw [e] at k
  exact k

omit hl in
theorem gaveUp_torn {c : CtxId} {x : Ctx} (hx : s.ctx c = some x) (ht : x.torn m = true) :
    (s.gaveUp m u l).ctx c = x.orphaned.afterEnd (Leg.unsentOn (ls ++ [l])) .cancelled := by
  have hctx := completeAll_ctx (s := u.setLane l { s.lane l with queue := (s.lane l).queue.filter (fun r => !s.leaves m r) })
    hu.stands.counted (o := .cancelled) (by simp) (s.leaving m l) c
  refine hctx.trans ?_
  change (u.ctx c).bind _ = _
  rw [hu.torn c x hx ht, Ctx.afterEnd_bind]
  refine Ctx.afterEnd_congr _ fun g hg _ => ?_
  have hmem := mem_leaving_iff h m (l := l) hx ht (g := g) hg
  unfold Leg.unsentOn
  rw [Bool.eq_iff_iff]
  simp only [Bool.or_eq_true, Bool.and_eq_true, beq_iff_eq, decide_eq_true_iff, hmem, List.mem_append, List.mem_singleton]
  tauto

omit h hl in
theorem gaveUp_kept {c : CtxId} {x : Ctx} (hx : s.ctx c = some x) (ht : x.torn m = false) :
    (s.gaveUp m u l).ctx c = some (x.joined c (s.joinsOf m ls)) := by
  have hctx := completeAll_ctx (s := u.setLane l { s.lane l with queue := (s.lane l).queue.filter (fun r => !s.leaves m r) })
    hu.stands.counted (o := .cancelled) (by simp) (s.leaving m l) c
  have hhere := hu.kept c x hx ht
  refine hctx.trans ?_
  change (u.ctx c).bind _ = _
  rw [hhere]
  refine Ctx.afterEnd_none (hu.stands.counted c _ hhere) (fun g _ _ => decide_eq_false fun k => ?_) _
  have hleaves := leaves_of_mem_leaving k
  rw [leaves_of_ctx (r := ⟨c, g.target⟩) hx] at hleaves
  exact Bool.false_ne_true (ht.symm.trans hleaves)

omit h hl in
theorem gaveUp_free {c : CtxId} (hc : s.ctx c = none) : (s.gaveUp m u l).ctx c = none :=
  completeAll_free (s := u.setLane l _) (hu.free c hc) _ _

omit h hu hl in
theorem gaveUp_lane (i : LaneId) : (s.gaveUp m u l).lane i =
    if i = l then { s.lane l with queue := (s.lane l).queue.filter (fun r => !s.leaves m r) } else u.lane i :=
  ((completeAll_frame _ _ _).lane i).trans (State.lane_setLane ..)

omit h hl in
theorem gaveUp_admission : (s.gaveUp m u l).admission = s.admission :=
  (completeAll_admission (u.setLane l _) _ _).trans hu.admission

/-- A leg that waits for the lane is one that waited and does not leave. -/
theorem gaveUp_pending (r : LegRef) : (s.gaveUp m u l).HasLeg r.ctx r.target l .pending ↔
    s.HasLeg r.ctx r.target l .pending ∧ (!s.leaves m r) = true := by
  unfold State.HasLeg
  cases hx : s.ctx r.ctx with
  | none =>
    rw [gaveUp_free hu hx]
    exact ⟨fun ⟨_, _, k, _⟩ => (by cases k), fun ⟨⟨_, _, k, _⟩, _⟩ => (by cases k)⟩
  | some x =>
    rw [leaves_of_ctx hx]
    cases ht : x.torn m
    · rw [gaveUp_kept hu hx ht]
      refine Iff.trans ?_ (and_iff_left rfl).symm
      constructor
      · rintro ⟨y, k, hy, hk, htarget, hlane, hs⟩
        cases hy
        obtain ⟨g, hg, rfl⟩ := List.mem_map.1 hk
        rw [Leg.joinIf_target] at htarget
        rw [Leg.joinIf_lane] at hlane
        unfold Leg.joinIf at hs
        split at hs
        · cases hs
        · exact ⟨x, g, rfl, hg, htarget, hlane, hs⟩
      · rintro ⟨y, g, hy, hg, htarget, hlane, hs⟩
        cases hy
        have hstays : g.joinIf r.ctx (s.joinsOf m ls) = g := if_neg fun k => by
          obtain ⟨i, hi, hj⟩ := List.mem_flatMap.1 k
          exact hl (hlane ▸ lane_of_mem_joins h m hx hg hj ▸ hi)
        exact ⟨_, _, rfl, List.mem_map_of_mem hg, by rw [hstays]; exact ⟨htarget, hlane, hs⟩⟩
    · rw [gaveUp_torn h hu hx ht]
      refine ⟨?_, fun k => absurd k.2 (by decide)⟩
      rintro ⟨y, k, hy, hk, -, -, hs⟩
      unfold Ctx.afterEnd at hy
      split at hy
      · cases hy
      · cases hy
        obtain ⟨g, -, rfl⟩ := List.mem_map.1 hk
        change (Leg.endIf _ _ g).state = _ at hs
        have hopen := Leg.unfinished_of_state hs open_pending
        have hsame := Leg.endIf_of_unfinished hopen
        rw [Leg.endIf_unfinished] at hopen
        rw [hsame] at hs
        unfold Leg.unsentOn at hopen
        rw [hs] at hopen
        simp at hopen

theorem gaveUp_ageAt {r : LegRef} (hr : r ∈ (s.gaveUp m u l).pendingFor l) : (s.gaveUp m u l).ageAt r.ctx = s.ageAt r.ctx := by
  obtain ⟨⟨x, g, hx, hg, ht, -, hs⟩, hleaves⟩ := (gaveUp_pending h hu hl r).1 ((mem_pendingFor _ l r).1 hr)
  rw [leaves_of_ctx hx, Bool.not_eq_true'] at hleaves
  rw [State.ageAt_of_ctx hx, State.ageAt_of_ctx (gaveUp_kept hu hx hleaves)]
  unfold State.age
  rw [gaveUp_admission hu]
  rfl

theorem gaveUp_pendingFor : (s.gaveUp m u l).pendingFor l = (s.pendingFor l).filter (fun r => !s.leaves m r) :=
  pendingFor_of_gone h.counted (gaveUp_stands h hu hl).counted (fun _ hr => gaveUp_ageAt h hu hl hr) (gaveUp_pending h hu hl)

theorem gaveUp_joins : ((s.gaveUp m u l).pendingFor l).take (s.leaving m l).length = s.joins m l := by
  rw [gaveUp_pendingFor h hu hl]
  unfold State.joins State.leaving
  rw [List.countP_eq_length_filter]

/-- Each leg that leaves lowers one count. -/
theorem gaveUp_inFlight (w : Master) (t : Target) :
    (s.gaveUp m u l).inFlight w t = u.inFlight w t - (s.leaving m l).countP (s.concerns w t) := by
  have hqueue : ∀ r ∈ s.leaving m l, s.HasLeg r.ctx r.target l .queued ∧ u.HasLeg r.ctx r.target l .queued := fun r hr => by
    have hin := (List.mem_filter.1 hr).1
    refine ⟨(h.queued l r).1 hin, (hu.stands.queued l r).1 ?_⟩
    rw [stage_lane hu hl]
    exact hin
  have hconcerns : ∀ r ∈ s.leaving m l, u.concerns w t r = s.concerns w t r := fun r hr => by
    obtain ⟨⟨x, -, hx, -⟩, y, -, hy, -⟩ := hqueue r hr
    have htorn := hu.torn r.ctx x hx ((leaves_of_ctx hx).symm.trans (leaves_of_mem_leaving hr))
    rw [hy] at htorn
    have hmaster : y.master = x.master := by
      unfold Ctx.afterEnd at htorn
      split at htorn
      · cases htorn
      · cases htorn; rfl
    unfold State.concerns
    rw [hx, hy, Option.any_some, Option.any_some, hmaster]
  have hall := completeAll_inFlight (s := u.setLane l { s.lane l with queue := (s.lane l).queue.filter (fun r => !s.leaves m r) })
    (o := .cancelled) (by simp) hu.stands.counted ((h.nodup l).filter _) (rs := s.leaving m l)
    (fun r hr => ⟨l, _, open_queued, (hqueue r hr).2⟩) w t
  refine hall.trans ?_
  have hcount : (s.leaving m l).countP (State.concerns (u.setLane l { s.lane l with
      queue := (s.lane l).queue.filter (fun r => !s.leaves m r) }) w t) = (s.leaving m l).countP (s.concerns w t) :=
    List.countP_congr fun r hr => by
      rw [show State.concerns (u.setLane l _) w t r = u.concerns w t r from rfl, hconcerns r hr]
  rw [hcount]
  rfl

theorem withdraw_stage : Stage s m (ls ++ [l]) (u.withdraw (legsInState (s.tornContexts m) .queued) l) := by
  obtain ⟨hlane, hctx, honly⟩ := refills_facts (s.leaving m l) (gaveUp_stands h hu hl) l
  rw [gaveUp_joins h hu hl] at hlane hctx
  have hstands := withdraw_stands hu.stands (legsInState (s.tornContexts m) .queued) l
  rw [withdraw_gaveUp h hu hl] at hstands ⊢
  refine ⟨hstands, ?_, fun i => ?_, fun c hc => ?_, fun c x hx ht => ?_, fun c x hx ht => ?_, fun w t => ?_⟩
  · rw [honly]
    exact gaveUp_admission hu
  · rw [hlane, gaveUp_lane, gaveUp_lane, if_pos rfl]
    by_cases e : i = l
    · subst e
      rw [if_pos rfl, if_pos (List.mem_append_right _ List.mem_cons_self)]
      rfl
    · rw [if_neg e, if_neg e, hu.lanes]
      have hiff : i ∈ ls ++ [l] ↔ i ∈ ls := by simp [e]
      simp only [hiff]
  · rw [hctx, gaveUp_free hu hc]
    rfl
  · rw [hctx, gaveUp_torn h hu hx ht]
    cases he : x.orphaned.afterEnd (Leg.unsentOn (ls ++ [l])) .cancelled with
    | none => rfl
    | some y =>
      have hstays : y.joined c (s.joins m l) = y.joined c [] := Ctx.joined_congr fun g _ => by
        refine ⟨fun hj => ?_, fun hj => absurd hj List.not_mem_nil⟩
        have hleaves := (List.mem_filter.1 (List.mem_of_mem_take hj)).2
        rw [leaves_of_ctx (r := ⟨c, g.target⟩) hx, ht] at hleaves
        cases hleaves
      rw [Option.map_some, hstays, Ctx.joined_nil]
  · rw [hctx, gaveUp_kept hu hx ht, Option.map_some, Ctx.joined_joined]
    unfold State.joinsOf
    rw [List.flatMap_append, List.flatMap_singleton]
  · have hsame : ((s.gaveUp m u l).refills l (s.leaving m l)).inFlight w t = (s.gaveUp m u l).inFlight w t := by
      unfold State.inFlight State.record
      rw [honly]
    rw [hsame, gaveUp_inFlight h hu hl, hu.inFlight]
    unfold State.cancelledOf
    rw [List.flatMap_append, List.flatMap_singleton, ← List.append_assoc, List.countP_append (l₂ := s.leaving m l), Nat.sub_sub]

end

theorem orphanMaster_stage {s : State} (h : s.LegsStand) (m : Master) : Stage s m (List.finRange 12) (s.orphanMaster m) := by
  have hfold : ∀ (rest ls : List LaneId) (u : State), (ls ++ rest).Nodup → Stage s m ls u →
      Stage s m (ls ++ rest) (rest.foldl (fun acc l => acc.withdraw (legsInState (s.tornContexts m) .queued) l) u) := by
    intro rest
    induction rest with
    | nil => intro ls u _ hu; rw [List.append_nil]; exact hu
    | cons l rest ih =>
      intro ls u hnodup hu
      have hl : l ∉ ls := fun k => (List.nodup_append.1 hnodup).2.2 l k l List.mem_cons_self rfl
      have happend : ls ++ l :: rest = ls ++ [l] ++ rest := List.append_cons ..
      rw [happend] at hnodup ⊢
      exact ih (ls ++ [l]) _ hnodup (withdraw_stage h hu hl)
  rw [orphanMaster_eq]
  exact hfold (List.finRange 12) [] _ (List.nodup_finRange 12) (pendingCancelled_stage h m)

end Sys2Proof.Machine
end

section
/-! SUPPORT. What a teardown leaves of the legs (R71 to R75, R92, R106), as the statement writes it. -/

namespace Sys2Proof.Machine

/-- A leg that has not been sent. -/
def Leg.unsent (g : Leg) : Bool := g.state == .pending || g.state == .queued

/-- The first state's legs in the second, after a teardown of the master. -/
structure TornLegs (s : State) (m : Master) (t : State) : Prop where
  lanes    : ∀ l, t.lane l = s.tornLane m l
  free     : ∀ c, s.ctx c = none → t.ctx c = none
  kept     : ∀ c x, s.ctx c = some x → x.torn m = false → t.ctx c = some { x with
    legs := x.legs.map (fun g => if (⟨c, g.target⟩ : LegRef) ∈ s.joins m g.lane then { g with state := .queued } else g) }
  torn     : ∀ c x, s.ctx c = some x → x.torn m = true →
    let left := x.legs.countP (fun g => g.state = .issued)
    let legs := x.legs.map (fun g => if g.unsent then { g with state := .done .cancelled, data := none } else g)
    (left = 0 → t.ctx c = none) ∧
    (0 < left → t.ctx c = some { x with
      state := .orphan, legs := legs, unfinished := left, firstFailure := legs.findSome? Leg.failure })
  inFlight : ∀ v, t.inFlight m v = s.inFlight m v - s.contextsWith (fun x g => x.torn m && g.target == v && g.unsent)
  other    : ∀ v, t.inFlight m.other v = s.inFlight m.other v

/-! ## The Tracker's and the Lane Engines' parts -/

theorem unsentOn_all (g : Leg) : g.unsentOn (List.finRange 12) = g.unsent := by
  unfold Leg.unsentOn Leg.unsent
  rw [decide_eq_true (List.mem_finRange g.lane), Bool.and_true]

theorem unsent_unfinished {g : Leg} (h : g.unsent = true) : g.unfinished = true := by
  unfold Leg.unsent at h
  rw [Leg.unfinished_iff]
  rintro o e
  rw [e] at h
  cases h

/-- Of the unfinished legs the ISSUED ones are those that were sent. -/
theorem unfinished_sent_iff (g : Leg) : (g.unfinished && !g.unsent) = decide (g.state = .issued) := by
  unfold Leg.unsent Leg.unfinished Leg.outcome
  cases g.state <;> rfl

theorem endIf_unsent (g : Leg) : g.endIf (Leg.unsentOn (List.finRange 12)) .cancelled =
    if g.unsent then { g with state := .done .cancelled, data := none } else g := by
  unfold Leg.endIf
  rw [unsentOn_all]
  cases h : g.unsent
  · rw [Bool.and_false]
  · rw [unsent_unfinished h]
    rfl

section
variable {s : State} (h : s.LegsStand) (m : Master)
include h

theorem mem_cancelledOf {r : LegRef} : r ∈ s.cancelledOf m (List.finRange 12) ↔
    s.leaves m r = true ∧ ∃ l v, (v = .pending ∨ v = .queued) ∧ s.HasLeg r.ctx r.target l v := by
  unfold State.cancelledOf State.leaving
  rw [List.mem_append, mem_legsInState_torn, List.mem_flatMap]
  simp only [List.mem_finRange, true_and, List.mem_filter, h.queued]
  constructor
  · rintro (⟨hl, l, k⟩ | ⟨l, k, hl⟩)
    · exact ⟨hl, l, _, .inl rfl, k⟩
    · exact ⟨hl, l, _, .inr rfl, k⟩
  · rintro ⟨hl, l, v, rfl | rfl, k⟩
    · exact .inl ⟨hl, l, k⟩
    · exact .inr ⟨l, k, hl⟩

theorem cancelledOf_nodup : (s.cancelledOf m (List.finRange 12)).Nodup := by
  have hqueued : ∀ {l r}, r ∈ s.leaving m l → s.HasLeg r.ctx r.target l .queued := fun hr =>
    (h.queued _ _).1 (List.mem_filter.1 hr).1
  have hlanes : ((List.finRange 12).flatMap (s.leaving m)).Nodup := by
    refine List.nodup_flatMap.2 ⟨fun l _ => (h.nodup l).filter _, (List.nodup_finRange 12).imp fun {l i} hli r hr hq => ?_⟩
    exact hli (h.counted.hasLeg_unique (hqueued hr) (hqueued hq)).1
  refine (legsInState_torn_nodup h m .pending).append hlanes fun r hp hq => ?_
  obtain ⟨-, l, hpending⟩ := mem_legsInState_torn.1 hp
  obtain ⟨i, -, hr⟩ := List.mem_flatMap.1 hq
  cases (h.counted.hasLeg_unique hpending (hqueued hr)).2

theorem countP_cancelledOf (v : Target) : (s.cancelledOf m (List.finRange 12)).countP (s.concerns m v) =
    s.contextsWith fun x g => x.torn m && g.target == v && g.unsent := by
  refine contextsWith_eq_countP (t := v) (cancelledOf_nodup h m) fun r => ?_
  rw [mem_cancelledOf h]
  unfold State.concerns
  simp only [Bool.and_eq_true, beq_iff_eq]
  constructor
  · rintro ⟨⟨hl, l, w, hw, x, g, hx, hg, ht, -, hs⟩, hr, -⟩
    refine ⟨hr, x, g, hx, hg, ⟨(leaves_of_ctx hx).symm.trans hl, ht.trans hr⟩, ?_⟩
    unfold Leg.unsent
    rw [hs]
    rcases hw with rfl | rfl <;> rfl
  · rintro ⟨hr, x, g, hx, hg, ⟨htorn, ht⟩, hu⟩
    unfold Leg.unsent at hu
    rw [Bool.or_eq_true, beq_iff_eq, beq_iff_eq] at hu
    refine ⟨⟨(leaves_of_ctx hx).trans htorn, g.lane, g.state, hu, x, g, hx, hg, ht.trans hr.symm, rfl, rfl⟩, hr, ?_⟩
    rw [hx, Option.any_some, beq_iff_eq]
    exact ((torn_iff m x).1 htorn).1

/-- No leg of the other master is cancelled. -/
theorem countP_cancelledOf_other (v : Target) : (s.cancelledOf m (List.finRange 12)).countP (s.concerns m.other v) = 0 := by
  refine List.countP_eq_zero.2 fun r hr hconcerns => ?_
  obtain ⟨hl, -, -, -, x, -, hx, -⟩ := (mem_cancelledOf h m).1 hr
  have hmaster := ((torn_iff m x).1 ((leaves_of_ctx hx).symm.trans hl)).1
  unfold State.concerns at hconcerns
  rw [hx, Option.any_some, Bool.and_eq_true, beq_iff_eq, beq_iff_eq, hmaster] at hconcerns
  cases m <;> cases hconcerns.2

theorem orphanMaster_tornLegs : TornLegs s m (s.orphanMaster m) := by
  have hstage := orphanMaster_stage h m
  refine ⟨fun l => ?_, hstage.free, fun c x hx ht => ?_, fun c x hx ht => ?_, fun v => ?_, fun v => ?_⟩
  · rw [hstage.lanes, if_pos (List.mem_finRange l)]
  · rw [hstage.kept c x hx ht]
    refine congrArg (fun legs => some { x with legs := legs }) (List.map_congr_left fun g hg => ?_)
    have hiff : (⟨c, g.target⟩ : LegRef) ∈ s.joinsOf m (List.finRange 12) ↔ (⟨c, g.target⟩ : LegRef) ∈ s.joins m g.lane := by
      unfold State.joinsOf
      rw [List.mem_flatMap]
      exact ⟨fun ⟨l, _, hj⟩ => (lane_of_mem_joins h m hx hg hj) ▸ hj, fun hj => ⟨g.lane, List.mem_finRange _, hj⟩⟩
    unfold Leg.joinIf
    simp only [hiff]
  · intro left legs
    have hctx := hstage.torn c x hx ht
    have hleft : x.orphaned.left (Leg.unsentOn (List.finRange 12)) = left :=
      List.countP_congr fun g _ => by rw [unsentOn_all, unfinished_sent_iff]
    have hlegs : x.orphaned.legs.map (Leg.endIf (Leg.unsentOn (List.finRange 12)) .cancelled) = legs :=
      List.map_congr_left fun g _ => endIf_unsent g
    have hend : x.orphaned.endWhere (Leg.unsentOn (List.finRange 12)) .cancelled = { x with
        state := .orphan, legs := legs, unfinished := left, firstFailure := legs.findSome? Leg.failure } := by
      rw [← hlegs, ← hleft]
      rfl
    unfold Ctx.afterEnd at hctx
    rw [hleft, hend] at hctx
    exact ⟨fun hz => hctx.trans (if_pos hz), fun hz => hctx.trans (if_neg (Nat.pos_iff_ne_zero.1 hz))⟩
  · rw [hstage.inFlight, countP_cancelledOf h]
  · rw [hstage.inFlight, countP_cancelledOf_other h, Nat.sub_zero]

end

/-! ## What the rest of a teardown leaves of the legs -/

/-- The two states agree in all that says where legs stand and how many are in flight. -/
structure SameLegs (s t : State) : Prop where
  contexts  : t.contexts = s.contexts
  lanes     : t.lanes = s.lanes
  admission : t.admission = s.admission
  inFlight  : ∀ w v, t.inFlight w v = s.inFlight w v

theorem SameLegs.refl (s : State) : SameLegs s s := ⟨rfl, rfl, rfl, fun _ _ => rfl⟩

theorem SameLegs.trans {s t u : State} (h : SameLegs s t) (k : SameLegs t u) : SameLegs s u :=
  ⟨k.contexts.trans h.contexts, k.lanes.trans h.lanes, k.admission.trans h.admission,
    fun w v => (k.inFlight w v).trans (h.inFlight w v)⟩

section
variable {s s' t t' : State} {m : Master}

theorem SameLegs.lane (h : SameLegs s s') (l : LaneId) : s'.lane l = s.lane l := by
  unfold State.lane; rw [h.lanes]

theorem SameLegs.stands (h : SameLegs s s') (hs : s.LegsStand) : s'.LegsStand :=
  legsStand_congr h.contexts (fun l => congrArg Lane.places (h.lane l)) hs

theorem SameLegs.tornLegs (h : SameLegs s s') (k : TornLegs s' m t') (ht : SameLegs t' t) : TornLegs s m t := by
  have hctx : ∀ c, s'.ctx c = s.ctx c := ctx_of_contexts h.contexts
  have hctx' : ∀ c, t.ctx c = t'.ctx c := ctx_of_contexts ht.contexts
  have hleaves : s'.leaves m = s.leaves m := funext fun r => by unfold State.leaves; rw [hctx]
  have hjoins : ∀ l, s'.joins m l = s.joins m l := fun l => by
    unfold State.joins
    rw [hleaves, h.lane, pendingFor_congr h.contexts h.admission]
  have hcount : ∀ p, s'.contextsWith p = s.contextsWith p := fun p => by
    unfold State.contextsWith State.usedContexts
    simp only [hctx]
  refine ⟨fun l => ?_, fun c hc => ?_, fun c x hx hx' => ?_, fun c x hx hx' => ?_, fun v => ?_, fun v => ?_⟩
  · rw [ht.lane, k.lanes]
    unfold State.tornLane
    rw [h.lane, hleaves, hjoins]
  · exact (hctx' c).trans (k.free c ((hctx c).trans hc))
  · rw [hctx', k.kept c x ((hctx c).trans hx) hx']
    simp only [hjoins]
  · rw [hctx']
    exact k.torn c x ((hctx c).trans hx) hx'
  · rw [ht.inFlight, k.inFlight, h.inFlight, hcount]
  · rw [ht.inFlight, k.other, h.inFlight]

end

theorem occur_sameLegs (s : State) {x : Source} {f : FaultFields} (h : ¬ Fences x f) : SameLegs s (s.occur x f) where
  contexts := (occur_reports s h).contexts
  lanes := (occur_reports s h).lanes
  admission := congrArg Fixed.admission (occur_frame s x f).fixed
  inFlight := fun w v => occur_inFlight s x f w v fun k => h k.2

theorem modifyPort_sameLegs (s : State) (m : Master) (f : Port → Port) : SameLegs s (s.modifyPort m f) := by
  cases m <;> exact ⟨rfl, rfl, rfl, fun _ _ => rfl⟩

theorem disowned_sameLegs (s : State) (m : Master) : SameLegs s (s.disowned m) := by
  obtain ⟨claims, hclaims⟩ := freeClaimsOf_eq s m
  rw [State.disowned, hclaims]
  cases m <;> exact ⟨rfl, rfl, rfl, fun _ _ => rfl⟩

theorem OnlyAlerts.sameLegs {s t : State} (h : OnlyAlerts s t) : SameLegs s t where
  contexts := by rw [h]
  lanes := by rw [h]
  admission := by rw [h]
  inFlight := fun w v => by rw [h]; rfl

theorem upStart_sameLegs (s : State) (m : Master) : SameLegs s (s.upStart m) := by
  unfold State.upStart
  split
  · exact .refl s
  · exact (modifyPort_sameLegs ..).trans (occur_sameLegs _ (ofMaster_fences_not _ m))

theorem takeMasterHello_sameLegs (s : State) (m : Master) (value : Byte) : SameLegs s (s.takeMasterHello m value) := by
  unfold State.takeMasterHello
  split
  · exact (modifyPort_sameLegs ..).trans (testAlert_only ..).sameLegs
  · exact occur_sameLegs _ (ofMaster_fences_not _ m)

theorem tearDown_tornLegs {s : State} (h : s.LegsStand) (m : Master) : TornLegs s m (s.tearDown m) := by
  have hport := modifyPort_sameLegs s m (Port.tearDown s.timebase)
  refine hport.tornLegs (orphanMaster_tornLegs (hport.stands h) m) ?_
  rw [tearDown_eq]
  exact (disowned_sameLegs _ m).trans (occur_sameLegs _ (ofMaster_fences_not _ m))

/-- Settles O9: lane by lane the teardown keeps `Stage`, and what comes after it moves no leg. -/
theorem teardownCancelsUnsentLegs : Obligations.TeardownCancelsUnsentLegs := by
  unfold Obligations.TeardownCancelsUnsentLegs
  intro s m i hrun hplaced hup hi torn unsent leaves joins
  have hstands := (legsPlaced_standing (s := s) (by unfold State.resetDue; rw [hrun])).1 hplaced
  have htorn : ∃ t, exec i s = .next t ∧ TornLegs s m t := by
    rcases hi with ⟨rfl, harrived⟩ | ⟨value, rfl⟩
    · exact ⟨_, happens_eq hrun (linkLossEvent_lost hup harrived), tearDown_tornLegs hstands m⟩
    · have hstart := upStart_sameLegs s m
      exact ⟨_, happens_eq hrun (masterHelloEvent_up hup value), hstart.tornLegs (tearDown_tornLegs (hstart.stands hstands) m)
        (takeMasterHello_sameLegs ..)⟩
  obtain ⟨t, ht, hlanes, hfree, hkept, hgone, hcount, hother⟩ := htorn
  exact ⟨t, ht, hlanes, hfree, hkept, hgone, hcount, hother⟩

end Sys2Proof.Machine
end
